-- ==== Sys2Proof/Word.lean ====
section
/-! DEFINITION. The word types of the part's ports and the plainest arithmetic over counters and figures. -/

namespace Sys2Proof

/-- A byte of the control link, of a label or of the serial flash (R164, R175). -/
abbrev Byte := BitVec 8

/-- The payload of a pixel-port word, and a frame or roll tag (R100, R101, Table 9-1). -/
abbrev Word32 := BitVec 32

/-- The bytes of a 16-bit number, most significant first (R165). -/
def be16 (x : BitVec 16) : List Byte :=
  [x.extractLsb' 8 8, x.extractLsb' 0 8]

/-- The bytes of a 32-bit number, most significant first (R165). -/
def be32 (x : BitVec 32) : List Byte :=
  [x.extractLsb' 24 8, x.extractLsb' 16 8, x.extractLsb' 8 8, x.extractLsb' 0 8]

/-- A counter advanced by `k` that stays at its stated maximum (section 0.4.5). -/
def satAdd (max n k : Nat) : Nat := min max (n + k)

/-- A figure kept within plus and minus a limit. -/
def clampTo (limit : Nat) (x : Int) : Int := max (-(limit : Int)) (min limit x)

end Sys2Proof
end

