-- ==== Sys2Proof/Syntax.lean ====
section
/-! DEFINITION. The commands of the part: one constructor of `Instr` per row of spec/opcode_table.json, with the
row's operands. A request command carries its fields as the control link sent them (R165), so a field outside
its stated range is a value of its operand, and the owning block answers RANGE. -/

namespace Sys2Proof

/-- The three laser channels, in the order of the manual's lists (R, G, B). -/
inductive Chan where
  | red | grn | blu
deriving DecidableEq, Repr

/-- One value for each of the three channels. -/
structure Rgb (α : Type) where
  red : α
  grn : α
  blu : α
deriving DecidableEq, Repr

/-- How a pixel-port word began (log entry 5). -/
inductive WordStart where
  /-- its first bit arrived while READY was asserted -/
  | ready
  /-- its first bit arrived while READY was deasserted: an overrun where R107 counts one -/
  | notReady
  /-- it was under way at a reset and is discarded (R117) -/
  | beforeReset
deriving DecidableEq, Repr

/-- What stands on the part's inputs when a power-on reset ends (R162, R174, R181, R184). -/
structure ResetPins where
  seated : Bool
  xportFault : Bool
  safeOpen : Bool
  loadAtStart : Bool
  /-- CL_CS is low: a transaction is under way whose first bytes were lost (R174) -/
  clCsLow : Bool
  /-- a serial flash answers on the image memory port (R181) -/
  flashAnswers : Bool
deriving DecidableEq, Repr

/-- The configuration fields of SETUP_WRITE, in the order R67 lists them. -/
structure SetupFields where
  profileId : BitVec 16
  format : Byte
  srcWidth : BitVec 16
  srcHeight : BitVec 16
  x0 : BitVec 16
  x1 : BitVec 16
  y0 : BitVec 16
  y1 : BitVec 16
  mirror : Byte
  prescale : Byte
  scaler : Byte
  leftMargin : BitVec 16
  topMargin : BitVec 16
  stepsPerLine : Byte
  stride : Byte
  stalePolicy : Byte
deriving DecidableEq, Repr

/-- The seven settings of ENGINE_CONFIGURE, in the order of Table 7-3. -/
structure EngineFields where
  nominal : BitVec 32
  tolerance : Byte
  scanLead : BitVec 16
  scanSpan : BitVec 32
  facetTimeout : BitVec 16
  sampleExp : Byte
  refclkPerMs : BitVec 32
deriving DecidableEq, Repr

/-- The six channel settings of CHANNEL_CONFIGURE, in the order of Table 8-2. -/
structure ChannelFields where
  settleBand : Byte
  settleCount : Byte
  rewakeCount : Byte
  warmTimeout : BitVec 16
  driftLimit : Byte
  driftDivisor : Byte
deriving DecidableEq, Repr

/-- A read transaction (R168): its whole bytes, and whether it began while the link was PROCESSING (log entry 47). -/
structure ReadTransfer where
  notDone : Bool
  bytes : Nat
deriving DecidableEq, Repr

/-- The commands, in the order of spec/opcode_table.json. -/
inductive Instr where
  -- resets and the control link
  | powerOnReset (pins : ResetPins)
  | requestTransaction (bytes : List Byte)
  | readTransaction (read : ReadTransfer)
  | identify
  | softReset
  | eventsRead
  | eventsClear (mask : BitVec 16)
  | eventsEnable (mask : BitVec 16)
  -- stock profiles
  | profileCreate (id : BitVec 16) (label : List Byte)
  | profileStage (id : BitVec 16) (source : Byte)
  | profilePutCurve (id : BitVec 16) (chan : Byte) (knots : List (BitVec 16 × BitVec 16))
  | profilePutTerms (id : BitVec 16) (trims : Rgb (BitVec 16)) (darks : Rgb (BitVec 16)) (life : BitVec 16) (label : List Byte)
  | profileCommit (id : BitVec 16)
  | profileDiscard (id : BitVec 16)
  | profileRetire (id : BitVec 16)
  | profileList
  | profileQuery (id : BitVec 16)
  | profileReadCurve (id : BitVec 16) (bank : Byte) (chan : Byte) (first : Byte) (count : Byte)
  | profileEvaluate (id : BitVec 16) (bank : Byte) (chan : Byte) (code : BitVec 16) (position : BitVec 16) (facet : Byte)
  -- optical corrections
  | opticsStage (source : Byte)
  | opticsPutFacets (facets : List (Byte × Byte))
  | opticsPutShading (chan : Byte) (knots : Vector Byte 65)
  | opticsCommit
  | opticsDiscard
  | opticsRead (bank : Byte) (part : Byte)
  -- print setups
  | setupWrite (slot : Byte) (fields : SetupFields)
  | setupArm (slot : Byte)
  | setupDisarm (slot : Byte)
  | setupQuery (slot : Byte)
  -- the frame cycle and the pixel port
  | frameCancel
  | frameStatus
  | frameConfigure (startTimeout : BitVec 16)
  | portConfigure (lanes : Byte) (lineWaitLimit : BitVec 16)
  | portStatus
  -- the scan engine
  | engineConfigure (fields : EngineFields)
  | engineQuery
  -- the laser channels
  | channelOn (chan : Byte)
  | channelBias (chan : Byte)
  | channelOff (chan : Byte)
  | channelClear (chan : Byte)
  | channelConfigure (chan : Byte) (fields : ChannelFields) (idleBiasDelay : BitVec 16)
  | channelSetReference (chan : Byte) (value : BitVec 16)
  | channelCaptureReference (chan : Byte)
  | channelQuery (chan : Byte)
  -- the film transport
  | rollLoad (tag : Word32) (capacity : BitVec 16) (lowMark : BitVec 16)
  | rollUnload
  | rollAdvance (frames : BitVec 16)
  | rollQuery
  -- the image memory
  | imageSave
  | imageLoad
  | imageStatus
  -- words taken on the pixel port
  | frameStart (start : WordStart)
  | lineStart (start : WordStart) (number : Word32)
  | dataWord (start : WordStart) (payload : Word32)
  | frameEnd (start : WordStart)
  /-- the tag is 0xC plus `tagLow` -/
  | undefinedTagWord (start : WordStart) (tagLow : BitVec 2)
  -- steps of the frame cycle and of the input lines
  | headerTaken
  | headerFailureTaken
  | seatedRise
  | seatedFall
  | xportFaultAsserted
  | xportFaultDeasserted
  | safeOpen
  | safeClose
  -- the polygon and the monitor
  /-- `periods` REFCLK periods have passed beyond those in the period count (log entry 2) -/
  | facet (periods : Nat)
  | index
  | lineComplete
  | monitorWindowOpen
  | monitorReading (chan : Chan) (reading : BitVec 12)
  | stepGroupEnd
  -- the millisecond tick and the timeouts
  | millisecondTick
  | startTimeout
  | lineWaitLimitPassed
  | stall
  | warmTimeout (chan : Chan)
  | autoBias
  | advancePullTimeout
  -- the serial flash, and the owning block's answer
  | flashOperationDone
  | imageOperationTimeout
  | imageRecordRead
  | requestAnswered
deriving DecidableEq, Repr

end Sys2Proof
end

