-- ==== Sys2Proof/Config.lean ====
section
/-! DEFINITION. The figures the part fixes (capacities, limits, identification) and the one free value of the model. -/

namespace Sys2Proof.Config

/-- Records of the profile table (R1). -/
def profileCapacity : Nat := 24

/-- Records of the setup table (R65). -/
def setupCount : Nat := 8

/-- The part code that IDENTIFY reports (R173). -/
def partCode : Nat := 0x0310

/-- The silicon revision that IDENTIFY reports (R173). -/
def siliconRevision : Nat := 1

/-- The maximum of a 16-bit counter (sections 0.4.5, 1.1, 6.2). -/
def max16 : Nat := 65535

/-- The maximum of a 32-bit counter (Tables 4-1, 4-3, 5-1). -/
def max32 : Nat := 4294967295

/-- The maximum of the period count, 2^24 - 1 (R119). -/
def maxPeriod : Nat := 16777215

/-- The most lines a frame can have exposed (Table 5-1). -/
def maxLines : Nat := 8192

/-- The operation limit of the image memory in milliseconds (R180). -/
def operationLimit : Nat := 500

/-- Greatest number of body bytes of a message (R164). -/
def maxBody : Nat := 250

/-- The scan clearance of the fit test in REFCLK periods (R68). -/
def scanClearance : Nat := 128

/-- The monitor window's reference drive: tier 3, level 2048 (R127). -/
def referenceTier : Nat := 3

/-- The level of the reference drive (R127). -/
def referenceLevel : Nat := 2048

/-- Bytes of one flash page: no program operation crosses one (R175). -/
def flashPage : Nat := 256

/-- FREE VALUE (log entry 17). The byte that lies at an address of the image region after the `n`-th
failed erase: "the region holds whatever the flash has left" (R180). Nothing constrains it. -/
opaque flashLeft : Nat → Nat → BitVec 8

end Sys2Proof.Config
end

