-- ==== Sys2Proof/Machine/State.lean ====
section
/-! DEFINITION. The state of the part as plain data: every table, record, buffer, counter, mode and line the spec
gives it, the queue of waiting commands, the outcomes' reasons, and the state after power-on reset. -/

namespace Sys2Proof.Machine

open Sys2Proof

/-! ## Stock profiles (Chapter 1) -/

/-- The two calibration banks of a profile, and the two banks of the optics set. -/
inductive Bank where
  | a | b
deriving DecidableEq, Repr

/-- A knot of a curve: a code and an exposure in stop units (R4). -/
structure Knot where
  code : Nat
  exposure : Nat
deriving DecidableEq, Repr

/-- A knot list (R4). -/
abbrev Curve := List Knot

/-- The contents of one bank (Table 1-5). A curve is absent only in a bank open for staging: the staged curve
mark of a channel is whether its curve is present (R3, log entry 35). -/
structure Calibration where
  revision : Option Nat
  curves : Rgb (Option Curve)
  trims : Rgb Int
  darks : Rgb Nat
  life : Nat
deriving DecidableEq, Repr

/-- The states of an occupied record; a FREE record is one the table does not hold (R1, log entry 34). -/
inductive ProfileState where
  | draft | active | stale | retiring
deriving DecidableEq, Repr

/-- Staging open on a record: its bank and the staged label (Table 1-4). -/
structure Staging where
  bank : Bank
  label : List Byte
deriving DecidableEq, Repr

/-- An occupied profile record (Table 1-4). -/
structure Profile where
  id : Nat
  label : List Byte
  state : ProfileState
  active : Option Bank
  staging : Option Staging
  bankA : Option Calibration
  bankB : Option Calibration
  frames : Nat
  bound : Nat
  pinned : Option Bank
deriving DecidableEq, Repr

/-! ## Optical corrections (Chapter 3) -/

/-- A set of corrections (Table 3-1). -/
structure Corrections where
  revision : Option Nat
  facets : Nat
  gains : List Int
  delays : List Int
  shading : Rgb (Vector Int 65)
deriving DecidableEq, Repr

/-- The optics set (R50). The current bank is never empty; `other` holds the bank that is not current. -/
structure Optics where
  current : Bank
  cur : Corrections
  other : Option Corrections
  staging : Bool
  pinned : Option Bank
deriving DecidableEq, Repr

/-! ## Print setups (Chapter 4) -/

/-- Pixel formats, in the order L10, L12 (Table 4-1). -/
inductive Format where
  | l10 | l12
deriving DecidableEq, Repr

/-- Stale policies (Table 4-1). -/
inductive StalePolicy where
  | expose | refuse
deriving DecidableEq, Repr

/-- The configuration of a setup (Table 4-1). -/
structure SetupConfig where
  profileId : Nat
  format : Format
  srcWidth : Nat
  srcHeight : Nat
  x0 : Nat
  x1 : Nat
  y0 : Nat
  y1 : Nat
  mirror : Bool
  prescale : Nat
  scaler : Nat
  leftMargin : Nat
  topMargin : Nat
  stepsPerLine : Nat
  stride : Nat
  stalePolicy : StalePolicy
deriving DecidableEq, Repr

/-- Results of a frame (Table 4-3). -/
inductive Result where
  | exposed | spoiled | refused
deriving DecidableEq, Repr

/-- Refusal and spoil causes, in the one list R165 codes them by. -/
inductive Cause where
  | format | setupIdle | shape | stale | roll | xport | interlock | channel
  | startTimeout | gate | sync | starve | cancel | reset
deriving DecidableEq, Repr

/-- A frame report (Table 4-3). -/
structure Report where
  tag : Word32
  result : Result
  cause : Option Cause
  profileId : Option Nat
  profileRev : Option Nat
  opticsRev : Option Nat
  lines : Nat
  starved : Nat
  low : Nat
  high : Nat
  stale : Bool
deriving DecidableEq, Repr

/-- A setup record (Table 4-1): IDLE or ARMED, the configuration, the three counts and the last report. -/
structure Setup where
  armed : Bool
  config : SetupConfig
  exposed : Nat
  spoiled : Nat
  refused : Nat
  report : Option Report
deriving DecidableEq, Repr

/-! ## The frame cycle (Chapter 5) -/

/-- Frame cycle states (Table 5-2). -/
inductive FrameState where
  | idle | seating | readying | exposing | draining
deriving DecidableEq, Repr

/-- Margin stepped (Table 5-1). -/
inductive Margin where
  | no | underWay | done
deriving DecidableEq, Repr

/-- The fields of the frame record that are filled at the latch point (Table 5-1). -/
structure Latched where
  profileId : Nat
  profileRev : Nat
  opticsRev : Nat
  stale : Bool
  lines : Nat
  starved : Nat
  low : Nat
  high : Nat
deriving DecidableEq, Repr

/-- The frame record and the frame cycle's configuration (Table 5-1), with what the frame cycle holds beside
it: the line group that is pending with its pulses (R85), and the FORMAT failures of headers it was told of and has
not taken, oldest first, each with whether a FRAME_END is held with it (R107, log entry 10). -/
structure FrameCycle where
  state : FrameState
  slot : Option (Fin 8)
  tag : Option Word32
  result : Option Result
  cause : Option Cause
  latched : Option Latched
  startTimer : Nat
  margin : Margin
  stride : Nat
  lineWait : Nat
  endSeen : Bool
  startTimeout : Nat
  pendingGroup : Option Nat
  failures : List Bool
deriving DecidableEq, Repr

/-! ## The pixel port (Chapter 6) -/

/-- Port states (Table 6-2). -/
inductive PortState where
  | waitFrame | header | betweenLines | inLine | drain
deriving DecidableEq, Repr

/-- A complete header: the five fields of R103, and the low half of word 0 that check 1 of R81 tests (log entry 29). -/
structure Header where
  slot : Nat
  format : Nat
  srcWidth : Nat
  srcHeight : Nat
  tag : Word32
  low : Nat
deriving DecidableEq, Repr

/-- Line buffer states (R110). -/
inductive BufferState where
  | empty | filling | full | exposing
deriving DecidableEq, Repr

/-- A line buffer (R110): the source line it holds and its pixels as 12-bit codes, the stored ones in exposure order. -/
structure LineBuffer where
  state : BufferState
  line : Nat
  pixels : List (Rgb Nat)
deriving DecidableEq, Repr

/-- A word under way on the lanes (R100): how it began, the lane count in force at its first bit (R116), and its bits taken so
far, the earliest first. -/
structure WordUnderWay where
  start : WordStart
  lanes : Nat
  bits : List Bool
deriving DecidableEq, Repr

/-- The port state, the port record (R103), the two line buffers, the word under way, and whether the port waits for the lanes to be low
after a word that a soft reset discarded (R117). `format`, `srcWidth` and `srcHeight` are the
figures in force when the frame's header was taken; `words` holds the header words received, newest first, and
`prev` the previous data word of the line, of which an L12 pixel may need the low bits (R102). -/
structure Port where
  state : PortState
  words : List Word32
  waiting : Option Header
  format : Format
  srcWidth : Nat
  srcHeight : Nat
  expected : Nat
  received : Nat
  wordCount : Nat
  prev : Word32
  settled : Bool
  strayRun : Bool
  strays : Nat
  errors : Nat
  lanes : Nat
  lineWaitLimit : Nat
  buf0 : LineBuffer
  buf1 : LineBuffer
  underWay : Option WordUnderWay
  awaitLow : Bool
deriving DecidableEq, Repr

/-! ## The scan engine (Chapter 7) -/

/-- Engine states (Table 7-1). -/
inductive EngineState where
  | stopped | acquiring | locked
deriving DecidableEq, Repr

/-- Revolution marks (Table 7-1). -/
inductive RevMark where
  | none | good | bad
deriving DecidableEq, Repr

/-- The monitor window (R127, R128): none, still to open on a facet that takes a sample, or open with the channels whose
readings are not yet delivered. `line` says that the facet carries an exposed line. -/
inductive Window where
  | none
  | scheduled (facet : Nat) (line : Bool)
  | opened (facet : Nat) (line : Bool) (toRead : List Chan)
deriving DecidableEq, Repr

/-- The engine configuration (Table 7-3). -/
structure EngineConfig where
  nominal : Nat
  tolerance : Nat
  scanLead : Nat
  scanSpan : Nat
  facetTimeout : Nat
  sampleExp : Nat
  refclkPerMs : Nat
deriving DecidableEq, Repr

/-- The engine record (Table 7-1), its configuration, and the count of REFCLK periods of the millisecond in
progress (R129). -/
structure Engine where
  state : EngineState
  revCount : Option Nat
  facet : Option Nat
  mark : RevMark
  good : Nat
  lastPeriod : Nat
  periodCount : Nat
  facetTimer : Nat
  samplePhase : Nat
  lastExposed : Option Nat
  window : Window
  config : EngineConfig
  msCount : Nat
deriving DecidableEq, Repr

/-- The line context of the line being exposed (R42), with its buffer, its first slot's place and its slot length
(R125). The line counts start at 0 at the FACET and take the line's clamps when its last slot has been driven (log entry 13). -/
structure LineContext where
  profileId : Nat
  profileBank : Bank
  opticsBank : Bank
  facet : Nat
  gain : Int
  drift : Rgb Int
  leftMargin : Nat
  width : Nat
  buffer : Nat
  start : Nat
  slotLength : Nat
  low : Nat
  high : Nat
deriving DecidableEq, Repr

/-- What drives a channel's modulator lines (R126): nothing (enable off, tier 0, level 0), the slots of the line being
exposed, or the reference drive of an open monitor window. -/
inductive Drive where
  | off | slots | reference
deriving DecidableEq, Repr

/-! ## The laser channels (Chapter 8) -/

/-- Channel states (Table 8-1). -/
inductive ChannelState where
  | dark | warming | biased | ready | fault
deriving DecidableEq, Repr

/-- Fault causes (Table 8-1). -/
inductive FaultCause where
  | darkMonitor | warmTimeout | drift
deriving DecidableEq, Repr

/-- Outcomes of the latest reference capture (Table 8-1). -/
inductive Capture where
  | none | taken | overRange | dropped
deriving DecidableEq, Repr

/-- The configuration of one channel (Table 8-2). -/
structure ChannelConfig where
  settleBand : Nat
  settleCount : Nat
  rewakeCount : Nat
  warmTimeout : Nat
  driftLimit : Nat
  driftDivisor : Nat
deriving DecidableEq, Repr

/-- A channel record (Table 8-1). -/
structure Channel where
  state : ChannelState
  target : Nat
  stableRun : Nat
  first : Bool
  warmTimer : Nat
  drift : Int
  lastRaw : Option Int
  lastM : Option Nat
  outRun : Nat
  faultCause : Option FaultCause
  ref : Nat
  capture : Bool
  lastCapture : Capture
  config : ChannelConfig
deriving DecidableEq, Repr

/-- The idle bias delay and the idle timer the three channels share (Table 8-1). -/
structure IdleBias where
  delay : Nat
  seconds : Nat
  millis : Nat
deriving DecidableEq, Repr

/-! ## The film transport (Chapter 9) -/

/-- The roll's figures, held in LOADED (Table 9-1). -/
structure Roll where
  tag : Word32
  capacity : Nat
  remaining : Nat
  lowMark : Nat
  pulls : Nat
deriving DecidableEq, Repr

/-- Where a roll advance stands (Table 9-1). -/
inductive AdvancePull where
  | waitingGroup | seating
deriving DecidableEq, Repr

/-- The roll advance in progress: pulls still to issue, where it stands, and the start timeout in force when the latest pull
was issued (R159). -/
structure Advance where
  toIssue : Nat
  pull : AdvancePull
  limit : Nat
deriving DecidableEq, Repr

/-- Outcomes of the latest roll advance (Table 9-1). -/
inductive LastAdvance where
  | none | done | timeout | fault
deriving DecidableEq, Repr

/-- The two kinds of STEP group (R85). -/
inductive GroupKind where
  | margin | line
deriving DecidableEq, Repr

/-- A STEP group under way, with its pulses (R153, log entry 12). -/
structure StepGroup where
  kind : GroupKind
  pulses : Nat
deriving DecidableEq, Repr

/-- The transport record (Table 9-1); the roll is UNLOADED when `roll` is none. -/
structure Transport where
  roll : Option Roll
  advance : Option Advance
  pullTimer : Nat
  last : LastAdvance
  seated : Bool
  xportFault : Bool
  safeOpen : Bool
  group : Option StepGroup
deriving DecidableEq, Repr

/-! ## The control link (Chapter 10) -/

/-- Reply statuses (Table 10-2). -/
inductive Status where
  | ok | notDone | malformed | unknownRequest | range | duplicate | tableFull | notFound | inUse | busy
  | notReady | invalidCurve | state | interlock | window | roll | noImage
deriving DecidableEq, Repr

/-- A reply: a status and a body (R166). -/
structure Reply where
  status : Status
  body : List Byte
deriving DecidableEq, Repr

/-- The link record (R166). `processing` is the state PROCESSING; `request` the request in process; `answer` the owning
block's answer to it until REQUEST_ANSWERED makes it the held reply; `straddles` says that the transaction under way began before
the power-on reset (R174); `begun` says of a transaction under way on CL_CS whether it began in PROCESSING (R168). -/
structure Link where
  processing : Bool
  request : Option Instr
  answer : Option Reply
  held : Option Reply
  dropped : Bool
  straddles : Bool
  begun : Option Bool
deriving DecidableEq, Repr

/-- The fifteen event flags, enables and seen marks; bit b is the event of Table 10-4 with that bit (R170). -/
structure Events where
  flags : BitVec 15
  enables : BitVec 15
  seen : BitVec 15
deriving DecidableEq, Repr

/-! ## The image memory (Chapter 11) -/

/-- Image memory states (R176). -/
inductive ImageState where
  | idle | saving | loading
deriving DecidableEq, Repr

/-- Last results of the image memory (R176). -/
inductive ImageResult where
  | none | saved | loaded | noImage | fault | abandoned
deriving DecidableEq, Repr

/-- Failed steps (R176). -/
inductive FailedStep where
  | erase | record | header
deriving DecidableEq, Repr

/-- An erase or a program issued to the flash and not yet reported done (R175). -/
inductive FlashOp where
  | erase
  | program (address : Nat) (bytes : List Byte)
deriving DecidableEq, Repr

/-- The step of R179 a save has reached. -/
inductive SaveStep where
  | erase | profile | optics | channel | header
deriving DecidableEq, Repr

/-- A save in progress (R179): its step, the ID of the latest profile record formed, the offset after the latest record
formed, the number of profile records formed, the operation awaited, and the operations of the record still to issue. -/
structure Save where
  step : SaveStep
  lastId : Nat
  offset : Nat
  count : Nat
  op : FlashOp
  later : List FlashOp
deriving DecidableEq, Repr

/-- The record of the image that a load reads next (R182). -/
inductive LoadStep where
  | profile | optics | channel
deriving DecidableEq, Repr

/-- The load set (R176): the profile records in the order read, the optics record and the channel record. -/
structure LoadSet where
  profiles : List Profile
  optics : Option Corrections
  channels : Option (Rgb Nat)
deriving DecidableEq, Repr

/-- A load in progress (R182): its step, the profile records not yet read, the offset of the next record, the
optics record's offset, and the load set. -/
structure Load where
  step : LoadStep
  left : Nat
  offset : Nat
  opticsAt : Nat
  set : LoadSet
deriving DecidableEq, Repr

/-- The image record (R176), with the save or the load in progress. -/
structure Image where
  state : ImageState
  last : ImageResult
  failed : Option FailedStep
  written : Nat
  loaded : Nat
  skipped : Nat
  opticsLoaded : Bool
  channelsLoaded : Bool
  timer : Nat
  save : Option Save
  load : Option Load
deriving DecidableEq, Repr

/-- The image region of the serial flash (R175): the bytes that differ from the erased 0xFF, addresses rising; after a
failed erase `left` names the free contents the region has (R180, log entry 17); `answers` says that a flash answers at all. -/
structure Flash where
  cells : List Host.Cell
  left : Option Nat
  answers : Bool
deriving DecidableEq, Repr

/-- What the part has put out (log entry 41): the bytes shifted out in the latest transaction, and the STEP and
PULL pulses issued since power-on. -/
structure Outputs where
  sdo : List Byte
  steps : Nat
  pulls : Nat
deriving DecidableEq, Repr

/-! ## The machine -/

/-- The whole state of the part, and the queue of the commands that wait, first in, first out. -/
structure State where
  profiles : List Profile
  optics : Optics
  setups : Vector Setup 8
  frame : FrameCycle
  port : Port
  engine : Engine
  line : Option LineContext
  drives : Rgb Drive
  chans : Rgb Channel
  idle : IdleBias
  transport : Transport
  link : Link
  events : Events
  image : Image
  flash : Flash
  outputs : Outputs
  /-- the model's own counter: it numbers the free values drawn so far (log entry 17) -/
  free : Nat
  pending : List Instr
deriving DecidableEq, Repr

/-- Reasons to stop with a fault. There is none: no rule of the spec stops the part, and every command of the table has
its effect or, where the spec gives it none in a state, leaves the state as it is (log entry 36). Safe. -/
inductive Fault where
deriving DecidableEq, Repr

/-- Reasons to refuse a command. -/
inductive Refusal where
  /-- raised by `exec` for a command of the table that has no meaning yet; no arm raises it now; safe -/
  | notModelled (mnemonic : String)
deriving DecidableEq, Repr

/-! ## Power-on values -/

/-- The default set of corrections (R52), with revision 0 (R64). -/
def Corrections.default : Corrections where
  revision := some 0
  facets := 8
  gains := List.replicate 8 0
  delays := List.replicate 8 0
  shading := ⟨Vector.replicate 65 0, Vector.replicate 65 0, Vector.replicate 65 0⟩

/-- The null configuration (R66). -/
def SetupConfig.null : SetupConfig where
  profileId := 0
  format := .l10
  srcWidth := 1
  srcHeight := 1
  x0 := 0
  x1 := 0
  y0 := 0
  y1 := 0
  mirror := false
  prescale := 1
  scaler := 1
  leftMargin := 0
  topMargin := 0
  stepsPerLine := 1
  stride := 1
  stalePolicy := .expose

/-- A setup after power-on reset (R66). -/
def Setup.powerOn : Setup where
  armed := false
  config := .null
  exposed := 0
  spoiled := 0
  refused := 0
  report := none

/-- The frame cycle after power-on reset (R99). -/
def FrameCycle.powerOn : FrameCycle where
  state := .idle
  slot := none
  tag := none
  result := none
  cause := none
  latched := none
  startTimer := 0
  margin := .no
  stride := 0
  lineWait := 0
  endSeen := false
  startTimeout := 5000
  pendingGroup := none
  failures := []

/-- An EMPTY line buffer (R110). -/
def LineBuffer.cleared : LineBuffer where
  state := .empty
  line := 0
  pixels := []

/-- The pixel port after power-on reset (R117; the figures of no frame, log entry 27). -/
def Port.powerOn : Port where
  state := .waitFrame
  words := []
  waiting := none
  format := .l10
  srcWidth := 1
  srcHeight := 1
  expected := 0
  received := 0
  wordCount := 0
  prev := 0
  settled := false
  strayRun := false
  strays := 0
  errors := 0
  lanes := 1
  lineWaitLimit := 100
  buf0 := .cleared
  buf1 := .cleared
  underWay := none
  awaitLow := false

/-- The power-on values of Table 7-3. -/
def EngineConfig.powerOn : EngineConfig where
  nominal := 0
  tolerance := 8
  scanLead := 0
  scanSpan := 0
  facetTimeout := 100
  sampleExp := 4
  refclkPerMs := 100000

/-- The engine record after either reset (R132), with a configuration and a millisecond count. That the facet timer, which does
not run then, stands at 0 is log entry 27's. -/
def Engine.afterReset (config : EngineConfig) (msCount : Nat) : Engine where
  state := .stopped
  revCount := none
  facet := none
  mark := .none
  good := 0
  lastPeriod := 0
  periodCount := 0
  facetTimer := 0
  samplePhase := 0
  lastExposed := none
  window := .none
  config := config
  msCount := msCount

/-- The power-on values of Table 8-2. -/
def ChannelConfig.powerOn : ChannelConfig where
  settleBand := 4
  settleCount := 16
  rewakeCount := 4
  warmTimeout := 30000
  driftLimit := 64
  driftDivisor := 4

/-- A channel after power-on reset (R150; the target is log entry 27's). -/
def Channel.powerOn : Channel where
  state := .dark
  target := 16
  stableRun := 0
  first := false
  warmTimer := 0
  drift := 0
  lastRaw := none
  lastM := none
  outRun := 0
  faultCause := none
  ref := 2048
  capture := false
  lastCapture := .none
  config := .powerOn

/-- The link after power-on reset (R174). -/
def Link.powerOn : Link where
  processing := false
  request := none
  answer := none
  held := some ⟨.ok, []⟩
  dropped := false
  straddles := false
  begun := none

/-- The image record after power-on reset (R184). -/
def Image.powerOn : Image where
  state := .idle
  last := .none
  failed := none
  written := 0
  loaded := 0
  skipped := 0
  opticsLoaded := false
  channelsLoaded := false
  timer := 0
  save := none
  load := none

/-- The optics set after power-on reset (R64). -/
def Optics.powerOn : Optics where
  current := .a
  cur := .default
  other := none
  staging := false
  pinned := none

/-- The machine right after a power-on reset: every block at the values its chapter states (R28, R49, R64, R66, R99, R117, R132,
R150, R162, R174, R184), the input levels and the flash's contents as log entries 6 and 16 name them, no command waiting. -/
def State.reset : State where
  profiles := []
  optics := .powerOn
  setups := Vector.replicate 8 .powerOn
  frame := .powerOn
  port := .powerOn
  engine := .afterReset .powerOn 0
  line := none
  drives := ⟨.off, .off, .off⟩
  chans := ⟨.powerOn, .powerOn, .powerOn⟩
  idle := ⟨600, 0, 0⟩
  transport := ⟨none, none, 0, .none, false, false, false, none⟩
  link := .powerOn
  events := ⟨0, 0, 0⟩
  image := .powerOn
  flash := ⟨[], none, true⟩
  outputs := ⟨[], 0, 0⟩
  free := 0
  pending := []

end Sys2Proof.Machine
end

