-- ==== Sys2Proof/Machine/Flags.lean ====
section
/-! DEFINITION. The event flags (Chapter 10.3): raising an event, reading, clearing and enabling, and the ATTN line. -/

namespace Sys2Proof.Machine

open Sys2Proof

/-- The part's fifteen events, in the order of Table 10-4. -/
inductive Event where
  | frameDone | profileStale | channelFault | channelReady | lockLost | lockGained | interlockOpen | interlockClosed
  | xportFault | xportTimeout | rollLow | rollEnd | portError | imageDone | imageFault
deriving DecidableEq, Repr

/-- The bit of an event in the masks of Table 10-4. -/
def Event.bit : Event → Nat
  | .frameDone => 0
  | .profileStale => 1
  | .channelFault => 2
  | .channelReady => 3
  | .lockLost => 4
  | .lockGained => 5
  | .interlockOpen => 6
  | .interlockClosed => 7
  | .xportFault => 8
  | .xportTimeout => 9
  | .rollLow => 10
  | .rollEnd => 11
  | .portError => 12
  | .imageDone => 13
  | .imageFault => 14

/-- The mask in which only the event's bit is set. -/
def Event.mask (e : Event) : BitVec 15 := BitVec.ofNat 15 (2 ^ e.bit)

/-- Raising an event sets its flag and clears its seen mark (R171). -/
def Events.raise (v : Events) (e : Event) : Events :=
  { v with flags := v.flags ||| e.mask, seen := v.seen &&& ~~~e.mask }

/-- EVENTS_READ marks every set flag as seen (R172). -/
def Events.markSeen (v : Events) : Events := { v with seen := v.seen ||| v.flags }

/-- EVENTS_CLEAR clears the named flags that are set and seen, with their seen marks (R172). -/
def Events.clear (v : Events) (mask : BitVec 15) : Events :=
  let gone := mask &&& v.flags &&& v.seen
  { v with flags := v.flags &&& ~~~gone, seen := v.seen &&& ~~~gone }

/-- EVENTS_ENABLE writes every enable from a mask (R172). -/
def Events.enable (v : Events) (mask : BitVec 15) : Events := { v with enables := mask }

/-- All fifteen flags, enables and seen marks clear (R173, R174). -/
def Events.allClear : Events := ⟨0, 0, 0⟩

/-- ATTN is asserted while at least one event has both its flag and its enable set (R171). -/
def State.attn (s : State) : Bool := s.events.flags &&& s.events.enables != 0

/-- A block raises an event (R171). -/
def State.raise (s : State) (e : Event) : State := { s with events := s.events.raise e }

end Sys2Proof.Machine
end

