-- ==== Sys2Proof/Machine/Operands.lean ====
section
/-! DEFINITION. The operand forms of the request commands: named values by their place in the owning chapter's list
(R165), marks, signed numbers, and the range checks of each request's fields. -/

namespace Sys2Proof

/-! ## One value per channel -/

/-- The value of one channel. -/
def Rgb.get {α : Type} (x : Rgb α) : Chan → α
  | .red => x.red
  | .grn => x.grn
  | .blu => x.blu

/-- The value of one channel replaced. -/
def Rgb.set {α : Type} (x : Rgb α) (c : Chan) (v : α) : Rgb α :=
  match c with
  | .red => { x with red := v }
  | .grn => { x with grn := v }
  | .blu => { x with blu := v }

/-- A function applied to the value of each channel. -/
def Rgb.map {α β : Type} (f : α → β) (x : Rgb α) : Rgb β := ⟨f x.red, f x.grn, f x.blu⟩

/-- The three values in the order R, G, B. -/
def Rgb.toList {α : Type} (x : Rgb α) : List α := [x.red, x.grn, x.blu]

/-- A test that holds for each of the three channels. -/
def Rgb.all {α : Type} (p : α → Bool) (x : Rgb α) : Bool := p x.red && p x.grn && p x.blu

end Sys2Proof

namespace Sys2Proof.Machine

open Sys2Proof

/-! ## Named values -/

/-- Channel selector: R, G or B. -/
def chanOf (b : Byte) : Option Chan :=
  match b.toNat with
  | 0 => some .red
  | 1 => some .grn
  | 2 => some .blu
  | _ => none

/-- The source of PROFILE_STAGE (ACTIVE_COPY or EMPTY, R9) and of OPTICS_STAGE (CURRENT_COPY or EMPTY, R54): whether it is a copy. -/
def copyOf (b : Byte) : Option Bool :=
  match b.toNat with
  | 0 => some true
  | 1 => some false
  | _ => none

/-- A bank selector (ACTIVE or STAGED, R27; CURRENT or STAGED, R63): whether it is STAGED. -/
def stagedOf (b : Byte) : Option Bool :=
  match b.toNat with
  | 0 => some false
  | 1 => some true
  | _ => none

/-- The parts of OPTICS_READ (R63). -/
inductive OpticsPart where
  | status
  | facets
  | shading (c : Chan)
deriving DecidableEq, Repr

/-- The part selector of OPTICS_READ: STATUS, FACETS, SHADING_R, SHADING_G or SHADING_B (R63). -/
def opticsPartOf (b : Byte) : Option OpticsPart :=
  match b.toNat with
  | 0 => some .status
  | 1 => some .facets
  | 2 => some (.shading .red)
  | 3 => some (.shading .grn)
  | 4 => some (.shading .blu)
  | _ => none

/-- The format field of SETUP_WRITE: L10 or L12 (Table 4-1). -/
def formatOf (b : Byte) : Option Format :=
  match b.toNat with
  | 0 => some .l10
  | 1 => some .l12
  | _ => none

/-- The mirror field of SETUP_WRITE: off or on (Table 4-1). -/
def mirrorOf (b : Byte) : Option Bool :=
  match b.toNat with
  | 0 => some false
  | 1 => some true
  | _ => none

/-- The stale policy field of SETUP_WRITE: EXPOSE or REFUSE (Table 4-1). -/
def stalePolicyOf (b : Byte) : Option StalePolicy :=
  match b.toNat with
  | 0 => some .expose
  | 1 => some .refuse
  | _ => none

/-- A setup slot, 0..7 (R65). -/
def slotOf (b : Byte) : Option (Fin 8) :=
  if h : b.toNat < 8 then some ⟨b.toNat, h⟩ else none

/-! ## Range checks -/

/-- A profile ID in 1..65534 (R1, R7). -/
def idInRange (n : Nat) : Bool := 1 ≤ n && n ≤ 65534

/-- A printable character, 0x20..0x7E (section 1.1). -/
def printable (b : Byte) : Bool := 0x20 ≤ b.toNat && b.toNat ≤ 0x7E

/-- A label of 0 to 12 printable characters (section 1.1). -/
def labelInRange (label : List Byte) : Bool := label.length ≤ 12 && label.all printable

/-- A trim in -1024..+1023 (Table 1-5). -/
def trimInRange (t : Int) : Bool := -1024 ≤ t && t ≤ 1023

/-- A facet gain in -64..+63 (Table 3-1). -/
def gainInRange (g : Int) : Bool := -64 ≤ g && g ≤ 63

/-- A code or exposure in 0..4095 (R4). -/
def codeInRange (n : Nat) : Bool := n ≤ 4095

/-- A facet count in 6..12 (Table 3-1). -/
def facetsInRange (n : Nat) : Bool := 6 ≤ n && n ≤ 12

/-- The curve that a request's knots give. -/
def curveOf (knots : List (BitVec 16 × BitVec 16)) : Curve :=
  knots.map fun k => ⟨k.1.toNat, k.2.toNat⟩

/-- Each knot's code is greater than the one before it and its exposure is not below the one before it (R4). -/
def knotsRise : Curve → Bool
  | [] => true
  | [_] => true
  | k :: l :: rest => k.code < l.code && k.exposure ≤ l.exposure && knotsRise (l :: rest)

/-- A valid curve (R4). -/
def validCurve (k : Curve) : Bool :=
  2 ≤ k.length && k.length ≤ 33 && k.head?.map Knot.code == some 0 && k.getLast?.map Knot.code == some 4095 &&
    knotsRise k && k.all fun x => codeInRange x.code && codeInRange x.exposure

/-- The setup configuration that SETUP_WRITE carries, absent where any field is outside its range in Table 4-1 or one of
R67's relations is false. -/
def setupConfigOf (f : SetupFields) : Option SetupConfig := do
  let format ← formatOf f.format
  let mirror ← mirrorOf f.mirror
  let policy ← stalePolicyOf f.stalePolicy
  let c : SetupConfig := ⟨f.profileId.toNat, format, f.srcWidth.toNat, f.srcHeight.toNat, f.x0.toNat, f.x1.toNat, f.y0.toNat,
    f.y1.toNat, mirror, f.prescale.toNat, f.scaler.toNat, f.leftMargin.toNat, f.topMargin.toNat, f.stepsPerLine.toNat,
    f.stride.toNat, policy⟩
  if idInRange c.profileId && 1 ≤ c.srcWidth && c.srcWidth ≤ 8192 && 1 ≤ c.srcHeight && c.srcHeight ≤ 8192 &&
      c.x0 ≤ c.x1 && c.x1 < c.srcWidth && c.y0 ≤ c.y1 && c.y1 < c.srcHeight &&
      [1, 2, 4, 8].contains c.prescale && 1 ≤ c.scaler && c.scaler ≤ 32 && c.leftMargin ≤ 8191 && c.topMargin ≤ 1023 &&
      1 ≤ c.stepsPerLine && c.stepsPerLine ≤ 16 && 1 ≤ c.stride && c.stride ≤ 4 &&
      c.leftMargin + (c.x1 - c.x0 + 1) ≤ 8192
  then some c else none

/-- The engine configuration that ENGINE_CONFIGURE carries, absent where R130 gives RANGE. -/
def engineConfigOf (f : EngineFields) : Option EngineConfig :=
  let c : EngineConfig := ⟨f.nominal.toNat, f.tolerance.toNat, f.scanLead.toNat, f.scanSpan.toNat, f.facetTimeout.toNat,
    f.sampleExp.toNat, f.refclkPerMs.toNat⟩
  if 1 ≤ c.nominal && c.nominal ≤ Config.maxPeriod && 1 ≤ c.tolerance && c.tolerance ≤ 64 && 1 ≤ c.scanSpan &&
      c.scanSpan ≤ Config.maxPeriod && 1 ≤ c.facetTimeout && c.facetTimeout ≤ 1000 && c.sampleExp ≤ 7 &&
      1000 ≤ c.refclkPerMs && c.refclkPerMs ≤ 200000 && c.scanSpan * 256 < c.nominal * (256 - c.tolerance)
  then some c else none

/-- The channel configuration that CHANNEL_CONFIGURE carries, absent where a setting is outside Table 8-2. -/
def channelConfigOf (f : ChannelFields) : Option ChannelConfig :=
  let c : ChannelConfig := ⟨f.settleBand.toNat, f.settleCount.toNat, f.rewakeCount.toNat, f.warmTimeout.toNat,
    f.driftLimit.toNat, f.driftDivisor.toNat⟩
  if 1 ≤ c.settleBand && c.settleBand ≤ 31 && 4 ≤ c.settleCount && c.settleCount ≤ 64 && 1 ≤ c.rewakeCount &&
      c.rewakeCount ≤ 16 && 1 ≤ c.warmTimeout && 16 ≤ c.driftLimit && [1, 2, 4, 8].contains c.driftDivisor
  then some c else none

end Sys2Proof.Machine
end

