-- ==== Sys2Proof/Machine/Wire.lean ====
section
/-! DEFINITION. The encodings of the control link: the fields of a reply body (R165), the status codes (Table 10-2), and a
request message as its command and back (R164 to R166, R169). -/

namespace Sys2Proof.Machine

open Sys2Proof

/-! ## Reply fields (R165) -/

/-- A 1-byte number. -/
def u8 (n : Nat) : List Byte := [BitVec.ofNat 8 n]

/-- A 2-byte number. -/
def u16 (n : Nat) : List Byte := be16 (BitVec.ofNat 16 n)

/-- A 4-byte number. -/
def u32 (n : Nat) : List Byte := be32 (BitVec.ofNat 32 n)

/-- A signed 1-byte number in two's complement. -/
def i8 (x : Int) : List Byte := [BitVec.ofInt 8 x]

/-- A signed 2-byte number in two's complement. -/
def i16 (x : Int) : List Byte := be16 (BitVec.ofInt 16 x)

/-- A mark whose first-named value is the true one (set, present, yes, asserted): 0 for it and 1 for the other. -/
def mark (first : Bool) : List Byte := if first then [0] else [1]

/-- An optional field: its present mark and, when it is present, its bytes. -/
def opt {α : Type} (field : α → List Byte) : Option α → List Byte
  | none => mark false
  | some x => mark true ++ field x

/-- A field of a reply that is present in some cases only. -/
def optIf (present : Bool) (field : List Byte) : List Byte := if present then mark true ++ field else mark false

/-- A label: its length, then its characters. -/
def labelBytes (label : List Byte) : List Byte := u8 label.length ++ label

/-- The knots of a curve, code then exposure. -/
def knotBytes (k : Curve) : List Byte := k.flatMap fun x => u16 x.code ++ u16 x.exposure

/-- A bank named in a list that holds only A and B (log entry 21). -/
def bankByte : Bank → List Byte
  | .a => [0]
  | .b => [1]

/-- A bank field with the values none, A, B (log entry 21). -/
def bankOrNone : Option Bank → List Byte
  | none => [0]
  | some .a => [1]
  | some .b => [2]

/-- A profile state by its place in the list of Table 1-4 (R165). -/
def ProfileState.code : ProfileState → Nat
  | .draft => 1
  | .active => 2
  | .stale => 3
  | .retiring => 4

/-- The code of a FREE record in that list (R165). -/
def freeCode : Nat := 0

/-- A format by its place in Table 4-1. -/
def Format.code : Format → Nat
  | .l10 => 0
  | .l12 => 1

/-- A stale policy by its place in Table 4-1. -/
def StalePolicy.code : StalePolicy → Nat
  | .expose => 0
  | .refuse => 1

/-- A result by its place in Table 4-3. -/
def Result.code : Result → Nat
  | .exposed => 0
  | .spoiled => 1
  | .refused => 2

/-- A cause by its place in the one list of R165. -/
def Cause.code : Cause → Nat
  | .format => 0
  | .setupIdle => 1
  | .shape => 2
  | .stale => 3
  | .roll => 4
  | .xport => 5
  | .interlock => 6
  | .channel => 7
  | .startTimeout => 8
  | .gate => 9
  | .sync => 10
  | .starve => 11
  | .cancel => 12
  | .reset => 13

/-- A frame cycle state by its place in Table 5-1. -/
def FrameState.code : FrameState → Nat
  | .idle => 0
  | .seating => 1
  | .readying => 2
  | .exposing => 3
  | .draining => 4

/-- Margin stepped by its place in Table 5-1. -/
def Margin.code : Margin → Nat
  | .no => 0
  | .underWay => 1
  | .done => 2

/-- A port state by its place in Table 6-2. -/
def PortState.code : PortState → Nat
  | .waitFrame => 0
  | .header => 1
  | .betweenLines => 2
  | .inLine => 3
  | .drain => 4

/-- A buffer state by its place in R110. -/
def BufferState.code : BufferState → Nat
  | .empty => 0
  | .filling => 1
  | .full => 2
  | .exposing => 3

/-- An engine state by its place in Table 7-1. -/
def EngineState.code : EngineState → Nat
  | .stopped => 0
  | .acquiring => 1
  | .locked => 2

/-- A revolution mark by its place in Table 7-1. -/
def RevMark.code : RevMark → Nat
  | .none => 0
  | .good => 1
  | .bad => 2

/-- A channel state by its place in Table 8-1. -/
def ChannelState.code : ChannelState → Nat
  | .dark => 0
  | .warming => 1
  | .biased => 2
  | .ready => 3
  | .fault => 4

/-- A fault cause by its place in Table 8-1. -/
def FaultCause.code : FaultCause → Nat
  | .darkMonitor => 0
  | .warmTimeout => 1
  | .drift => 2

/-- A capture outcome by its place in Table 8-1. -/
def Capture.code : Capture → Nat
  | .none => 0
  | .taken => 1
  | .overRange => 2
  | .dropped => 3

/-- An advance outcome by its place in Table 9-1. -/
def LastAdvance.code : LastAdvance → Nat
  | .none => 0
  | .done => 1
  | .timeout => 2
  | .fault => 3

/-- An image state by its place in R176. -/
def ImageState.code : ImageState → Nat
  | .idle => 0
  | .saving => 1
  | .loading => 2

/-- An image result by its place in R176. -/
def ImageResult.code : ImageResult → Nat
  | .none => 0
  | .saved => 1
  | .loaded => 2
  | .noImage => 3
  | .fault => 4
  | .abandoned => 5

/-- A failed step by its place in R176. -/
def FailedStep.code : FailedStep → Nat
  | .erase => 0
  | .record => 1
  | .header => 2

/-- A status code (Table 10-2). -/
def Status.code : Status → Nat
  | .ok => 0
  | .notDone => 1
  | .malformed => 2
  | .unknownRequest => 3
  | .range => 4
  | .duplicate => 5
  | .tableFull => 6
  | .notFound => 7
  | .inUse => 8
  | .busy => 9
  | .notReady => 10
  | .invalidCurve => 11
  | .state => 12
  | .interlock => 13
  | .window => 14
  | .roll => 15
  | .noImage => 16

/-- The reply status byte: the dropped mark in bit 7 and the status code below it (Table 10-1). -/
def statusByte (st : Status) (dropped : Bool) : Byte :=
  BitVec.ofNat 8 (st.code + if dropped then 128 else 0)

/-! ## Reading the fields of a request body -/

/-- One byte. -/
def rd8 : List Byte → Option (Byte × List Byte)
  | a :: t => some (a, t)
  | _ => none

/-- A 2-byte number, most significant byte first. -/
def rd16 : List Byte → Option (BitVec 16 × List Byte)
  | a :: b :: t => some (a ++ b, t)
  | _ => none

/-- A 4-byte number, most significant byte first. -/
def rd32 : List Byte → Option (BitVec 32 × List Byte)
  | a :: b :: c :: d :: t => some ((a ++ b ++ c ++ d).setWidth 32, t)
  | _ => none

/-- As many bytes as a count gives. -/
def rdN (n : Nat) (b : List Byte) : Option (List Byte × List Byte) :=
  if n ≤ b.length then some (b.take n, b.drop n) else none

/-- A label: 1 byte of length, followed by that many characters. -/
def rdLabel (b : List Byte) : Option (List Byte × List Byte) := do
  let (n, b) ← rd8 b
  rdN n.toNat b

/-- A given number of knots, code then exposure. -/
def rdKnots : Nat → List Byte → Option (List (BitVec 16 × BitVec 16) × List Byte)
  | 0, b => some ([], b)
  | n + 1, b => do
    let (c, b) ← rd16 b
    let (e, b) ← rd16 b
    let (k, b) ← rdKnots n b
    some ((c, e) :: k, b)

/-- Three 2-byte numbers, for R, G and B. -/
def rdRgb16 (b : List Byte) : Option (Rgb (BitVec 16) × List Byte) := do
  let (x, b) ← rd16 b
  let (y, b) ← rd16 b
  let (z, b) ← rd16 b
  some (⟨x, y, z⟩, b)

/-- The configuration fields of SETUP_WRITE (R67). -/
def rdSetup (b : List Byte) : Option (SetupFields × List Byte) := do
  let (profileId, b) ← rd16 b
  let (format, b) ← rd8 b
  let (srcWidth, b) ← rd16 b
  let (srcHeight, b) ← rd16 b
  let (x0, b) ← rd16 b
  let (x1, b) ← rd16 b
  let (y0, b) ← rd16 b
  let (y1, b) ← rd16 b
  let (mirror, b) ← rd8 b
  let (prescale, b) ← rd8 b
  let (scaler, b) ← rd8 b
  let (leftMargin, b) ← rd16 b
  let (topMargin, b) ← rd16 b
  let (stepsPerLine, b) ← rd8 b
  let (stride, b) ← rd8 b
  let (stalePolicy, b) ← rd8 b
  some (⟨profileId, format, srcWidth, srcHeight, x0, x1, y0, y1, mirror, prescale, scaler, leftMargin, topMargin,
    stepsPerLine, stride, stalePolicy⟩, b)

/-- The seven settings of ENGINE_CONFIGURE (R130). -/
def rdEngine (b : List Byte) : Option (EngineFields × List Byte) := do
  let (nominal, b) ← rd32 b
  let (tolerance, b) ← rd8 b
  let (scanLead, b) ← rd16 b
  let (scanSpan, b) ← rd32 b
  let (facetTimeout, b) ← rd16 b
  let (sampleExp, b) ← rd8 b
  let (refclkPerMs, b) ← rd32 b
  some (⟨nominal, tolerance, scanLead, scanSpan, facetTimeout, sampleExp, refclkPerMs⟩, b)

/-- The six channel settings of CHANNEL_CONFIGURE (R134). -/
def rdChannel (b : List Byte) : Option (ChannelFields × List Byte) := do
  let (settleBand, b) ← rd8 b
  let (settleCount, b) ← rd8 b
  let (rewakeCount, b) ← rd8 b
  let (warmTimeout, b) ← rd16 b
  let (driftLimit, b) ← rd8 b
  let (driftDivisor, b) ← rd8 b
  some (⟨settleBand, settleCount, rewakeCount, warmTimeout, driftLimit, driftDivisor⟩, b)

/-- A body that must hold exactly what was read (R166, check 3). -/
def whole {α : Type} : Option (α × List Byte) → Option α
  | some (x, []) => some x
  | _ => none

/-! ## Requests (Table 10-3) -/

/-- The codes of Table 10-3. -/
def requestCodes : List Nat :=
  [0x01, 0x02, 0x03, 0x04, 0x05, 0x10, 0x11, 0x12, 0x13, 0x14, 0x15, 0x16, 0x17, 0x18, 0x19, 0x1A] ++
  [0x20, 0x21, 0x22, 0x23, 0x24, 0x25, 0x30, 0x31, 0x32, 0x33, 0x40, 0x41, 0x42, 0x48, 0x49, 0x50, 0x51] ++
  [0x60, 0x61, 0x62, 0x63, 0x64, 0x65, 0x66, 0x67, 0x70, 0x71, 0x72, 0x73, 0x80, 0x81, 0x82]

/-- A body with no fields. -/
def rdNone (c : Instr) (b : List Byte) : Option (Instr × List Byte) := some (c, b)

/-- A body of one byte. -/
def rdOne (c : Byte → Instr) (b : List Byte) : Option (Instr × List Byte) := do
  let (x, b) ← rd8 b
  some (c x, b)

/-- A body of one 2-byte number. -/
def rdOne16 (c : BitVec 16 → Instr) (b : List Byte) : Option (Instr × List Byte) := do
  let (x, b) ← rd16 b
  some (c x, b)

/-- The fields that the request of a code reads from its body, and what is left of the body. -/
def rdRequest (code : Nat) (b : List Byte) : Option (Instr × List Byte) :=
  match code with
  | 0x01 => rdNone .identify b
  | 0x02 => rdNone .softReset b
  | 0x03 => rdNone .eventsRead b
  | 0x04 => rdOne16 .eventsClear b
  | 0x05 => rdOne16 .eventsEnable b
  | 0x10 => do
    let (id, b) ← rd16 b
    let (label, b) ← rdLabel b
    some (.profileCreate id label, b)
  | 0x11 => do
    let (id, b) ← rd16 b
    let (source, b) ← rd8 b
    some (.profileStage id source, b)
  | 0x12 => do
    let (id, b) ← rd16 b
    let (chan, b) ← rd8 b
    let (n, b) ← rd8 b
    let (knots, b) ← rdKnots n.toNat b
    some (.profilePutCurve id chan knots, b)
  | 0x13 => do
    let (id, b) ← rd16 b
    let (trims, b) ← rdRgb16 b
    let (darks, b) ← rdRgb16 b
    let (life, b) ← rd16 b
    let (label, b) ← rdLabel b
    some (.profilePutTerms id trims darks life label, b)
  | 0x14 => rdOne16 .profileCommit b
  | 0x15 => rdOne16 .profileDiscard b
  | 0x16 => rdOne16 .profileRetire b
  | 0x17 => rdNone .profileList b
  | 0x18 => rdOne16 .profileQuery b
  | 0x19 => do
    let (id, b) ← rd16 b
    let (bank, b) ← rd8 b
    let (chan, b) ← rd8 b
    let (first, b) ← rd8 b
    let (count, b) ← rd8 b
    some (.profileReadCurve id bank chan first count, b)
  | 0x1A => do
    let (id, b) ← rd16 b
    let (bank, b) ← rd8 b
    let (chan, b) ← rd8 b
    let (c, b) ← rd16 b
    let (position, b) ← rd16 b
    let (facet, b) ← rd8 b
    some (.profileEvaluate id bank chan c position facet, b)
  | 0x20 => rdOne .opticsStage b
  | 0x21 => do
    let (n, b) ← rd8 b
    let (gains, b) ← rdN n.toNat b
    let (delays, b) ← rdN n.toNat b
    some (.opticsPutFacets (gains.zip delays), b)
  | 0x22 => do
    let (chan, b) ← rd8 b
    let (knots, b) ← rdN 65 b
    if h : knots.length = 65 then some (.opticsPutShading chan ⟨knots.toArray, by simpa using h⟩, b) else none
  | 0x23 => rdNone .opticsCommit b
  | 0x24 => rdNone .opticsDiscard b
  | 0x25 => do
    let (bank, b) ← rd8 b
    let (part, b) ← rd8 b
    some (.opticsRead bank part, b)
  | 0x30 => do
    let (slot, b) ← rd8 b
    let (fields, b) ← rdSetup b
    some (.setupWrite slot fields, b)
  | 0x31 => rdOne .setupArm b
  | 0x32 => rdOne .setupDisarm b
  | 0x33 => rdOne .setupQuery b
  | 0x40 => rdNone .frameCancel b
  | 0x41 => rdNone .frameStatus b
  | 0x42 => rdOne16 .frameConfigure b
  | 0x48 => do
    let (lanes, b) ← rd8 b
    let (limit, b) ← rd16 b
    some (.portConfigure lanes limit, b)
  | 0x49 => rdNone .portStatus b
  | 0x50 => do
    let (fields, b) ← rdEngine b
    some (.engineConfigure fields, b)
  | 0x51 => rdNone .engineQuery b
  | 0x60 => rdOne .channelOn b
  | 0x61 => rdOne .channelBias b
  | 0x62 => rdOne .channelOff b
  | 0x63 => rdOne .channelClear b
  | 0x64 => do
    let (chan, b) ← rd8 b
    let (fields, b) ← rdChannel b
    let (delay, b) ← rd16 b
    some (.channelConfigure chan fields delay, b)
  | 0x65 => do
    let (chan, b) ← rd8 b
    let (value, b) ← rd16 b
    some (.channelSetReference chan value, b)
  | 0x66 => rdOne .channelCaptureReference b
  | 0x67 => rdOne .channelQuery b
  | 0x70 => do
    let (tag, b) ← rd32 b
    let (capacity, b) ← rd16 b
    let (low, b) ← rd16 b
    some (.rollLoad tag capacity low, b)
  | 0x71 => rdNone .rollUnload b
  | 0x72 => rdOne16 .rollAdvance b
  | 0x73 => rdNone .rollQuery b
  | 0x80 => rdNone .imageSave b
  | 0x81 => rdNone .imageLoad b
  | 0x82 => rdNone .imageStatus b
  | _ => none

/-- The link's checks of a request message whose byte 0 is not 0x00, in the order of R166: the command it passes to its
owning block, or the status it answers. -/
def parseRequest (msg : List Byte) : Except Status Instr :=
  match msg with
  | code :: len :: body =>
    if len.toNat > Config.maxBody || body.length != len.toNat then .error .malformed
    else if !requestCodes.contains code.toNat then .error .unknownRequest
    else
      match whole (rdRequest code.toNat body) with
      | none => .error .malformed
      | some c => .ok c
  | _ => .error .malformed

/-! ## Writing a request -/

/-- The bytes of three 2-byte numbers. -/
def rgb16Bytes (x : Rgb (BitVec 16)) : List Byte := be16 x.red ++ be16 x.grn ++ be16 x.blu

/-- The bytes of SETUP_WRITE's configuration. -/
def setupBytes (f : SetupFields) : List Byte :=
  be16 f.profileId ++ [f.format] ++ be16 f.srcWidth ++ be16 f.srcHeight ++ be16 f.x0 ++ be16 f.x1 ++ be16 f.y0 ++ be16 f.y1 ++
    [f.mirror, f.prescale, f.scaler] ++ be16 f.leftMargin ++ be16 f.topMargin ++ [f.stepsPerLine, f.stride, f.stalePolicy]

/-- The bytes of ENGINE_CONFIGURE's settings. -/
def engineBytes (f : EngineFields) : List Byte :=
  be32 f.nominal ++ [f.tolerance] ++ be16 f.scanLead ++ be32 f.scanSpan ++ be16 f.facetTimeout ++ [f.sampleExp] ++
    be32 f.refclkPerMs

/-- The bytes of CHANNEL_CONFIGURE's settings. -/
def channelBytes (f : ChannelFields) : List Byte :=
  [f.settleBand, f.settleCount, f.rewakeCount] ++ be16 f.warmTimeout ++ [f.driftLimit, f.driftDivisor]

/-- The code and the body of a request command (Table 10-3, R165); none for a command that is no request. -/
def encodeRequest : Instr → Option (Nat × List Byte)
  | .identify => some (0x01, [])
  | .softReset => some (0x02, [])
  | .eventsRead => some (0x03, [])
  | .eventsClear m => some (0x04, be16 m)
  | .eventsEnable m => some (0x05, be16 m)
  | .profileCreate id label => some (0x10, be16 id ++ labelBytes label)
  | .profileStage id source => some (0x11, be16 id ++ [source])
  | .profilePutCurve id chan knots =>
    some (0x12, be16 id ++ [chan] ++ u8 knots.length ++ knots.flatMap fun k => be16 k.1 ++ be16 k.2)
  | .profilePutTerms id trims darks life label =>
    some (0x13, be16 id ++ rgb16Bytes trims ++ rgb16Bytes darks ++ be16 life ++ labelBytes label)
  | .profileCommit id => some (0x14, be16 id)
  | .profileDiscard id => some (0x15, be16 id)
  | .profileRetire id => some (0x16, be16 id)
  | .profileList => some (0x17, [])
  | .profileQuery id => some (0x18, be16 id)
  | .profileReadCurve id bank chan first count => some (0x19, be16 id ++ [bank, chan, first, count])
  | .profileEvaluate id bank chan c position facet =>
    some (0x1A, be16 id ++ [bank, chan] ++ be16 c ++ be16 position ++ [facet])
  | .opticsStage source => some (0x20, [source])
  | .opticsPutFacets facets => some (0x21, u8 facets.length ++ facets.map Prod.fst ++ facets.map Prod.snd)
  | .opticsPutShading chan knots => some (0x22, [chan] ++ knots.toList)
  | .opticsCommit => some (0x23, [])
  | .opticsDiscard => some (0x24, [])
  | .opticsRead bank part => some (0x25, [bank, part])
  | .setupWrite slot fields => some (0x30, [slot] ++ setupBytes fields)
  | .setupArm slot => some (0x31, [slot])
  | .setupDisarm slot => some (0x32, [slot])
  | .setupQuery slot => some (0x33, [slot])
  | .frameCancel => some (0x40, [])
  | .frameStatus => some (0x41, [])
  | .frameConfigure t => some (0x42, be16 t)
  | .portConfigure lanes limit => some (0x48, [lanes] ++ be16 limit)
  | .portStatus => some (0x49, [])
  | .engineConfigure fields => some (0x50, engineBytes fields)
  | .engineQuery => some (0x51, [])
  | .channelOn chan => some (0x60, [chan])
  | .channelBias chan => some (0x61, [chan])
  | .channelOff chan => some (0x62, [chan])
  | .channelClear chan => some (0x63, [chan])
  | .channelConfigure chan fields delay => some (0x64, [chan] ++ channelBytes fields ++ be16 delay)
  | .channelSetReference chan value => some (0x65, [chan] ++ be16 value)
  | .channelCaptureReference chan => some (0x66, [chan])
  | .channelQuery chan => some (0x67, [chan])
  | .rollLoad tag capacity low => some (0x70, be32 tag ++ be16 capacity ++ be16 low)
  | .rollUnload => some (0x71, [])
  | .rollAdvance n => some (0x72, be16 n)
  | .rollQuery => some (0x73, [])
  | .imageSave => some (0x80, [])
  | .imageLoad => some (0x81, [])
  | .imageStatus => some (0x82, [])
  | .powerOnReset _ => none
  | .requestTransaction _ => none
  | .readTransaction _ => none
  | .frameStart _ => none
  | .lineStart _ _ => none
  | .dataWord _ _ => none
  | .frameEnd _ => none
  | .undefinedTagWord _ _ => none
  | .headerTaken => none
  | .headerFailureTaken => none
  | .seatedRise => none
  | .seatedFall => none
  | .xportFaultAsserted => none
  | .xportFaultDeasserted => none
  | .safeOpen => none
  | .safeClose => none
  | .facet _ => none
  | .index => none
  | .lineComplete => none
  | .monitorWindowOpen => none
  | .monitorReading _ _ => none
  | .stepGroupEnd => none
  | .millisecondTick => none
  | .startTimeout => none
  | .lineWaitLimitPassed => none
  | .stall => none
  | .warmTimeout _ => none
  | .autoBias => none
  | .advancePullTimeout => none
  | .flashOperationDone => none
  | .imageOperationTimeout => none
  | .imageRecordRead => none
  | .requestAnswered => none

/-- The whole message of a request command: its code, the body length, the body (Table 10-1). -/
def requestMessage (c : Instr) : Option (List Byte) :=
  (encodeRequest c).map fun r => u8 r.1 ++ u8 r.2.length ++ r.2

/-! ## Serial bits -/

/-- A byte from eight bits, most significant first (R163). -/
def byteOfBits (bits : List Bool) : Byte := bits.foldl (fun x b => x <<< 1 ||| BitVec.ofNat 8 b.toNat) 0

/-- The bits of a byte in the order they cross the link: the most significant first (R163). -/
def bitsOfByte (b : Byte) : List Bool := (List.range 8).map b.getMsbD

/-- The whole bytes of a transaction's bits: bits of a byte cut off by the rise of CL_CS are discarded (R166). -/
def wholeBytes : List Bool → List Byte
  | a :: b :: c :: d :: e :: f :: g :: h :: t => byteOfBits [a, b, c, d, e, f, g, h] :: wholeBytes t
  | _ => []

end Sys2Proof.Machine
end

