-- ==== Sys2Proof/Machine/Ops.lean ====
section
/-! DEFINITION. The named operations over the tables and records: answering a request, the profile table, the optics
set, the setup table, the line buffers, the channels' drives, and the views of the state that the rules speak of. -/

namespace Sys2Proof.Machine

open Sys2Proof

/-- What a command answers. -/
abbrev Answer := Host.Outcome State Fault Refusal

/-! ## Answering a request -/

/-- The link awaits the answer to this request: it is the one in process, and its owner has not answered it yet (R166). -/
def Link.awaits (l : Link) (req : Instr) : Bool := l.processing && l.request == some req && l.answer.isNone

/-- The owning block's answer to a request, which REQUEST_ANSWERED makes the held reply where the request is the one in process (R166). A
request's row that the link did not take has no reply (log entry 3). -/
def State.answer (s : State) (req : Instr) (st : Status) (body : List Byte := []) : State :=
  { s with link := { s.link with answer := if s.link.awaits req then some ⟨st, body⟩ else s.link.answer } }

/-- The owning block answers a request and the part goes on in `s`. -/
def reply (req : Instr) (s : State) (st : Status) (body : List Byte := []) : Answer := .next (s.answer req st body)

/-! ## The profile table -/

/-- The record that holds an ID (R1). -/
def State.profile (s : State) (id : Nat) : Option Profile := s.profiles.find? fun p => p.id == id

/-- The record that holds an ID and is not RETIRING (R7, check 3). -/
def State.liveProfile (s : State) (id : Nat) : Option Profile :=
  (s.profile id).filter fun p => p.state != .retiring

/-- The record of an ID changed. -/
def modProfile (t : List Profile) (id : Nat) (f : Profile → Profile) : List Profile :=
  t.map fun p => if p.id = id then f p else p

/-- The record of an ID changed. -/
def State.modProfile (s : State) (id : Nat) (f : Profile → Profile) : State :=
  { s with profiles := Machine.modProfile s.profiles id f }

/-- A record taken, at its place in ascending order of ID (log entry 34). -/
def insertProfile (p : Profile) : List Profile → List Profile
  | [] => [p]
  | q :: t => if p.id < q.id then p :: q :: t else q :: insertProfile p t

/-- The record of an ID becomes free (R21). -/
def freeProfile (t : List Profile) (id : Nat) : List Profile := t.filter fun p => p.id != id

/-- The contents of a profile's bank; none where it is empty. -/
def Profile.bank (p : Profile) : Bank → Option Calibration
  | .a => p.bankA
  | .b => p.bankB

/-- A profile's bank replaced. -/
def Profile.setBank (p : Profile) (which : Bank) (c : Option Calibration) : Profile :=
  match which with
  | .a => { p with bankA := c }
  | .b => { p with bankB := c }

/-- The other bank. -/
def Bank.flip : Bank → Bank
  | .a => .b
  | .b => .a

/-- The staging bank (R6): the bank that is not active, and A in DRAFT. -/
def Profile.stagingBank (p : Profile) : Bank :=
  match p.active with
  | some x => x.flip
  | none => .a

/-- The calibration frames take; none in DRAFT. -/
def Profile.activeCal (p : Profile) : Option Calibration := p.active.bind p.bank

/-- The staged calibration; none while staging is not open. -/
def Profile.stagedCal (p : Profile) : Option Calibration := p.staging.bind fun g => p.bank g.bank

/-- The calibration in the pinned bank. -/
def Profile.pinnedCal (p : Profile) : Option Calibration := p.pinned.bind p.bank

/-- A channel's staged curve mark: its curve is present in the staged bank (R3). -/
def Profile.curveMark (p : Profile) (c : Chan) : Bool :=
  match p.stagedCal with
  | some cal => (cal.curves.get c).isSome
  | none => false

/-- All three staged curve marks are present (R14). -/
def Profile.allMarks (p : Profile) : Bool := p.curveMark .red && p.curveMark .grn && p.curveMark .blu

/-- PROFILE_DISCARD's change of a record (R13): the staging bank emptied, the staged label dropped, staging none. -/
def Profile.discard (p : Profile) : Profile :=
  match p.staging with
  | none => p
  | some g => { p.setBank g.bank none with staging := none }

/-- The next revision: after 65535 comes 1 (section 0.4.5, R15, R58). -/
def nextRevision (n : Nat) : Nat := if n = 65535 then 1 else n + 1

/-- Whether the profile's change requests are barred by an image operation in flight (R7, R53, R176). -/
def State.imageBusy (s : State) : Bool := s.image.state != .idle

/-! ## The optics set -/

/-- The contents of a bank of the optics set. -/
def Optics.bank (o : Optics) (which : Bank) : Option Corrections := if which = o.current then some o.cur else o.other

/-- The staged corrections; none while staging is not open. -/
def Optics.staged (o : Optics) : Option Corrections := if o.staging then o.other else none

/-- The corrections in the pinned bank. -/
def Optics.pinnedSet (o : Optics) : Option Corrections := o.pinned.bind o.bank

/-- OPTICS_DISCARD's change of the set (R60). -/
def Optics.discard (o : Optics) : Optics := if o.staging then { o with other := none, staging := false } else o

/-! ## The setup table -/

/-- The setup in a slot. -/
def State.setup (s : State) (i : Fin 8) : Setup := s.setups[i]

/-- The setup in a slot replaced. -/
def State.setSetup (s : State) (i : Fin 8) (x : Setup) : State := { s with setups := s.setups.set i x }

/-- The window width W = x1 - x0 + 1 (R65). -/
def SetupConfig.width (c : SetupConfig) : Nat := c.x1 - c.x0 + 1

/-- The window height H = y1 - y0 + 1 (R65). -/
def SetupConfig.height (c : SetupConfig) : Nat := c.y1 - c.y0 + 1

/-- The slot length, prescale x scaler (R65). -/
def SetupConfig.slotLength (c : SetupConfig) : Nat := c.prescale * c.scaler

/-- A setup's line fits the scan (R68). -/
def fitsScan (c : SetupConfig) (scanLead scanSpan : Nat) : Bool :=
  (c.leftMargin + c.width) * c.slotLength + scanLead + Config.scanClearance ≤ scanSpan

/-- The setup of the frame record's slot. -/
def State.frameSetup (s : State) : Option Setup := s.frame.slot.map s.setup

/-! ## The frame cycle -/

/-- A frame is in flight: SEATING, READYING or EXPOSING (R80). -/
def FrameState.inFlight : FrameState → Bool
  | .seating => true
  | .readying => true
  | .exposing => true
  | _ => false

/-- A frame is in flight (R80). -/
def State.inFlight (s : State) : Bool := s.frame.state.inFlight

/-- A STEP group is pending or under way (R81, R85). -/
def State.groupBusy (s : State) : Bool := s.frame.pendingGroup.isSome || s.transport.group.isSome

/-- The idle timer runs while no frame is in flight (R146, log entry 35). -/
def State.idleRuns (s : State) : Bool := !s.inFlight

/-! ## The line buffers -/

/-- Buffer 0 or buffer 1, by the parity of a number (R110). -/
def Port.buf (p : Port) (n : Nat) : LineBuffer := if n % 2 = 0 then p.buf0 else p.buf1

/-- Buffer 0 or buffer 1 replaced, by the parity of a number (R110). -/
def Port.setBuf (p : Port) (n : Nat) (b : LineBuffer) : Port :=
  if n % 2 = 0 then { p with buf0 := b } else { p with buf1 := b }

/-- Both buffers emptied (R112). -/
def Port.flush (p : Port) : Port := { p with buf0 := .cleared, buf1 := .cleared }

/-- Some line buffer is in a state. -/
def Port.someBuf (p : Port) (b : BufferState) : Bool := p.buf0.state == b || p.buf1.state == b

/-- Both line buffers are FULL. -/
def Port.bothFull (p : Port) : Bool := p.buf0.state == .full && p.buf1.state == .full

/-! ## Channels and drives -/

/-- A channel's record. -/
def State.chan (s : State) (c : Chan) : Channel := s.chans.get c

/-- A channel's record replaced. -/
def State.setChan (s : State) (c : Chan) (x : Channel) : State := { s with chans := s.chans.set c x }

/-- What drives a channel's modulator lines replaced. -/
def State.setDrive (s : State) (c : Chan) (d : Drive) : State := { s with drives := s.drives.set c d }

/-- Every enable off, every tier and level at tier 0, level 0 (R95, R123, R126). -/
def State.drivesOff (s : State) : State := { s with drives := ⟨.off, .off, .off⟩ }

/-- WARMING or READY: the channel drives its modulator and is sampled (R126, R127). -/
def ChannelState.warm : ChannelState → Bool
  | .warming => true
  | .ready => true
  | _ => false

/-- WARMING, READY or BIASED: accepted at a header (check 8 of R81). -/
def ChannelState.lit : ChannelState → Bool
  | .warming => true
  | .ready => true
  | .biased => true
  | _ => false

/-- A pending capture is dropped (R140, R142, R144, R147). -/
def Channel.dropCapture (c : Channel) : Channel :=
  if c.capture then { c with capture := false, lastCapture := .dropped } else c

/-- Entry to WARMING with a target (R137). -/
def Channel.warm (c : Channel) (target : Nat) : Channel :=
  { c with state := .warming, target := target, stableRun := 0, first := true, warmTimer := 0 }

/-- A new reference (R144): a pending capture is dropped; in WARMING the run starts again and the first-sample mark is set. -/
def Channel.setReference (c : Channel) (v : Nat) : Channel :=
  let c := { c.dropCapture with ref := v }
  if c.state = .warming then { c with stableRun := 0, first := true } else c

/-! ## The monitor window -/

/-- The window's facet carries an exposed line (R128). -/
def Window.carriesLine : Window → Bool
  | .none => false
  | .scheduled _ line => line
  | .opened _ line _ => line

/-- The window is open (R131). -/
def Window.isOpen : Window → Bool
  | .opened _ _ _ => true
  | _ => false

end Sys2Proof.Machine
end

