-- ==== Sys2Proof/Machine/FrameOps.lean ====
section
/-! DEFINITION. The steps that come about inside the commands of the frame cycle and its neighbours: a PULL, a STEP group's
beginning and end, the end of a monitor window, the pins, the charge of a frame, settlement, the spoil, readiness, and a
channel's entry to DARK, FAULT and READY (spec/95_what_each_step_holds.md). -/

namespace Sys2Proof.Machine

open Sys2Proof

/-! ## The transport -/

/-- One PULL pulse (R152): remaining falls by 1, pulls issued rises by 1, ROLL_LOW and ROLL_END are raised where met. -/
def issuePull (s : State) : State :=
  match s.transport.roll with
  | none => s
  | some r =>
    let left := r.remaining - 1
    let s := { s with
      transport := { s.transport with roll := some { r with remaining := left, pulls := r.pulls + 1 } }
      outputs := { s.outputs with pulls := s.outputs.pulls + 1 } }
    let s := if left = r.lowMark then s.raise .rollLow else s
    if left = 0 then s.raise .rollEnd else s

/-- The next pull of the roll advance in progress (R159): the pull timer is set to 0, with the start timeout in force as its
limit. -/
def advancePull (s : State) : State :=
  match s.transport.advance with
  | none => s
  | some a =>
    let s := issuePull s
    { s with transport := { s.transport with advance := some ⟨a.toIssue - 1, .seating, s.frame.startTimeout⟩, pullTimer := 0 } }

/-- The roll advance in progress ends (R160). -/
def endAdvance (s : State) (last : LastAdvance) : State :=
  { s with transport := { s.transport with advance := none, last := last } }

/-- A roll advance waiting in WAITING_GROUP goes on (R153). -/
def resumeAdvance (s : State) : State :=
  match s.transport.advance with
  | some ⟨_, .waitingGroup, _⟩ => advancePull s
  | _ => s

/-- The frame cycle is told that a group has ended (R88, R89): in EXPOSING the stride count becomes 0, and after the
margin group the margin is stepped. -/
def groupNotice (f : FrameCycle) (kind : GroupKind) : FrameCycle :=
  if f.state = .exposing then
    match kind with
    | .margin => { f with margin := .done, stride := 0 }
    | .line => { f with stride := 0 }
  else f

/-- A STEP group has ended (R153); the pull of an advance that waited comes before a header that waited is taken (log entry 49). -/
def groupEnded (s : State) (kind : GroupKind) : State :=
  resumeAdvance { s with frame := groupNotice s.frame kind }

/-- A STEP group begins; a group of zero pulses ends as it begins (R85, R153). -/
def beginGroup (s : State) (kind : GroupKind) (pulses : Nat) : State :=
  if pulses = 0 then groupEnded s kind
  else { s with transport := { s.transport with group := some ⟨kind, pulses⟩ } }

/-! ## The monitor window's end -/

/-- The frame cycle is told that a line's monitor window has passed: a pending line group begins (R85, R128). -/
def windowPassed (s : State) : State :=
  match s.frame.pendingGroup with
  | none => s
  | some n => beginGroup { s with frame := { s.frame with pendingGroup := none } } .line n

/-- The window in progress ends or is abandoned (R127, R128): its drives return to off, the readings not yet delivered are
discarded, and where its facet carries a line the frame cycle is told. -/
def endWindow (s : State) : State :=
  match s.engine.window with
  | .none => s
  | .scheduled _ line =>
    let s := { s with engine := { s.engine with window := .none } }
    if line then windowPassed s else s
  | .opened _ line toRead =>
    let off (d : Rgb Drive) (c : Chan) := d.set c .off
    let s := { s with engine := { s.engine with window := .none }, drives := toRead.foldl off s.drives }
    if line then windowPassed s else s

/-- A channel leaves WARMING and READY (R126, R127): its drive goes off at once, its reading is discarded, and a window
with no channel still to be read ends. -/
def dropSample (s : State) (c : Chan) : State :=
  let s := s.setDrive c .off
  match s.engine.window with
  | .opened k line toRead =>
    if toRead.contains c then
      let left := toRead.erase c
      let s := { s with engine := { s.engine with window := .opened k line left } }
      if left.isEmpty then endWindow s else s
    else s
  | _ => s

/-! ## Pins -/

/-- An EXPOSED settlement's ageing (R23, R24): a profile whose pinned bank is still active counts one more frame, and an ACTIVE
one whose count reaches a non-zero life becomes STALE. -/
def Profile.age (p : Profile) : Profile :=
  if p.pinned = p.active then
    let n := satAdd Config.max16 p.frames 1
    let life := (p.activeCal.map Calibration.life).getD 0
    { p with frames := n, state := if p.state = .active ∧ life ≠ 0 ∧ life ≤ n then .stale else p.state }
  else p

/-- The profile turns STALE at an EXPOSED settlement (R24). -/
def Profile.turnsStale (p : Profile) : Bool := p.state == .active && p.age.state == .stale

/-- The frame cycle returns its profile pin (R18): the count is advanced for an EXPOSED settlement, the pinned bank becomes none,
and a RETIRING record becomes free. -/
def returnProfilePin (t : List Profile) (id : Nat) (exposed : Bool) : List Profile :=
  let t := modProfile t id fun p => { (if exposed then p.age else p) with pinned := none }
  t.filter fun p => !(p.id == id && p.state == .retiring)

/-- Both pins are returned (R18, R61); PROFILE_STALE is raised where the settlement turns the profile STALE (R24). -/
def returnPins (s : State) (exposed : Bool) : State :=
  let s := { s with optics := { s.optics with pinned := none } }
  match s.frame.latched with
  | none => s
  | some l =>
    let stale := exposed && ((s.profile l.profileId).map Profile.turnsStale).getD false
    let s := { s with profiles := returnProfilePin s.profiles l.profileId exposed }
    if stale then s.raise .profileStale else s

/-! ## Charges -/

/-- The report of the frame in flight (R74, R92, R95). -/
def Latched.report (l : Latched) (tag : Word32) (result : Result) (cause : Option Cause) : Report where
  tag := tag
  result := result
  cause := cause
  profileId := some l.profileId
  profileRev := some l.profileRev
  opticsRev := some l.opticsRev
  lines := l.lines
  starved := l.starved
  low := l.low
  high := l.high
  stale := l.stale

/-- The report of a refused frame (R74, R82). -/
def refusedReport (tag : Word32) (cause : Cause) : Report where
  tag := tag
  result := .refused
  cause := some cause
  profileId := none
  profileRev := none
  opticsRev := none
  lines := 0
  starved := 0
  low := 0
  high := 0
  stale := false

/-- A charge to a setup: the count of the report's result rises by 1 and the report replaces the last one (R75, R76). -/
def Setup.charge (x : Setup) (r : Report) : Setup :=
  match r.result with
  | .exposed => { x with exposed := satAdd Config.max32 x.exposed 1, report := some r }
  | .spoiled => { x with spoiled := satAdd Config.max32 x.spoiled 1, report := some r }
  | .refused => { x with refused := satAdd Config.max32 x.refused 1, report := some r }

/-- The frame in flight is charged to its setup with a result (R76). -/
def chargeFrame (s : State) (result : Result) (cause : Option Cause) : State :=
  match s.frame.slot, s.frame.tag, s.frame.latched with
  | some i, some tag, some l => s.setSetup i ((s.setup i).charge (l.report tag result cause))
  | _, _, _ => s

/-- The frame cycle leaves the in-flight states (R92, R95): it takes the result, goes to IDLE where the frame's FRAME_END
has been seen and to DRAINING otherwise, and the idle timer runs again from 0 (R146). -/
def leaveFlight (s : State) (result : Result) (cause : Option Cause) : State :=
  { s with
    frame := { s.frame with
      state := if s.frame.endSeen then .idle else .draining
      result := some result
      cause := cause
      endSeen := false }
    idle := { s.idle with seconds := 0, millis := 0 } }

/-- The line buffers are emptied, and a port within the frame's lines discards the rest of them (R112). -/
def spoilPort (p : Port) : Port :=
  let p := p.flush
  match p.state with
  | .betweenLines => { p with state := .drain }
  | .inLine => { p with state := .drain }
  | _ => p

/-- FRAME_SPOIL: the frame in flight ends with a cause, as one step (R95). Without a frame in flight nothing changes (R94). -/
def spoil (s : State) (cause : Cause) : State :=
  if s.inFlight then
    let s := { s with line := none }.drivesOff
    let s := endWindow s
    let s := returnPins s false
    let s := { s with port := spoilPort s.port }
    let s := chargeFrame s .spoiled (some cause)
    let s := s.raise .frameDone
    leaveFlight s .spoiled (some cause)
  else s

/-- FRAME_SETTLE: the frame settles EXPOSED, as one step (R92, R112). -/
def settle (s : State) : State :=
  let s := returnPins s true
  let s := chargeFrame s .exposed none
  let s := s.raise .frameDone
  let s := { s with port := { s.port.flush with settled := true } }
  leaveFlight s .exposed none

/-! ## Readiness -/

/-- All three channels are READY and the engine is LOCKED (R87). -/
def State.isReady (s : State) : Bool :=
  s.chans.all (fun c => c.state == .ready) && s.engine.state == .locked

/-- EXPOSING_ENTRY (R88): the top margin group begins and the line wait timer is set to 0. -/
def enterExposing (s : State) : State :=
  let pulses := (s.frameSetup.map fun x => x.config.topMargin * x.config.stepsPerLine).getD 0
  let s := { s with frame := { s.frame with state := .exposing, margin := .underWay, stride := 0, lineWait := 0 } }
  beginGroup s .margin pulses

/-- The frame cycle tests its readiness (R87). -/
def testReady (s : State) : State :=
  if s.frame.state = .readying ∧ s.isReady then enterExposing s else s

/-! ## Channels -/

/-- CHANNEL_DARK_ENTRY, less the telling of the frame cycle (R140): the drive off, D set to 0, a pending capture dropped. -/
def darken (s : State) (c : Chan) : State :=
  let x := { (s.chan c).dropCapture with state := .dark, drift := 0, faultCause := none }
  dropSample (s.setChan c x) c

/-- CHANNEL_DARK_ENTRY (R140): the frame in flight is spoiled with cause CHANNEL. -/
def enterDark (s : State) (c : Chan) : State := spoil (darken s c) .channel

/-- CHANNEL_FAULT_ENTRY (R140). -/
def enterFault (s : State) (c : Chan) (cause : FaultCause) : State :=
  let x := { (s.chan c).dropCapture with state := .fault, faultCause := some cause }
  let s := dropSample (s.setChan c x) c
  spoil (s.raise .channelFault) .channel

/-- Entry to BIASED (R142): the drive off, D kept, a pending capture dropped. -/
def enterBiased (s : State) (c : Chan) : State :=
  dropSample (s.setChan c { (s.chan c).dropCapture with state := .biased }) c

/-- CHANNEL_READY_ENTRY (R137): the frame cycle tests its readiness. -/
def enterReady (s : State) (c : Chan) : State :=
  let s := s.setChan c { s.chan c with state := .ready, outRun := 0 }
  testReady (s.raise .channelReady)

/-! ## The scan engine -/

/-- LOCK_LOST (R123): on leaving LOCKED, LOCK_LOST is raised and good revolutions becomes 0; a frame in EXPOSING is spoiled with
cause SYNC; every drive goes off and a monitor window in progress is abandoned. The engine is in `next` afterwards. -/
def leaveLocked (s : State) (next : EngineState) : State :=
  let s := { s with engine := { s.engine with state := next, good := 0 } }.raise .lockLost
  let s := if s.frame.state = .exposing then spoil s .sync else s
  endWindow s.drivesOff

/-- A change of the facet count F reaches the engine (R59, R123). DESIGN CHOICE: the revolution count, the facet counter, the
revolution mark and the last exposed facet stay as they stood, so that the counter may lie at or above the new F until the next FACET is
numbered, and the last exposed facet until the next line is exposed (log entry 44). -/
def facetsChanged (s : State) : State :=
  match s.engine.state with
  | .locked => leaveLocked s .acquiring
  | .acquiring => { s with engine := { s.engine with good := 0 } }
  | .stopped => s

end Sys2Proof.Machine
end

