-- ==== Sys2Proof/Machine/Flash.lean ====
section
/-! DEFINITION. The image region of the serial flash: a list of (address, byte) pairs in one canonical form, addresses
strictly rising, no entry equal to 0xFF, which is what an unlisted address reads as: the erased value (R175, log entry 16). -/

namespace Sys2Proof.Machine

open Sys2Proof

/-- What an address that no cell lists reads as: the value an erase leaves (R175). -/
def erasedByte : Byte := 0xFF

/-- The bytes of the image region (R175). -/
def regionSize : Nat := 65536

/-- The byte at an address. -/
def readCell : List Host.Cell → Nat → Byte
  | [], _ => erasedByte
  | c :: t, a => if c.1 = a then c.2 else readCell t a

/-- A byte written at an address, the canonical form kept. -/
def writeCell : List Host.Cell → Nat → Byte → List Host.Cell
  | [], a, v => if v = erasedByte then [] else [(a, v)]
  | c :: t, a, v =>
    if a < c.1 then (if v = erasedByte then c :: t else (a, v) :: c :: t)
    else if a = c.1 then (if v = erasedByte then t else (a, v) :: t)
    else c :: writeCell t a v

/-- Bytes written from an address on. -/
def writeCells : List Host.Cell → Nat → List Byte → List Host.Cell
  | m, _, [] => m
  | m, a, v :: rest => writeCells (writeCell m a v) (a + 1) rest

/-- The canonical form above a bound: every address above it, strictly rising, no cell erased. -/
def cellsFrom : Option Nat → List Host.Cell → Bool
  | _, [] => true
  | b, c :: t => (match b with | none => true | some x => x < c.1) && c.2 != erasedByte && cellsFrom (some c.1) t

/-- The canonical form of the region's cells. -/
def cellsWf (m : List Host.Cell) : Bool := cellsFrom none m

/-- The flash's contents are in canonical form. -/
def Flash.wf (f : Flash) : Bool := cellsWf f.cells

/-- The byte of the region that a read returns (R175); free after a failed erase (R180, log entry 17). -/
def Flash.read (f : Flash) (a : Nat) : Byte :=
  match f.left with
  | none => readCell f.cells a
  | some n => Config.flashLeft n a

/-- A run of bytes of the region. -/
def Flash.bytes (f : Flash) (a n : Nat) : List Byte := (List.range' a n).map f.read

/-- The flash carries an operation out: an erase sets every byte of the region to 0xFF, a program writes its bytes (R175). -/
def Flash.carryOut (f : Flash) : FlashOp → Flash
  | .erase => { f with cells := [], left := none }
  | .program a bytes => { f with cells := writeCells f.cells a bytes }

/-- A record split into the program operations of the pages it crosses (R179): at most `room` bytes lie before the next
page, and the rest of the record follows. `fuel` bounds the number of pages. -/
def pageSplit : Nat → Nat → List Byte → List FlashOp
  | 0, _, _ => []
  | _ + 1, _, [] => []
  | fuel + 1, a, bytes =>
    let room := Config.flashPage - a % Config.flashPage
    .program a (bytes.take room) :: pageSplit fuel (a + room) (bytes.drop room)

/-- The program operations of a record at an address: no operation writes across a page (R175). -/
def programsOf (a : Nat) (bytes : List Byte) : List FlashOp := pageSplit (bytes.length + 1) a bytes

end Sys2Proof.Machine
end

