-- ==== Sys2Proof/Machine/ImageFormat.lean ====
section
/-! DEFINITION. The layout of the calibration image (Table 11-1): the CRC-16, the header, and the three kinds of record,
written as IMAGE_SAVE writes them and checked as the load checks them. -/

namespace Sys2Proof.Machine

open Sys2Proof

/-- One bit of the CRC-16's division by x^16 + x^12 + x^5 + 1 (R178). -/
def crcShift (c : BitVec 16) : BitVec 16 := if c.msb then c <<< 1 ^^^ 0x1021 else c <<< 1

/-- One byte of the CRC-16, most significant bit first (R178). -/
def crcByte (c : BitVec 16) (b : Byte) : BitVec 16 :=
  Nat.repeat crcShift 8 (c ^^^ (b.setWidth 16 <<< 8))

/-- The CRC-16 of a run of bytes, from an initial value of 0xFFFF with no final inversion (R178). -/
def crc16 (bytes : List Byte) : BitVec 16 := bytes.foldl crcByte 0xFFFF

/-- Bytes followed by their CRC-16, most significant byte first. -/
def withCrc (bytes : List Byte) : List Byte := bytes ++ be16 (crc16 bytes)

/-- A run of bytes whose last two are the CRC-16 of the bytes before them. -/
def crcHolds (bytes : List Byte) : Bool :=
  bytes.drop (bytes.length - 2) == be16 (crc16 (bytes.take (bytes.length - 2)))

/-- Bytes of the optics record and of the channel record (R177). -/
def opticsLength : Nat := 227

/-- Bytes of the channel record (R177). -/
def channelLength : Nat := 11

/-- The optics and the channel record together (R178). -/
def tailLength : Nat := 238

/-- Where the records begin (Table 11-1). -/
def recordsAt : Nat := 16

/-! ## The header -/

/-- The marker of a header (Table 11-1). -/
def imageMarker : BitVec 32 := 0x0310A55A

/-- A header for a number of profile records and a records length (Table 11-1). -/
def headerBytes (count length : Nat) : List Byte :=
  withCrc (be32 imageMarker ++ u8 1 ++ u8 count ++ u16 length ++ List.replicate 6 0)

/-- The profile record count and the records length of a valid header (R178); absent for one that is not valid. -/
def readHeader (h : List Byte) : Option (Nat × Nat) := do
  let (marker, b) ← rd32 h
  let (version, b) ← rd8 b
  let (count, b) ← rd8 b
  let (length, _) ← rd16 b
  if marker = imageMarker ∧ version = 1 ∧ h.length = 16 ∧ crcHolds h ∧ count.toNat ≤ 24 ∧ 238 ≤ length.toNat ∧
      length.toNat ≤ 65520
  then some (count.toNat, length.toNat) else none

/-! ## Profile records -/

/-- A curve as a knot count and the knots. -/
def curveBytes (k : Curve) : List Byte := u8 k.length ++ knotBytes k

/-- The curve of a channel, the empty one where it is absent (a committed bank has all three). -/
def Calibration.curve (c : Calibration) (ch : Chan) : Curve := (c.curves.get ch).getD []

/-- The profile record of a profile with its active calibration (Table 11-1). -/
def profileRecord (p : Profile) (c : Calibration) : List Byte :=
  let content := u16 p.id ++ u8 p.label.length ++ (p.label ++ List.replicate (12 - p.label.length) 0) ++
    u16 (c.revision.getD 0) ++ u16 p.frames ++ u16 c.life ++
    (c.trims.toList.flatMap i16) ++ (c.darks.toList.flatMap u16) ++
    curveBytes (c.curve .red) ++ curveBytes (c.curve .grn) ++ curveBytes (c.curve .blu)
  withCrc (u8 1 ++ u16 (content.length + 5) ++ content)

/-- A curve of a profile record. -/
def rdCurve (b : List Byte) : Option (Curve × List Byte) := do
  let (n, b) ← rd8 b
  let (k, b) ← rdKnots n.toNat b
  some (curveOf k, b)

/-- ACTIVE or STALE by the condition of R24. -/
def agedState (life frames : Nat) : ProfileState := if life ≠ 0 ∧ life ≤ frames then .stale else .active

/-- The profile that a whole profile record holds, absent where one of R182's checks of a record by itself fails. Its bank A is
active with the loaded calibration, bank B is empty, and it has no staging, no pin and no bound setup (R182). -/
def readProfile (r : List Byte) : Option Profile := do
  let (kind, b) ← rd8 r
  let (length, b) ← rd16 b
  let (id, b) ← rd16 b
  let (n, b) ← rd8 b
  let (chars, b) ← rdN 12 b
  let (revision, b) ← rd16 b
  let (frames, b) ← rd16 b
  let (life, b) ← rd16 b
  let (trims, b) ← rdRgb16 b
  let (darks, b) ← rdRgb16 b
  let (red, b) ← rdCurve b
  let (grn, b) ← rdCurve b
  let (blu, b) ← rdCurve b
  let label := chars.take n.toNat
  if kind = 1 ∧ length.toNat = r.length ∧ b.length = 2 ∧ crcHolds r ∧ idInRange id.toNat ∧ n.toNat ≤ 12 ∧ label.all printable ∧
      revision ≠ 0 ∧ validCurve red ∧ validCurve grn ∧ validCurve blu ∧
      trims.all (fun t => trimInRange t.toInt) ∧ darks.all (fun d => codeInRange d.toNat)
  then
    some
      { id := id.toNat
        label := label
        state := agedState life.toNat frames.toNat
        active := some .a
        staging := none
        bankA := some ⟨some revision.toNat, ⟨some red, some grn, some blu⟩, trims.map BitVec.toInt, darks.map BitVec.toNat, life.toNat⟩
        bankB := none
        frames := frames.toNat
        bound := 0
        pinned := none }
  else none

/-! ## The optics record and the channel record -/

/-- Signed bytes up to a length, zero beyond the list. -/
def padded (n : Nat) (x : List Int) : List Byte := ((x ++ List.replicate n 0).take n).flatMap i8

/-- The optics record of the current bank (Table 11-1). -/
def opticsRecord (c : Corrections) : List Byte :=
  withCrc (u8 2 ++ u16 opticsLength ++ u16 (c.revision.getD 0) ++ u8 c.facets ++ padded 12 c.gains ++ padded 12 c.delays ++
    (c.shading.red.toList ++ c.shading.grn.toList ++ c.shading.blu.toList).flatMap i8)

/-- 65 knots of a shading map. -/
def rdMap (b : List Byte) : Option (Vector Int 65 × List Byte) := do
  let (k, b) ← rdN 65 b
  if h : k.length = 65 then some (⟨(k.map BitVec.toInt).toArray, by simpa using h⟩, b) else none

/-- The corrections that a whole optics record holds, absent where it is not good (R182). -/
def readOptics (r : List Byte) : Option Corrections := do
  let (kind, b) ← rd8 r
  let (length, b) ← rd16 b
  let (revision, b) ← rd16 b
  let (f, b) ← rd8 b
  let (gains, b) ← rdN 12 b
  let (delays, b) ← rdN 12 b
  let (red, b) ← rdMap b
  let (grn, b) ← rdMap b
  let (blu, _) ← rdMap b
  let n := f.toNat
  if kind = 2 ∧ length.toNat = opticsLength ∧ r.length = opticsLength ∧ crcHolds r ∧ facetsInRange n ∧
      (gains.take n).all (fun g => gainInRange g.toInt) ∧ (gains.drop n).all (· == 0) ∧ (delays.drop n).all (· == 0)
  then
    some
      { revision := some revision.toNat
        facets := n
        gains := (gains.take n).map BitVec.toInt
        delays := (delays.take n).map BitVec.toInt
        shading := ⟨red, grn, blu⟩ }
  else none

/-- The channel record of the three references (Table 11-1). -/
def channelRecord (refs : Rgb Nat) : List Byte :=
  withCrc (u8 3 ++ u16 channelLength ++ u16 refs.red ++ u16 refs.grn ++ u16 refs.blu)

/-- A reference in 1..4095 (Table 8-1). -/
def refInRange (n : Nat) : Bool := 1 ≤ n && n ≤ 4095

/-- The references that a whole channel record holds, absent where it is not good (R182). -/
def readChannels (r : List Byte) : Option (Rgb Nat) := do
  let (kind, b) ← rd8 r
  let (length, b) ← rd16 b
  let (refs, _) ← rdRgb16 b
  if kind = 3 ∧ length.toNat = channelLength ∧ r.length = channelLength ∧ crcHolds r ∧ refs.all (fun x => refInRange x.toNat)
  then some (refs.map BitVec.toNat) else none

end Sys2Proof.Machine
end

