-- ==== Sys2Proof/Machine/Channels.lean ====
section
/-! DEFINITION. The requests on the laser channels (R134, R141 to R145, R149). -/

namespace Sys2Proof.Machine

open Sys2Proof

/-- A request that carries a channel: any value but R, G or B gives RANGE (section 8.7). -/
def withChan (req : Instr) (s : State) (chan : Byte) (own : Chan → Answer) : Answer :=
  match chanOf chan with
  | none => reply req s .range
  | some c => own c

/-- CHANNEL_ON (R141). -/
def execChannelOn (chan : Byte) (s : State) : Answer :=
  let req : Instr := .channelOn chan
  withChan req s chan fun c =>
    let x := s.chan c
    if x.state = .fault then reply req s .state
    else if s.transport.safeOpen then reply req s .interlock
    else
      match x.state with
      | .dark => reply req (s.setChan c (x.warm x.config.settleCount)) .ok
      | .biased => reply req (s.setChan c (x.warm x.config.rewakeCount)) .ok
      | _ => reply req s .ok

/-- CHANNEL_BIAS (R142). -/
def execChannelBias (chan : Byte) (s : State) : Answer :=
  let req : Instr := .channelBias chan
  withChan req s chan fun c =>
    if s.frame.state = .readying ∨ s.frame.state = .exposing then reply req s .busy
    else
      match (s.chan c).state with
      | .warming => reply req (enterBiased s c) .ok
      | .ready => reply req (enterBiased s c) .ok
      | .biased => reply req s .ok
      | _ => reply req s .state

/-- CHANNEL_OFF (R143): the reply is given after the change and any spoil. -/
def execChannelOff (chan : Byte) (s : State) : Answer :=
  let req : Instr := .channelOff chan
  withChan req s chan fun c =>
    match (s.chan c).state with
    | .fault => reply req s .state
    | .dark => reply req s .ok
    | _ => reply req (enterDark s c) .ok

/-- CHANNEL_CLEAR (R140, R143). -/
def execChannelClear (chan : Byte) (s : State) : Answer :=
  let req : Instr := .channelClear chan
  withChan req s chan fun c =>
    if (s.chan c).state = .fault then reply req (enterDark s c) .ok else reply req s .state

/-- A channel under new settings: D is clamped to the new drift limit (R134). -/
def Channel.configure (x : Channel) (c : ChannelConfig) : Channel :=
  { x with config := c, drift := clampTo c.driftLimit x.drift }

/-- CHANNEL_CONFIGURE (R134). -/
def execChannelConfigure (chan : Byte) (fields : ChannelFields) (idleBiasDelay : BitVec 16) (s : State) : Answer :=
  let req : Instr := .channelConfigure chan fields idleBiasDelay
  withChan req s chan fun c =>
    match channelConfigOf fields with
    | none => reply req s .range
    | some cfg =>
      if s.inFlight then reply req s .busy
      else
        let s := s.setChan c ((s.chan c).configure cfg)
        reply req { s with idle := { s.idle with delay := idleBiasDelay.toNat } } .ok

/-- CHANNEL_SET_REFERENCE (R144). -/
def execChannelSetReference (chan : Byte) (value : BitVec 16) (s : State) : Answer :=
  let req : Instr := .channelSetReference chan value
  withChan req s chan fun c =>
    if !refInRange value.toNat then reply req s .range
    else if s.inFlight then reply req s .busy
    else reply req (s.setChan c ((s.chan c).setReference value.toNat)) .ok

/-- CHANNEL_CAPTURE_REFERENCE (R145). -/
def execChannelCaptureReference (chan : Byte) (s : State) : Answer :=
  let req : Instr := .channelCaptureReference chan
  withChan req s chan fun c =>
    if s.inFlight then reply req s .busy
    else if (s.chan c).state ≠ .ready then reply req s .state
    else reply req (s.setChan c { s.chan c with capture := true }) .ok

/-- CHANNEL_QUERY (R149); each conditional field has a present mark of its own (log entry 24), and the fields marked In WARMING in R133 are given
in WARMING only (log entry 48). -/
def execChannelQuery (chan : Byte) (s : State) : Answer :=
  let req : Instr := .channelQuery chan
  withChan req s chan fun c =>
    let x := s.chan c
    let g := x.config
    let warming := x.state == .warming
    reply req s .ok <|
      u8 x.state.code ++ opt (fun f => u8 (FaultCause.code f)) (if x.state = .fault then x.faultCause else none) ++
      optIf warming (u8 x.target) ++ optIf warming (u8 x.stableRun) ++ optIf warming (mark x.first) ++
      optIf warming (u16 x.warmTimer) ++
      optIf true (i16 x.drift) ++ opt i16 x.lastRaw ++ opt u16 x.lastM ++ u8 x.outRun ++
      u16 x.ref ++ u8 x.capture.toNat ++ u8 x.lastCapture.code ++
      u8 g.settleBand ++ u8 g.settleCount ++ u8 g.rewakeCount ++ u16 g.warmTimeout ++ u8 g.driftLimit ++ u8 g.driftDivisor ++
      u16 s.idle.delay ++ u16 s.idle.seconds ++ u16 s.idle.millis ++ mark s.idleRuns

end Sys2Proof.Machine
end

