-- ==== Sys2Proof/Machine/ImageOps.lean ====
section
/-! DEFINITION. The image memory (Chapter 11): the save with its flash operations, the load with its records, and the
image requests. -/

namespace Sys2Proof.Machine

open Sys2Proof

/-- The image record changed. -/
def State.modImage (s : State) (f : Image → Image) : State := { s with image := f s.image }

/-! ## Saving -/

/-- An operation is issued to the flash: the save awaits it and the operation timer is set to 0 (R180). -/
def issueOps (s : State) (v : Save) : List FlashOp → State
  | [] => s
  | op :: later => s.modImage fun m => { m with timer := 0, save := some { v with op := op, later := later } }

/-- A record programmed from an address on, in as many operations as the pages it crosses require (R179). -/
def issueRecord (s : State) (v : Save) (address : Nat) (bytes : List Byte) : State :=
  issueOps s v (programsOf address bytes)

/-- The header (step 4 of R179): the count of profile records written and the total of the records' lengths. -/
def formHeader (s : State) (v : Save) : State :=
  issueRecord s { v with step := .header } 0 (headerBytes v.count (v.offset - recordsAt))

/-- The channel record, from the three references as they stand (step 3 of R179). -/
def formChannels (s : State) (v : Save) : State :=
  issueRecord s { v with step := .channel, offset := v.offset + channelLength } v.offset (channelRecord (s.chans.map Channel.ref))

/-- The optics record, from the current bank (step 3 of R179). -/
def formOptics (s : State) (v : Save) : State :=
  issueRecord s { v with step := .optics, offset := v.offset + opticsLength } v.offset (opticsRecord s.optics.cur)

/-- A profile whose record is written: ACTIVE or STALE (step 2 of R179). -/
def Profile.saved (p : Profile) : Bool := p.state == .active || p.state == .stale

/-- The next profile record in ascending order of ID, formed as the profile stands (step 2 of R179); then the optics record. -/
def formProfile (s : State) (v : Save) : State :=
  match s.profiles.find? fun p => decide (v.lastId < p.id) && p.saved with
  | none => formOptics s v
  | some p =>
    let bytes := profileRecord p (p.activeCal.getD ⟨none, ⟨none, none, none⟩, ⟨0, 0, 0⟩, ⟨0, 0, 0⟩, 0⟩)
    issueRecord s { v with step := .profile, lastId := p.id, offset := v.offset + bytes.length, count := v.count + 1 } v.offset bytes

/-- A record's last program is done: records written rises by 1 (R179). -/
def recordWritten (s : State) : State := s.modImage fun m => { m with written := m.written + 1 }

/-- SAVE_COMPLETE (R179). -/
def saveComplete (s : State) : State :=
  (s.modImage fun m => { m with state := .idle, last := .saved, failed := none, save := none }).raise .imageDone

/-- The save goes on after a record's last operation is done (R179). -/
def saveNext (s : State) (v : Save) : State :=
  match v.step with
  | .erase => formProfile s v
  | .profile => formProfile (recordWritten s) v
  | .optics => formChannels (recordWritten s) v
  | .channel => formHeader (recordWritten s) v
  | .header => saveComplete s

/-- FLASH_OPERATION_DONE (R179, R180): the flash has carried the operation out, and the save issues its next one. A done report
without a save has no effect. DESIGN CHOICE: the command names no operation, and a report is taken as that of the operation in flight (log
entry 51). -/
def execFlashOperationDone (s : State) : Answer :=
  .next <|
    match s.image.save with
    | none => s
    | some v =>
      let s := { s with flash := s.flash.carryOut v.op }
      match v.later with
      | [] => saveNext s v
      | op :: later => issueOps s v (op :: later)

/-- The step of a save as the failed step of R176. -/
def SaveStep.failed : SaveStep → FailedStep
  | .erase => .erase
  | .header => .header
  | _ => .record

/-- What a failed operation leaves in the flash: a failed erase leaves free contents (R180, log entry 17); a record's program is
carried out although the part no longer awaits it (R175); the header's bytes remain 0xFF (R180, log entry 18). -/
def failFlash (s : State) (v : Save) : State :=
  match v.op, v.step with
  | .erase, _ => { s with flash := { s.flash with left := some s.free }, free := s.free + 1 }
  | .program _ _, .header => s
  | .program _ _, _ => { s with flash := s.flash.carryOut v.op }

/-- The operation timer passes 500 ms: the save fails (R180). -/
def failSave (s : State) : State :=
  match s.image.save with
  | none => s
  | some v =>
    let s := failFlash s v
    (s.modImage fun m => { m with state := .idle, last := .fault, failed := some v.step.failed, save := none }).raise .imageFault

/-- IMAGE_OPERATION_TIMEOUT (R180). -/
def execImageOperationTimeout (s : State) : Answer := .next (failSave s)

/-- IMAGE_SAVE (R179). -/
def execImageSave (s : State) : Answer :=
  let req : Instr := .imageSave
  if s.imageBusy then reply req s .busy
  else
    let begin (m : Image) : Image :=
      { m with state := .saving, failed := none, written := 0, timer := 0, save := some ⟨.erase, 0, recordsAt, 0, .erase, []⟩ }
    reply req (s.modImage begin) .ok

/-! ## Loading -/

/-- The header as a read of the region gives it, if it is valid and a flash answers at all (R178, R181). -/
def Flash.header (f : Flash) : Option (Nat × Nat) := if f.answers then readHeader (f.bytes 0 16) else none

/-- The image record at the start of a load (R181). -/
def Image.clearCounts (m : Image) : Image :=
  { m with written := 0, loaded := 0, skipped := 0, opticsLoaded := false, channelsLoaded := false, save := none, load := none }

/-- The load begins (R181): the header is read, and the load runs on where it is valid. -/
def beginLoad (s : State) : State :=
  match s.flash.header with
  | none => s.modImage fun m => { m.clearCounts with state := .idle, last := .noImage, failed := none }
  | some (count, length) =>
    s.modImage fun m =>
      { m.clearCounts with
        state := .loading
        load := some
          { step := if count = 0 then .optics else .profile
            left := count
            offset := recordsAt
            opticsAt := recordsAt + length - tailLength
            set := ⟨[], none, none⟩ } }

/-- IMAGE_LOAD (R181). -/
def execImageLoad (s : State) : Answer :=
  let req : Instr := .imageLoad
  if s.imageBusy then reply req s .busy
  else if !s.profiles.isEmpty || s.optics.staging || s.inFlight then reply req s .state
  else
    match s.flash.header with
    | none => reply req (beginLoad s) .noImage
    | some (count, _) => reply req (beginLoad s) .ok (u8 count)

/-- The good optics record of the load set placed: bank A, current, and bank B empty (R64, R182). -/
def placeOptics (s : State) (c : Option Corrections) : State :=
  match c with
  | none => s
  | some c =>
    let changes := c.facets != s.optics.cur.facets
    let s := { s with optics := ⟨.a, c, none, false, none⟩, image := { s.image with opticsLoaded := true } }
    if changes then facetsChanged s else s

/-- The references of a good channel record placed, in each channel as CHANNEL_SET_REFERENCE would (R144, R182). -/
def placeChannels (s : State) (refs : Option (Rgb Nat)) : State :=
  match refs with
  | none => s
  | some r =>
    let set (c : Chan) : Channel := (s.chan c).setReference (r.get c)
    { s with chans := ⟨set .red, set .grn, set .blu⟩, image := { s.image with channelsLoaded := true } }

/-- LOAD_SET_PLACED (R182): the load set is placed in one step and the load ends LOADED. -/
def placeLoadSet (s : State) (set : LoadSet) : State :=
  let s := { s with profiles := set.profiles.foldl (fun t p => insertProfile p t) s.profiles }
  let s := placeChannels (placeOptics s set.optics) set.channels
  (s.modImage fun m => { m with state := .idle, last := .loaded, failed := none, load := none }).raise .imageDone

/-- The length field of the record at an offset (Table 11-1). -/
def Flash.lengthAt (f : Flash) (a : Nat) : Nat := ((rd16 (f.bytes (a + 1) 2)).map fun r => r.1.toNat).getD 0

/-- A profile record's length ends the reading of profile records: it is outside 65..437, or the record runs past the optics
record's offset (R182). -/
def endsProfiles (l : Load) (length : Nat) : Bool := length < 65 || 437 < length || l.opticsAt < l.offset + length

/-- The good profile of a record read, if its ID is not in the load set already (R182). -/
def goodProfile (set : LoadSet) (record : List Byte) : Option Profile :=
  (readProfile record).filter fun p => set.profiles.all fun q => q.id != p.id

/-- A profile record read: added to the load set or skipped (R182). -/
def readProfileRecord (s : State) (l : Load) : State :=
  let length := s.flash.lengthAt l.offset
  if endsProfiles l length then
    s.modImage fun m => { m with skipped := m.skipped + l.left, load := some { l with step := .optics, left := 0 } }
  else
    let next : Load :=
      { l with
        step := if l.left ≤ 1 then .optics else .profile
        left := l.left - 1
        offset := l.offset + length }
    match goodProfile l.set (s.flash.bytes l.offset length) with
    | none => s.modImage fun m => { m with skipped := m.skipped + 1, load := some next }
    | some p =>
      s.modImage fun m =>
        { m with loaded := m.loaded + 1, load := some { next with set := { l.set with profiles := l.set.profiles ++ [p] } } }

/-- The optics record read (R182). -/
def readOpticsRecord (s : State) (l : Load) : State :=
  let c := readOptics (s.flash.bytes l.opticsAt opticsLength)
  s.modImage fun m => { m with load := some { l with step := .channel, set := { l.set with optics := c } } }

/-- The channel record read; the reading is complete (R182). -/
def readChannelRecord (s : State) (l : Load) : State :=
  placeLoadSet s { l.set with channels := readChannels (s.flash.bytes (l.opticsAt + opticsLength) channelLength) }

/-- IMAGE_RECORD_READ (R182): the next record of the load is read and checked; without a load it has no effect. -/
def execImageRecordRead (s : State) : Answer :=
  .next <|
    match s.image.load with
    | none => s
    | some l =>
      match l.step with
      | .profile => readProfileRecord s l
      | .optics => readOpticsRecord s l
      | .channel => readChannelRecord s l

/-! ## Status and abandonment -/

/-- IMAGE_STATUS (R183). -/
def execImageStatus (s : State) : Answer :=
  let m := s.image
  reply .imageStatus s .ok <|
    u8 m.state.code ++ u8 m.last.code ++ opt (fun x => u8 (FailedStep.code x)) (if m.last = .fault then m.failed else none) ++
    u8 m.written ++ u8 m.loaded ++ u8 m.skipped ++ mark m.opticsLoaded ++ mark m.channelsLoaded

/-- An operation already issued is completed by the flash whatever the part does afterwards (R175, R184). That the region
changes in the step that abandons the save is log entry 16's. -/
def completeIssued (f : Flash) (save : Option Save) : Flash :=
  match save with
  | none => f
  | some v => f.carryOut v.op

/-- A soft reset abandons an image operation in flight; the counts stand as they were (R184). -/
def abandonImage (s : State) : State :=
  if s.imageBusy then
    { s with
      flash := completeIssued s.flash s.image.save
      image := { s.image with state := .idle, last := .abandoned, failed := none, save := none, load := none } }
  else s

end Sys2Proof.Machine
end

