-- ==== Sys2Proof/Machine/Tables.lean ====
section
/-! DEFINITION. The two fixed tables of the part (R40, R41). Every entry follows from its rule's formula; Laws/Tables.lean
proves that each is the rounded figure. -/

namespace Sys2Proof.Machine

/-- The antilog table A(f) = round(2048 * 2^(f/256)) for f = 0..255 (R40). -/
def antilogTable : List Nat :=
  [2048, 2054, 2059, 2065, 2070, 2076, 2082, 2087, 2093, 2099, 2104, 2110, 2116, 2121, 2127, 2133] ++
  [2139, 2144, 2150, 2156, 2162, 2168, 2174, 2180, 2186, 2191, 2197, 2203, 2209, 2215, 2221, 2227] ++
  [2233, 2239, 2245, 2252, 2258, 2264, 2270, 2276, 2282, 2288, 2295, 2301, 2307, 2313, 2320, 2326] ++
  [2332, 2339, 2345, 2351, 2358, 2364, 2370, 2377, 2383, 2390, 2396, 2403, 2409, 2416, 2422, 2429] ++
  [2435, 2442, 2449, 2455, 2462, 2469, 2475, 2482, 2489, 2496, 2502, 2509, 2516, 2523, 2530, 2536] ++
  [2543, 2550, 2557, 2564, 2571, 2578, 2585, 2592, 2599, 2606, 2613, 2620, 2627, 2634, 2642, 2649] ++
  [2656, 2663, 2670, 2678, 2685, 2692, 2699, 2707, 2714, 2721, 2729, 2736, 2744, 2751, 2759, 2766] ++
  [2774, 2781, 2789, 2796, 2804, 2811, 2819, 2827, 2834, 2842, 2850, 2857, 2865, 2873, 2881, 2888] ++
  [2896, 2904, 2912, 2920, 2928, 2936, 2944, 2952, 2960, 2968, 2976, 2984, 2992, 3000, 3008, 3016] ++
  [3025, 3033, 3041, 3049, 3057, 3066, 3074, 3082, 3091, 3099, 3108, 3116, 3124, 3133, 3141, 3150] ++
  [3158, 3167, 3176, 3184, 3193, 3201, 3210, 3219, 3228, 3236, 3245, 3254, 3263, 3272, 3280, 3289] ++
  [3298, 3307, 3316, 3325, 3334, 3343, 3352, 3361, 3371, 3380, 3389, 3398, 3407, 3416, 3426, 3435] ++
  [3444, 3454, 3463, 3472, 3482, 3491, 3501, 3510, 3520, 3529, 3539, 3548, 3558, 3568, 3577, 3587] ++
  [3597, 3607, 3616, 3626, 3636, 3646, 3656, 3666, 3676, 3686, 3696, 3706, 3716, 3726, 3736, 3746] ++
  [3756, 3766, 3776, 3787, 3797, 3807, 3818, 3828, 3838, 3849, 3859, 3870, 3880, 3891, 3901, 3912] ++
  [3922, 3933, 3944, 3954, 3965, 3976, 3987, 3997, 4008, 4019, 4030, 4041, 4052, 4063, 4074, 4085]

/-- The log table Lt(i) = round(256 * log2(1 + i/256)) for i = 0..255 (R41). -/
def logTable : List Nat :=
  [0, 1, 3, 4, 6, 7, 9, 10, 11, 13, 14, 16, 17, 18, 20, 21] ++
  [22, 24, 25, 26, 28, 29, 30, 32, 33, 34, 36, 37, 38, 40, 41, 42] ++
  [44, 45, 46, 47, 49, 50, 51, 52, 54, 55, 56, 57, 59, 60, 61, 62] ++
  [63, 65, 66, 67, 68, 69, 71, 72, 73, 74, 75, 77, 78, 79, 80, 81] ++
  [82, 84, 85, 86, 87, 88, 89, 90, 92, 93, 94, 95, 96, 97, 98, 99] ++
  [100, 102, 103, 104, 105, 106, 107, 108, 109, 110, 111, 112, 113, 114, 116, 117] ++
  [118, 119, 120, 121, 122, 123, 124, 125, 126, 127, 128, 129, 130, 131, 132, 133] ++
  [134, 135, 136, 137, 138, 139, 140, 141, 142, 143, 144, 145, 146, 147, 148, 149] ++
  [150, 151, 152, 153, 154, 155, 155, 156, 157, 158, 159, 160, 161, 162, 163, 164] ++
  [165, 166, 167, 168, 169, 169, 170, 171, 172, 173, 174, 175, 176, 177, 178, 178] ++
  [179, 180, 181, 182, 183, 184, 185, 185, 186, 187, 188, 189, 190, 191, 192, 192] ++
  [193, 194, 195, 196, 197, 198, 198, 199, 200, 201, 202, 203, 203, 204, 205, 206] ++
  [207, 208, 208, 209, 210, 211, 212, 212, 213, 214, 215, 216, 216, 217, 218, 219] ++
  [220, 220, 221, 222, 223, 224, 224, 225, 226, 227, 228, 228, 229, 230, 231, 231] ++
  [232, 233, 234, 234, 235, 236, 237, 238, 238, 239, 240, 241, 241, 242, 243, 244] ++
  [244, 245, 246, 247, 247, 248, 249, 249, 250, 251, 252, 252, 253, 254, 255, 255]

/-- A(f) (R40). -/
def antilog (f : Nat) : Nat := antilogTable.getD f 0

/-- Lt(i) (R41). -/
def logEntry (i : Nat) : Nat := logTable.getD i 0

end Sys2Proof.Machine
end

