-- ==== Sys2Proof/Machine/Exposure.lean ====
section
/-! DEFINITION. The exposure arithmetic of Chapter 2: the six stages from a code value to a tier and a level, and the
counting of a line's clamps. -/

namespace Sys2Proof.Machine

open Sys2Proof

/-- An L10 pixel channel widened to a 12-bit code (R29). -/
def widen (v : Nat) : Nat := 4 * v + v / 256

/-- The exposure within a segment (R33): the straight line from knot `k` to knot `l`, rounded. -/
def segmentAt (k l : Knot) (c : Nat) : Nat :=
  let d := l.code - k.code
  k.exposure + ((c - k.code) * (l.exposure - k.exposure) + d / 2) / d

/-- Stage 1, the curve stage (R32): the segment whose codes enclose `c`, or the last knot. -/
def curveAt : Curve → Nat → Nat
  | [], _ => 0
  | [k], _ => k.exposure
  | k :: l :: rest, c => if c < l.code then segmentAt k l c else curveAt (l :: rest) c

/-- A knot of a shading map. -/
def shadingKnot (m : Vector Int 65) (z : Nat) : Int := m.toList.getD z 0

/-- Stage 2, the shading stage (R34, R35). -/
def shadingAt (m : Vector Int 65) (p : Nat) : Int :=
  let z := p / 128
  let t := p % 128
  shadingKnot m z + ((shadingKnot m (z + 1) - shadingKnot m z) * t + 64) / 128

/-- Stage 5, the drive stage (R39): tier and level for T in 1..4095. -/
def driveOf (t : Nat) : Nat × Nat :=
  let s := t / 256
  let a := antilog (t % 256)
  let level :=
    match s % 4 with
    | 0 => (a + 4) / 8
    | 1 => (a + 2) / 4
    | 2 => (a + 1) / 2
    | _ => a
  (s / 4, level)

/-- How a channel computation ends (R31, R38): a dark result, a low clamp, a high clamp, or none of them. -/
inductive ClampResult where
  | dark | low | high | none
deriving DecidableEq, Repr

/-- The result's code, by its place in Table 2-10. -/
def ClampResult.code : ClampResult → Nat
  | .dark => 0
  | .low => 1
  | .high => 2
  | .none => 3

/-- The figures of one channel computation; E, T and S have no meaning for a dark result (R30, R48). -/
structure Computed where
  result : ClampResult
  exposure : Nat
  sum : Int
  shading : Int
  tier : Nat
  level : Nat
deriving DecidableEq, Repr

/-- Stages 4 and 5 on a summed exposure (R38, R39). -/
def clampAndDrive (t : Int) : ClampResult × Nat × Nat :=
  if t ≤ 0 then (.low, 0, 0)
  else if 4096 ≤ t then (.high, driveOf 4095)
  else (.none, driveOf t.toNat)

/-- One channel computation (R30): the six stages of Table 2-1 on the inputs of Table 2-3. -/
def compute (curve : Curve) (trim : Int) (dark : Nat) (drift : Int) (map : Vector Int 65) (gain : Int) (c p : Nat) : Computed :=
  if c < dark then ⟨.dark, 0, 0, 0, 0, 0⟩
  else
    let e := curveAt curve c
    let sh := shadingAt map p
    let t := (e : Int) + trim + drift + sh + gain
    let r := clampAndDrive t
    ⟨r.1, e, t, sh, r.2.1, r.2.2⟩

/-- The computation of one channel of a pixel with a calibration and a set of corrections. -/
def computeWith (cal : Calibration) (opt : Corrections) (ch : Chan) (drift gain : Int) (c p : Nat) : Computed :=
  compute ((Rgb.get cal.curves ch).getD []) (Rgb.get cal.trims ch) (Rgb.get cal.darks ch) drift (Rgb.get opt.shading ch) gain c p

/-- The low and the high clamp a result counts (R38). -/
def clampCounts (r : ClampResult) : Nat × Nat :=
  match r with
  | .low => (1, 0)
  | .high => (0, 1)
  | _ => (0, 0)

/-- The clamps of one pixel in its three channels (R43). -/
def pixelClamps (cal : Calibration) (opt : Corrections) (drift : Rgb Int) (gain : Int) (px : Rgb Nat) (p : Nat) : Nat × Nat :=
  let one (ch : Chan) := clampCounts (computeWith cal opt ch (drift.get ch) gain (px.get ch) p).result
  let r := one .red
  let g := one .grn
  let b := one .blu
  (r.1 + g.1 + b.1, r.2 + g.2 + b.2)

/-- The low and the high clamp count of a line: its pixels in exposure order, the first at scan position `p` (R43). -/
def lineClamps (cal : Calibration) (opt : Corrections) (drift : Rgb Int) (gain : Int) : List (Rgb Nat) → Nat → Nat × Nat
  | [], _ => (0, 0)
  | px :: rest, p =>
    let a := pixelClamps cal opt drift gain px p
    let b := lineClamps cal opt drift gain rest (p + 1)
    (a.1 + b.1, a.2 + b.2)

/-- The log of a reading v in 1..4095 (R135). -/
def logOf (v : Nat) : Nat :=
  let n := Nat.log2 v
  let i := if 8 ≤ n then v / 2 ^ (n - 8) - 256 else v * 2 ^ (8 - n) - 256
  256 * n + logEntry i

/-- The raw drift of a reading against a reference, D_raw = L(R_ref) - L(M) (R135). -/
def rawDrift (ref m : Nat) : Int := (logOf ref : Int) - logOf m

end Sys2Proof.Machine
end

