-- ==== Sys2Proof/Machine/ScanEngine.lean ====
section
/-! DEFINITION. The scan engine (Chapter 7) and the exposing of lines (Chapters 2 and 5): a FACET pulse and INDEX, the placing and
completion of a line, the monitor window and its readings, and the modulator lines. -/

namespace Sys2Proof.Machine

open Sys2Proof

/-! ## Periods -/

/-- A captured period is within tolerance (R119). Two FACET pulses lie at least one REFCLK period apart, and with the power-on
nominal of 0 no period is within tolerance. -/
def EngineConfig.within (c : EngineConfig) (p : Nat) : Bool :=
  1 ≤ p && p < Config.maxPeriod && ((p : Int) - c.nominal).natAbs * 256 ≤ c.tolerance * c.nominal

/-! ## Lines -/

/-- Where the first slot of a line begins, in REFCLK periods after the facet's FACET (R125). -/
def lineStart (scanLead : Nat) (delay : Int) (leftMargin slotLength : Nat) : Nat :=
  ((scanLead : Int) + delay + (leftMargin * slotLength : Nat)).toNat

/-- A channel may drive its modulator: it is WARMING or READY and SAFE is closed (R126). -/
def State.mayDrive (s : State) (c : Chan) : Bool := (s.chan c).state.warm && !s.transport.safeOpen

/-- A drive for each channel of a kind that may have it. -/
def State.drivesOf (s : State) (which : Chan → Bool) (d : Drive) : Rgb Drive :=
  let one (c : Chan) := if which c && s.mayDrive c then d else .off
  ⟨one .red, one .grn, one .blu⟩

/-- How a locked facet serves the frame cycle (R89). -/
inductive FacetUse where
  | uncounted | passes | carries | starved
deriving DecidableEq, Repr

/-- The stride count after a counted facet (R89). -/
def FrameCycle.strideNext (f : FrameCycle) : Nat := satAdd 4 f.stride 1

/-- What a locked facet offered to the frame cycle is (R89): counted in EXPOSING with the margin stepped and no exposed line whose
group has not ended; then it passes by stride, carries the next window line, or is starved. -/
def facetUse (s : State) : FacetUse :=
  match s.frame.latched, s.frameSetup with
  | some l, some x =>
    if s.frame.state = .exposing ∧ s.frame.margin = .done ∧ s.line.isNone ∧ !s.groupBusy then
      if s.frame.strideNext < x.config.stride then .passes
      else if (s.port.buf l.lines).state = .full then .carries
      else if s.port.someBuf .full then .passes
      else .starved
    else .uncounted
  | _, _ => .uncounted

/-- The line context of the next window line on facet `k` (R42), placed as R125 states. -/
def lineContext (s : State) (l : Latched) (c : SetupConfig) (k : Nat) : LineContext :=
  let set := s.optics.pinnedSet.getD s.optics.cur
  { profileId := l.profileId
    profileBank := ((s.profile l.profileId).bind Profile.pinned).getD .a
    opticsBank := s.optics.pinned.getD s.optics.current
    facet := k
    gain := set.gains.getD k 0
    drift := s.chans.map Channel.drift
    leftMargin := c.leftMargin
    width := c.width
    buffer := l.lines % 2
    start := lineStart s.engine.config.scanLead (set.delays.getD k 0) c.leftMargin c.slotLength
    slotLength := c.slotLength
    low := 0
    high := 0 }

/-- LINE_EXPOSED (R90): the line's buffer goes to EXPOSING, and the engine drives its slots from this facet. -/
def exposeLine (s : State) (k : Nat) : State :=
  match s.frame.latched, s.frameSetup with
  | some l, some x =>
    { s with
      port := s.port.setBuf l.lines { s.port.buf l.lines with state := .exposing }
      line := some (lineContext s l x.config k)
      drives := s.drivesOf (fun _ => true) .slots
      engine := { s.engine with lastExposed := some k } }
  | _, _ => s

/-- One more starved facet (R89). -/
def Latched.starve (l : Latched) : Latched := { l with starved := satAdd Config.max32 l.starved 1 }

/-- FACET_OFFERED (R89). -/
def offerFacet (s : State) (k : Nat) : State :=
  let counted := { s with frame := { s.frame with stride := s.frame.strideNext } }
  match facetUse s with
  | .uncounted => s
  | .passes => counted
  | .starved => { counted with frame := { counted.frame with latched := counted.frame.latched.map Latched.starve } }
  | .carries => exposeLine counted k

/-! ## FACET -/

/-- The sample phase advanced (R124). -/
def Engine.nextPhase (e : Engine) : Engine := { e with samplePhase := (e.samplePhase + 1) % 128 }

/-- The first FACET taken in STOPPED (R120): no period is captured and the last period is left as it was. -/
def Engine.start (e : Engine) : Engine :=
  { e with
    state := .acquiring
    revCount := none
    facet := none
    mark := .none
    good := 0
    facetTimer := 0
    periodCount := 0 }

/-- The period captured and the facet timer set to 0 (R119, R121, R122). -/
def Engine.capture (e : Engine) (p : Nat) : Engine := { e with lastPeriod := p, periodCount := 0, facetTimer := 0 }

/-- The revolution count raised by 1, saturating at 255 (Table 7-1), and the facet numbered by it where it is F or below. -/
def Engine.number (e : Engine) (m f : Nat) : Engine :=
  let n := satAdd 255 m 1
  { e with revCount := some n, facet := if n ≤ f then some (n - 1) else none }

/-- A FACET in ACQUIRING, after the capture (R121). -/
def Engine.acquiringFacet (e : Engine) (p f : Nat) : Engine :=
  match e.revCount with
  | none => e
  | some m =>
    let n := e.number m f
    if !e.config.within p || decide (f < satAdd 255 m 1) then { n with mark := .bad, good := 0 } else n

/-- The idle sample schedule (R124): the phase is a multiple of 2^n. -/
def sampleDue (phase exp : Nat) : Bool := phase % 2 ^ exp == 0

/-- The monitor sample of a locked facet `k`, from the sample phase read at it (R124). -/
def scheduleSample (s : State) (phase k : Nat) (carries : Bool) : State :=
  if carries || sampleDue phase s.engine.config.sampleExp then
    { s with engine := { s.engine with window := .scheduled k carries } }
  else s

/-- A FACET in LOCKED, after the capture (R122): lock is lost, or the locked facet is offered to the frame cycle. -/
def lockedFacet (s : State) (phase p : Nat) : State :=
  let f := s.optics.cur.facets
  let m := s.engine.revCount.getD 0
  let numbered := { s with engine := s.engine.number m f }
  if !s.engine.config.within p || decide (f ≤ m) then
    leaveLocked { numbered with engine := { numbered.engine with mark := .bad } } .acquiring
  else scheduleSample (offerFacet numbered m) phase m (facetUse numbered == .carries)

/-- A FACET pulse taken (R119 to R122, R124): the period count is the period it captures. A window in progress is abandoned
first (R128). -/
def takeFacet (s : State) : State :=
  let phase := s.engine.samplePhase
  let p := s.engine.periodCount
  let s := endWindow s
  let s := { s with engine := s.engine.nextPhase }
  match s.engine.state with
  | .stopped => { s with engine := s.engine.start }
  | .acquiring => { s with engine := (s.engine.capture p).acquiringFacet p s.optics.cur.facets }
  | .locked => lockedFacet { s with engine := s.engine.capture p } phase p

/-! ## INDEX -/

/-- The revolution just ended was good: the mark is GOOD and the count equals F (R121). -/
def Engine.judgedGood (e : Engine) (f : Nat) : Bool := e.mark == .good && e.revCount == some f

/-- Good revolutions after an INDEX in ACQUIRING (R121). -/
def Engine.goodNext (e : Engine) (f : Nat) : Nat :=
  if e.judgedGood f then satAdd 2 e.good 1 else if e.mark = .none then e.good else 0

/-- The INDEX begins the next revolution (R121, R122). -/
def Engine.newRevolution (e : Engine) : Engine := { e with revCount := some 0, mark := .good }

/-- LOCK_GAINED (R121): the frame cycle tests its readiness. -/
def gainLock (s : State) : State :=
  testReady ({ s with engine := { s.engine with state := .locked } }.raise .lockGained)

/-- INDEX (R120, R121, R122). -/
def execIndex (s : State) : Answer :=
  .next <|
    let e := s.engine
    let f := s.optics.cur.facets
    match e.state with
    | .stopped => s
    | .acquiring =>
      let judged := { s with engine := { e.newRevolution with good := e.goodNext f } }
      if e.judgedGood f && e.goodNext f == 2 then gainLock judged else judged
    | .locked =>
      if e.revCount = some f then { s with engine := { e with revCount := some 0 } }
      else leaveLocked { s with engine := e.newRevolution } .acquiring

/-- The engine record after a stall (R123). -/
def Engine.stalled (e : Engine) : Engine :=
  { e with state := .stopped, revCount := none, facet := none, mark := .none, good := 0 }

/-- A stall (R123): LOCK_LOST is raised when it is taken in LOCKED. In STOPPED nothing changes. -/
def stallEngine (s : State) : State :=
  match s.engine.state with
  | .stopped => s
  | .acquiring => { s with engine := s.engine.stalled }
  | .locked => leaveLocked { s with engine := s.engine.stalled } .stopped

/-- STALL (R123). -/
def execStall (s : State) : Answer := .next (stallEngine s)

/-! ## A line's completion -/

/-- The low and the high clamps of the line of a context (R43), from the pinned banks and the line's buffer. -/
def lineCounts (s : State) (x : LineContext) : Nat × Nat :=
  match (s.profile x.profileId).bind (fun p => p.bank x.profileBank), s.optics.bank x.opticsBank with
  | some cal, some opt => lineClamps cal opt x.drift x.gain (s.port.buf x.buffer).pixels x.leftMargin
  | _, _ => (0, 0)

/-- The line context once its last slot has been driven: each clamp has added 1 to its line count (R43, log entry 13). -/
def driveLine (s : State) (x : LineContext) : LineContext :=
  let clamps := lineCounts s x
  { x with low := x.low + clamps.1, high := x.high + clamps.2 }

/-- A line complete: its line counts are added to the frame's totals and the line is counted (R44, R90). -/
def Latched.countLine (l : Latched) (x : LineContext) : Latched :=
  { l with
    lines := satAdd Config.maxLines l.lines 1
    low := satAdd Config.max32 l.low x.low
    high := satAdd Config.max32 l.high x.high }

/-- The line is window line y1: as many lines are exposed as the window is high (R90, R92). -/
def frameComplete (s : State) : Bool :=
  match s.frame.latched, s.frameSetup with
  | some l, some x => l.lines == x.config.height
  | _, _ => false

/-- LINE_COMPLETE's change of the record before any settlement (R44, R85, R110): the line's group is pending. -/
def endLine (s : State) (x : LineContext) : State :=
  let x := driveLine s x
  { s with
    line := none
    drives := ⟨.off, .off, .off⟩
    port := s.port.setBuf x.buffer .cleared
    frame := { s.frame with
      latched := s.frame.latched.map fun l => l.countLine x
      pendingGroup := s.frameSetup.map fun y => y.config.stepsPerLine } }

/-- A line is complete (R44, R90, R92): its last slot has ended. Where the line's window has already passed, its group begins now (R85,
log entry 14). -/
def completeLine (s : State) (x : LineContext) : State :=
  let s := endLine s x
  let s := if frameComplete s then settle s else s
  if s.engine.window.carriesLine then s else windowPassed s

/-! ## The monitor window -/

/-- The channels a window samples: those that are WARMING or READY, in the order R, G, B (R127). -/
def State.sampled (s : State) : List Chan := [Chan.red, .grn, .blu].filter fun c => (s.chan c).state.warm

/-- The window opens on its facet (R127); a window with no channel to sample ends at its opening. -/
def openWindow (s : State) (k : Nat) (line : Bool) : State :=
  if s.sampled.isEmpty then endWindow s
  else
    { s with
      engine := { s.engine with window := .opened k line s.sampled }
      drives := s.drivesOf (fun c => (s.chan c).state.warm) .reference }

/-- A scheduled window may open: the engine is still LOCKED (R127), and the facet's line is not being exposed any more (log entry 14). -/
def State.windowWaits (s : State) : Bool :=
  match s.engine.window with
  | .scheduled _ _ => s.engine.state == .locked && s.line.isNone
  | _ => false

/-- The scheduled window opens (R127). -/
def openScheduled (s : State) : State :=
  match s.engine.window with
  | .scheduled k line => openWindow s k line
  | _ => s

/-! ## The moments after a FACET -/

/-- The REFCLK periods after its FACET at which a line is complete: the end of its last slot (R125). -/
def LineContext.ends (x : LineContext) : Nat := x.start + x.width * x.slotLength

/-- The moment `t` REFCLK periods after the latest FACET has come (R119, R125, R127). -/
def Engine.reached (e : Engine) (t : Nat) : Bool := min Config.maxPeriod t ≤ e.periodCount

/-- The REFCLK periods to that moment: at least the next one (log entry 45). -/
def Engine.periodsTo (e : Engine) (t : Nat) : Nat := max 1 (min Config.maxPeriod t - e.periodCount)

/-- The REFCLK periods until the line being exposed is complete (R125). -/
def State.toLineEnd (s : State) : Option Nat := s.line.map fun x => s.engine.periodsTo x.ends

/-- The REFCLK periods until a window opens, where one may open (R127). -/
def State.toWindow (s : State) : Option Nat :=
  if s.windowWaits then some (s.engine.periodsTo s.engine.config.scanSpan) else none

/-! ## Readings -/

/-- A pending capture completed by a reading in 1..4095 (R145). -/
def Channel.takeCapture (c : Channel) (m : Nat) : Channel :=
  if c.capture then
    if m = 4095 then { c with capture := false, lastCapture := .overRange }
    else { c with capture := false, lastCapture := .taken, ref := m }
  else c

/-- A sample in WARMING is stable (step 1 of R137). -/
def Channel.stable (c : Channel) (m : Nat) (raw : Int) : Bool :=
  match c.lastRaw with
  | none => false
  | some last => !c.first && m < 4095 && (raw - last).natAbs ≤ c.config.settleBand

/-- A sample in WARMING (R137), but for the entry to READY. -/
def Channel.warmSample (c : Channel) (m : Nat) (raw : Int) : Channel :=
  { c with
    first := false
    stableRun := if c.stable m raw then satAdd 64 c.stableRun 1 else 0
    drift := clampTo c.config.driftLimit raw }

/-- A sample is out of limit (R139). -/
def Channel.outOfLimit (c : Channel) (m : Nat) (raw : Int) : Bool := m == 4095 || decide (c.config.driftLimit < raw.natAbs)

/-- A sample in READY (R139), but for the fault: the drift limit with the sign of D_raw, or the filter's step, rounded toward zero. -/
def Channel.driftSample (c : Channel) (m : Nat) (raw : Int) : Channel :=
  if c.outOfLimit m raw then
    { c with
      outRun := satAdd 4 c.outRun 1
      drift := if m = 4095 ∨ raw < 0 then -(c.config.driftLimit : Int) else c.config.driftLimit }
  else { c with outRun := 0, drift := c.drift + (raw - c.drift).tdiv c.config.driftDivisor }

/-- The channel with its latest reading and its capture completed (R136). -/
def Channel.read (c : Channel) (m : Nat) : Channel := { c.takeCapture m with lastM := some m }

/-- A reading in 1..4095 handled by the channel's state (R136, R137, R139); last D_raw becomes its D_raw. -/
def handleSample (s : State) (c : Chan) (m : Nat) : State :=
  let x := (s.chan c).read m
  let raw := rawDrift x.ref m
  match x.state with
  | .warming =>
    let y := { x.warmSample m raw with lastRaw := some raw }
    let s := s.setChan c y
    if y.target ≤ y.stableRun then enterReady s c else s
  | .ready =>
    let y := { x.driftSample m raw with lastRaw := some raw }
    let s := s.setChan c y
    if y.outRun = 4 then enterFault s c .drift else s
  | _ => s

/-- A reading delivered to a channel (R136): a reading of 0 is a fault of the monitor. -/
def handleReading (s : State) (c : Chan) (m : Nat) : State :=
  if m = 0 then enterFault (s.setChan c { s.chan c with lastM := some 0 }) c .darkMonitor else handleSample s c m

/-- The window has ended where no channel is still to be read (R127). -/
def closeRead (s : State) : State :=
  match s.engine.window with
  | .opened _ _ [] => endWindow s
  | _ => s

/-- MONITOR_READING (R127, R136): the readings arrive in the order R, G, B, so a reading is that of the first channel still to be
read; it is delivered and the channel's drive goes off. A reading of any other channel was not asked for yet and is discarded (log
entry 15). -/
def execMonitorReading (c : Chan) (reading : BitVec 12) (s : State) : Answer :=
  .next <|
    match s.engine.window with
    | .opened k line (next :: rest) =>
      if c = next then
        let s := { s with engine := { s.engine with window := .opened k line rest } }.setDrive c .off
        closeRead (handleReading s c reading.toNat)
      else s
    | _ => s

/-! ## STEP groups -/

/-- STEP_GROUP_END (R85, R153): the last pulse of the group under way has been issued; without one nothing changes. -/
def execStepGroupEnd (s : State) : Answer :=
  .next <|
    match s.transport.group with
    | none => s
    | some g =>
      let s := { s with
        transport := { s.transport with group := none }
        outputs := { s.outputs with steps := s.outputs.steps + g.pulses } }
      groupEnded s g.kind

/-! ## The modulator lines -/

/-- A channel's modulator lines (R126). -/
structure Modulator where
  tier : Nat
  level : Nat
  enable : Bool
deriving DecidableEq, Repr

/-- The lines at rest: tier 0, level 0, enable off (R126). -/
def Modulator.rest : Modulator := ⟨0, 0, false⟩

/-- The drive of slot `j` of a line (R43). -/
def slotDrive (s : State) (x : LineContext) (c : Chan) (j : Nat) : Modulator :=
  match (s.profile x.profileId).bind (fun p => p.bank x.profileBank), s.optics.bank x.opticsBank,
      (s.port.buf x.buffer).pixels[j]? with
  | some cal, some opt, some px =>
    let r := computeWith cal opt c (x.drift.get c) x.gain (px.get c) (x.leftMargin + j)
    ⟨r.tier, r.level, true⟩
  | _, _, _ => .rest

/-- The slot under way `t` REFCLK periods after the line's FACET (R125). -/
def LineContext.slotAt (x : LineContext) (t : Nat) : Option Nat :=
  if x.start ≤ t ∧ t < x.ends then some ((t - x.start) / x.slotLength) else none

/-- A channel's modulator lines `t` REFCLK periods after the latest FACET (R126, log entry 35). -/
def modulatorAt (s : State) (c : Chan) (t : Nat) : Modulator :=
  match s.drives.get c with
  | .off => .rest
  | .reference => ⟨Config.referenceTier, Config.referenceLevel, true⟩
  | .slots =>
    match s.line with
    | none => .rest
    | some x =>
      match x.slotAt t with
      | none => .rest
      | some j => slotDrive s x c j

end Sys2Proof.Machine
end

