-- ==== Sys2Proof/Machine/Timers.lean ====
section
/-! DEFINITION. The millisecond tick (R129), what each timer does on it, the passing of each limit as a command of its own, and the passing of
REFCLK periods with the moments that fall on them. -/

namespace Sys2Proof.Machine

open Sys2Proof

/-! ## The passings -/

/-- Auto bias of one channel (R146): a READY channel goes to BIASED, as under CHANNEL_BIAS. -/
def biasIfReady (s : State) (c : Chan) : State := if (s.chan c).state = .ready then enterBiased s c else s

/-- Auto bias (R146): every READY channel goes to BIASED, and the idle timer is set to 0 and runs on. -/
def autoBias (s : State) : State :=
  let s := { s with idle := { s.idle with seconds := 0, millis := 0 } }
  biasIfReady (biasIfReady (biasIfReady s .red) .grn) .blu

/-- AUTO_BIAS (R146): the idle timer runs only while no frame is in flight, and a delay of 0 takes no auto bias. -/
def execAutoBias (s : State) : Answer :=
  .next (if s.idleRuns && s.idle.delay != 0 then autoBias s else s)

/-- SEATING or READYING, in which the start timer runs (R87). -/
def FrameState.starting : FrameState → Bool
  | .seating => true
  | .readying => true
  | _ => false

/-- The start timer passes the start timeout (R87, R94). -/
def startTimeoutPassed (s : State) : State := if s.frame.state.starting then spoil s .startTimeout else s

/-- START_TIMEOUT (R87, R94). -/
def execStartTimeout (s : State) : Answer := .next (startTimeoutPassed s)

/-- The line wait timer runs: EXPOSING with no line buffer FULL or EXPOSING (R91). -/
def State.lineWaits (s : State) : Bool :=
  s.frame.state == .exposing && !(s.port.someBuf .full || s.port.someBuf .exposing)

/-- The line wait timer passes the line wait limit (R91, R94). -/
def lineWaitPassed (s : State) : State := if s.lineWaits then spoil s .starve else s

/-- LINE_WAIT_LIMIT_PASSED (R91, R94). -/
def execLineWaitLimitPassed (s : State) : Answer := .next (lineWaitPassed s)

/-- The warm timer of a channel passes its warm timeout (R138). -/
def warmTimeoutPassed (s : State) (c : Chan) : State :=
  if (s.chan c).state = .warming then enterFault s c .warmTimeout else s

/-- WARM_TIMEOUT (R138). -/
def execWarmTimeout (c : Chan) (s : State) : Answer := .next (warmTimeoutPassed s c)

/-- The pull timer of a roll advance in SEATING passes the start timeout (R160). -/
def pullTimeoutPassed (s : State) : State :=
  match s.transport.advance with
  | some ⟨_, .seating, _⟩ => (endAdvance s .timeout).raise .xportTimeout
  | _ => s

/-- ADVANCE_PULL_TIMEOUT (R160). -/
def execAdvancePullTimeout (s : State) : Answer := .next (pullTimeoutPassed s)

/-! ## The timers on a tick -/

/-- The idle timer advanced (R146): seconds of 1000 ticks; it stays at its top (log entry 42). -/
def IdleBias.advance (t : IdleBias) : IdleBias :=
  if t.millis < 999 then { t with millis := t.millis + 1 }
  else if t.seconds < Config.max16 then { t with seconds := t.seconds + 1, millis := 0 }
  else t

/-- The idle timer on a tick, with auto bias where its seconds reach a non-zero delay (R134, R146). -/
def idleTick (s : State) : State :=
  if s.idleRuns then
    let s := { s with idle := s.idle.advance }
    if s.idle.delay ≠ 0 ∧ s.idle.delay ≤ s.idle.seconds then autoBias s else s
  else s

/-- The start timer on a tick (R87). -/
def startTick (s : State) : State :=
  if s.frame.state.starting then
    if s.frame.startTimeout ≤ s.frame.startTimer then startTimeoutPassed s
    else { s with frame := { s.frame with startTimer := s.frame.startTimer + 1 } }
  else s

/-- The line wait timer on a tick (R91, log entry 32). -/
def lineWaitTick (s : State) : State :=
  if s.lineWaits then
    if s.port.lineWaitLimit ≤ s.frame.lineWait then lineWaitPassed s
    else { s with frame := { s.frame with lineWait := s.frame.lineWait + 1 } }
  else s

/-- The facet timer on a tick (R123). -/
def facetTick (s : State) : State :=
  match s.engine.state with
  | .stopped => s
  | _ =>
    if s.engine.config.facetTimeout ≤ s.engine.facetTimer then stallEngine s
    else { s with engine := { s.engine with facetTimer := s.engine.facetTimer + 1 } }

/-- A warm timer on a tick (R138). A timer that a shorter timeout finds above it passes as one that equals it does (log entry 46). -/
def warmTick (s : State) (c : Chan) : State :=
  let x := s.chan c
  if x.state = .warming then
    if x.config.warmTimeout ≤ x.warmTimer then warmTimeoutPassed s c
    else s.setChan c { x with warmTimer := x.warmTimer + 1 }
  else s

/-- The pull timer on a tick, against the start timeout in force when the pull was issued (R159, R160). -/
def pullTick (s : State) : State :=
  match s.transport.advance with
  | some ⟨_, .seating, limit⟩ =>
    if limit ≤ s.transport.pullTimer then pullTimeoutPassed s
    else { s with transport := { s.transport with pullTimer := s.transport.pullTimer + 1 } }
  | _ => s

/-- The image memory's operation timer on a tick (R180). -/
def imageTick (s : State) : State :=
  if s.image.save.isSome then
    if Config.operationLimit ≤ s.image.timer then failSave s
    else s.modImage fun m => { m with timer := m.timer + 1 }
  else s

/-- A tick (R129): every millisecond timer advances, or its limit is passed in place of the advance; the order of the passings
that fall on one tick is log entry 7's. -/
def tick (s : State) : State :=
  let s := facetTick (lineWaitTick (startTick (idleTick s)))
  let s := warmTick (warmTick (warmTick s .red) .grn) .blu
  imageTick (pullTick s)

/-! ## REFCLK periods -/

/-- `n` REFCLK periods pass without a tick (R119, R129): both counts advance by them. -/
def countPeriods (s : State) (n : Nat) : State :=
  { s with engine := { s.engine with
      periodCount := satAdd Config.maxPeriod s.engine.periodCount n, msCount := s.engine.msCount + n } }

/-- The REFCLK periods still missing from the millisecond in progress (R129): at least the one that completes it. -/
def Engine.toTick (e : Engine) : Nat := max 1 (e.config.refclkPerMs - e.msCount)

/-- The tick where the count of the millisecond in progress has reached the setting, the count restarting from 0 (R129). -/
def tickIfDue (s : State) : State :=
  if s.engine.config.refclkPerMs ≤ s.engine.msCount then tick { s with engine := { s.engine with msCount := 0 } } else s

/-- The line being exposed is complete where its end has come (R44, R125). -/
def completeIfDue (s : State) : State :=
  match s.line with
  | some x => if s.engine.reached x.ends then completeLine s x else s
  | none => s

/-- The window that waits opens where the scan span has passed (R127). -/
def openIfDue (s : State) : State :=
  if s.windowWaits && s.engine.reached s.engine.config.scanSpan then openScheduled s else s

/-- What falls on the REFCLK period just counted, in the order that log entry 45 gives. -/
def periodEvents (s : State) : State := tickIfDue (openIfDue (completeIfDue s))

/-- The REFCLK periods until the next one on which something falls: at least one. -/
def State.toEvent (s : State) : Nat :=
  let n := s.engine.toTick
  min n (min (s.toLineEnd.getD n) (s.toWindow.getD n))

/-- `n` REFCLK periods pass, each counted in both counts, with all that falls on each of them (R119, R125, R127, R129). `fuel` bounds the
number of periods on which something falls, which is at most `n`. -/
def elapse : Nat → Nat → State → State
  | 0, n, s => countPeriods s n
  | fuel + 1, n, s =>
    if n < s.toEvent then countPeriods s n else elapse fuel (n - s.toEvent) (periodEvents (countPeriods s s.toEvent))

/-- `n` REFCLK periods pass. -/
def pass (n : Nat) (s : State) : State := elapse n n s

/-- One REFCLK period (R119, R129, log entry 1). -/
def refclk (s : State) : State := pass 1 s

/-- MILLISECOND_TICK (R129): the count of REFCLK periods reaches the setting; the periods it still lacked have passed (log entry 2). -/
def execMillisecondTick (s : State) : Answer := .next (pass s.engine.toTick s)

/-- LINE_COMPLETE (R44, R125): the REFCLK periods up to the end of the line's last slot have passed, and the line is complete (log entry
45). Without a line nothing changes. -/
def execLineComplete (s : State) : Answer :=
  .next <|
    match s.toLineEnd with
    | none => s
    | some n => pass n s

/-- MONITOR_WINDOW_OPEN (R127): the REFCLK periods up to the scan span have passed since a sampled facet's FACET, and the window opens (log
entry 45). Without a scheduled window, or out of LOCKED, nothing changes. -/
def execMonitorWindowOpen (s : State) : Answer :=
  .next <|
    match s.engine.window, s.engine.state with
    | .scheduled _ _, .locked => pass (s.engine.periodsTo s.engine.config.scanSpan) s
    | _, _ => s

/-- FACET (R119 to R122, R124): `periods` REFCLK periods have passed beyond those already counted (log entry 2), then the pulse is
taken. -/
def execFacet (periods : Nat) (s : State) : Answer := .next (takeFacet (pass periods s))

end Sys2Proof.Machine
end

