-- ==== Sys2Proof/Machine/EngineRequests.lean ====
section
/-! DEFINITION. The scan engine's requests (R130, R131). -/

namespace Sys2Proof.Machine

open Sys2Proof

/-- Some ARMED setup would not fit the scan under a configuration (check 3 of R130). -/
def anyUnfit (s : State) (c : EngineConfig) : Bool :=
  s.setups.toList.any fun x => x.armed && !fitsScan x.config c.scanLead c.scanSpan

/-- A changed nominal period or tolerance reaches the engine (R123, R130). -/
def periodFiguresChanged (s : State) : State :=
  match s.engine.state with
  | .locked => leaveLocked s .acquiring
  | .acquiring => { s with engine := { s.engine with good := 0 } }
  | .stopped => s

/-- ENGINE_CONFIGURE (R130). A tick whose new setting the count already made has reached is given at once (R129, log entry 33). -/
def execEngineConfigure (fields : EngineFields) (s : State) : Answer :=
  let req : Instr := .engineConfigure fields
  match engineConfigOf fields with
  | none => reply req s .range
  | some c =>
    if s.inFlight then reply req s .busy
    else if anyUnfit s c then reply req s .window
    else
      let old := s.engine.config
      let s := { s with engine := { s.engine with config := c } }
      let s := if c.nominal ≠ old.nominal ∨ c.tolerance ≠ old.tolerance then periodFiguresChanged s else s
      reply req (tickIfDue s) .ok

/-- ENGINE_QUERY (R131); the unknown and the absent numbers are optional fields (log entry 20). -/
def execEngineQuery (s : State) : Answer :=
  let e := s.engine
  let c := e.config
  reply .engineQuery s .ok <|
    u8 e.state.code ++ u8 s.optics.cur.facets ++ opt u8 e.facet ++ opt u8 e.revCount ++ u8 e.mark.code ++ u8 e.good ++
    u32 e.lastPeriod ++ u16 e.facetTimer ++ u8 e.samplePhase ++ opt u8 e.lastExposed ++ mark e.window.isOpen ++
    u32 c.nominal ++ u8 c.tolerance ++ u16 c.scanLead ++ u32 c.scanSpan ++ u16 c.facetTimeout ++ u8 c.sampleExp ++
    u32 c.refclkPerMs

end Sys2Proof.Machine
end

