-- ==== Sys2Proof/Machine/Frames.lean ====
section
/-! DEFINITION. The frame cycle's own commands (Chapter 5): taking a header and a held header failure, and the frame requests. -/

namespace Sys2Proof.Machine

open Sys2Proof

/-! ## Refusals -/

/-- The frame record after a refusal: result REFUSED with its cause, no field of an accepted frame, DRAINING (R79, R82). -/
def FrameCycle.refuse (f : FrameCycle) (slot : Option (Fin 8)) (tag : Option Word32) (cause : Cause) : FrameCycle :=
  { f with
    state := .draining
    slot := slot
    tag := tag
    result := some .refused
    cause := some cause
    latched := none
    endSeen := false }

/-- A port error: the count rises and PORT_ERROR is raised (R114). -/
def portError (s : State) : State :=
  { s with port := { s.port with errors := satAdd Config.max16 s.port.errors 1 } }.raise .portError

/-- FRAME_REFUSED for cause FORMAT: charged to no setup, slot and tag not held (R82). -/
def refuseFormat (s : State) : State := { s with frame := s.frame.refuse none none .format }

/-- FRAME_REFUSED for any other cause: the frame is charged to its setup as a refusal (R75, R76, R82). -/
def refuseIn (s : State) (i : Fin 8) (tag : Word32) (cause : Cause) : State :=
  let s := s.setSetup i ((s.setup i).charge (refusedReport tag cause))
  { s with frame := s.frame.refuse (some i) (some tag) cause }

/-- The frame's FRAME_END is told to the frame cycle (R93): seen while a frame is in flight, the end of a drain in
DRAINING, nothing in IDLE. -/
def tellEnd (f : FrameCycle) : FrameCycle :=
  match f.state with
  | .idle => f
  | .draining => { f with state := .idle, endSeen := false }
  | _ => { f with endSeen := true }

/-- A complete header is delivered to the frame cycle (R83, R107): one delivered while the frame cycle is DRAINING ends the drain, with
no charge and no event. A header behind a held failure is delivered after it. A header that waits beside a frame in flight came after
that frame's FRAME_END, so its settlement or spoil needs no drain. -/
def deliver (s : State) : State :=
  if s.port.waiting.isSome && s.frame.failures.isEmpty && s.frame.state == .draining then
    { s with frame := { s.frame with state := .idle, endSeen := false } }
  else s

/-! ## Taking a header -/

/-- The format a header names: 1 is L10, 2 is L12, any other equals neither (Table 6-1, check 3 of R81). -/
def headerFormat (n : Nat) : Option Format :=
  match n with
  | 1 => some .l10
  | 2 => some .l12
  | _ => none

/-- Checks 2 to 8 of R81 on a header for a setup, in order: the cause of the first that fails. -/
def headerCause (s : State) (x : Setup) (h : Header) : Option Cause :=
  let staleProfile := ((s.profile x.config.profileId).map fun p => p.state == .stale).getD false
  if !x.armed then some .setupIdle
  else if headerFormat h.format ≠ some x.config.format ∨ h.srcWidth ≠ x.config.srcWidth ∨ h.srcHeight ≠ x.config.srcHeight then
    some .shape
  else if staleProfile && x.config.stalePolicy == .refuse then some .stale
  else if !((s.transport.roll.map fun r => decide (1 ≤ r.remaining)).getD false) then some .roll
  else if s.transport.xportFault || s.transport.advance.isSome then some .xport
  else if s.transport.safeOpen then some .interlock
  else if !(s.chans.all fun c => c.state.lit) then some .channel
  else none

/-- A BIASED channel is woken at the latch point, and a pending capture is dropped (R147). -/
def Channel.atLatch (c : Channel) : Channel :=
  let c := c.dropCapture
  if c.state = .biased then c.warm c.config.rewakeCount else c

/-- LATCH_POINT (R84): the pins are taken, PULL is issued, BIASED channels are woken, the frame is SEATING. -/
def latch (s : State) (i : Fin 8) (h : Header) : State :=
  let id := (s.setup i).config.profileId
  let p := s.profile id
  let l : Latched :=
    { profileId := id
      profileRev := ((p.bind Profile.activeCal).bind Calibration.revision).getD 0
      opticsRev := s.optics.cur.revision.getD 0
      stale := (p.map fun q => q.state == .stale).getD false
      lines := 0
      starved := 0
      low := 0
      high := 0 }
  let s := s.modProfile id fun q => { q with pinned := q.active }
  let s := { s with optics := { s.optics with pinned := some s.optics.current } }
  let s := issuePull s
  { s with
    chans := s.chans.map Channel.atLatch
    frame := { s.frame with
      state := .seating
      slot := some i
      tag := some h.tag
      result := none
      cause := none
      latched := some l
      startTimer := 0
      margin := .no
      stride := 0
      lineWait := 0
      endSeen := false } }

/-- The port after an accepted header (R105). -/
def Port.accept (p : Port) (h : Header) (f : Format) : Port :=
  { p with
    state := .betweenLines
    waiting := none
    format := f
    srcWidth := h.srcWidth
    srcHeight := h.srcHeight
    expected := 0
    received := 0
    wordCount := 0
    settled := false }

/-- The port after a refused header (R105). -/
def Port.refuse (p : Port) : Port := { p with state := .drain, waiting := none }

/-- A header taken whole, in IDLE or ending a drain (R81 to R84). -/
def takeHeader (s : State) (h : Header) : State :=
  let refused := { s with port := s.port.refuse }
  match (if h.low = 0 then slotOf (BitVec.ofNat 8 h.slot) else none) with
  | none => refuseFormat (portError refused)
  | some i =>
    match headerCause s (s.setup i) h with
    | some cause => refuseIn refused i h.tag cause
    | none => latch { s with port := s.port.accept h (s.setup i).config.format } i h

/-- The frame cycle can take what the port delivers: no frame is in flight and no STEP group is pending or under way (R81). -/
def State.free? (s : State) : Bool := !s.inFlight && !s.groupBusy

/-- HEADER_TAKEN (R81, R83, R105): a complete header waits, the frame cycle is free, and no FORMAT failure is held before it
(R107); otherwise nothing changes. -/
def execHeaderTaken (s : State) : Answer :=
  .next <|
    match s.port.waiting with
    | none => s
    | some h => if s.free? && s.frame.failures.isEmpty then takeHeader s h else s

/-- A FORMAT failure of a header is taken (R107): refused with cause FORMAT, and to IDLE where a FRAME_END is held with it. -/
def takeFailure (s : State) (withEnd : Bool) : State :=
  let s := refuseFormat s
  if withEnd then { s with frame := tellEnd s.frame } else s

/-- HEADER_FAILURE_TAKEN (R107): the oldest held failure is taken once the frame cycle is free; a header that waited behind the last of
them is then delivered. -/
def execHeaderFailureTaken (s : State) : Answer :=
  .next <|
    match s.frame.failures with
    | [] => s
    | withEnd :: rest =>
      if s.free? then deliver (takeFailure { s with frame := { s.frame with failures := rest } } withEnd) else s

/-! ## Frame requests -/

/-- FRAME_CANCEL (R96). -/
def execFrameCancel (s : State) : Answer :=
  let req : Instr := .frameCancel
  if s.inFlight then reply req (spoil s .cancel) .ok else reply req s .state

/-- FRAME_STATUS (R97). -/
def execFrameStatus (s : State) : Answer :=
  let f := s.frame
  let timed := f.state == .seating || f.state == .readying
  let l (g : Latched → List Byte) := opt g f.latched
  reply .frameStatus s .ok <|
    u8 f.state.code ++ opt (fun i => u8 (Fin.val i)) f.slot ++ opt be32 f.tag ++ opt (fun r => u8 (Result.code r)) f.result ++
    opt (fun c => u8 (Cause.code c)) f.cause ++ l (fun x => u16 x.profileId) ++ l (fun x => u16 x.profileRev) ++
    l (fun x => u16 x.opticsRev) ++ l (fun x => mark x.stale) ++ optIf timed (u16 f.startTimer) ++
    optIf (f.state == .exposing) (u8 f.margin.code) ++ l (fun x => u16 x.lines) ++ l (fun x => u32 x.starved) ++
    l (fun x => u32 x.low) ++ l (fun x => u32 x.high)

/-- FRAME_CONFIGURE (R98): the start timeout, in 1..65535 ms. -/
def execFrameConfigure (startTimeout : BitVec 16) (s : State) : Answer :=
  let req : Instr := .frameConfigure startTimeout
  if startTimeout = 0 then reply req s .range
  else if s.inFlight then reply req s .busy
  else reply req { s with frame := { s.frame with startTimeout := startTimeout.toNat } } .ok

end Sys2Proof.Machine
end

