-- ==== Sys2Proof/Machine/Link.lean ====
section
/-! DEFINITION. The control link's own commands (Chapter 10): the two transactions, the owning block's answer becoming the held
reply, IDENTIFY and the three event requests. -/

namespace Sys2Proof.Machine

open Sys2Proof

/-- The bytes a read transaction shifts out (Table 10-1; byte 0 is log entry 30's). One that began in PROCESSING carries
NOT_DONE throughout, even if the reply has become ready since (R168). -/
def readBytes (l : Link) (read : ReadTransfer) : List Byte :=
  let r : Reply := if read.notDone || l.processing then ⟨.notDone, []⟩ else l.held.getD ⟨.ok, []⟩
  let message := 0 :: statusByte r.status l.dropped :: BitVec.ofNat 8 r.body.length :: r.body
  (message ++ List.replicate read.bytes 0).take read.bytes

/-- A transaction that was under way when a power-on reset ended is not taken (R174). -/
def skipStraddling (s : State) : State := { s with link := { s.link with straddles := false } }

/-- The bytes shifted out in a transaction. -/
def State.shiftOut (s : State) (bytes : List Byte) : State := { s with outputs := { s.outputs with sdo := bytes } }

/-- A read transaction changes nothing in the link record (R168). -/
def readOut (s : State) (read : ReadTransfer) : State :=
  if s.link.straddles then skipStraddling s else s.shiftOut (readBytes s.link read)

/-- A request transaction taken or dropped (R166, R167). -/
def takeRequest (l : Link) (bytes : List Byte) : Link :=
  if l.processing then { l with dropped := true }
  else
    let l := { l with held := none, dropped := false, answer := none }
    match parseRequest bytes with
    | .error st => { l with held := some ⟨st, []⟩ }
    | .ok c => { l with processing := true, request := some c }

/-- REQUEST_TRANSACTION (R166, R167): the whole bytes of a transaction, acted on at the rise of CL_CS. One with no whole byte has
no effect; one whose byte 0 is 0x00 is a read transaction (R168). -/
def execRequestTransaction (bytes : List Byte) (s : State) : Answer :=
  .next <|
    match bytes with
    | [] => if s.link.straddles then skipStraddling s else s
    | code :: _ =>
      if s.link.straddles then skipStraddling s
      else if code = 0 then readOut s ⟨false, bytes.length⟩
      else { s with link := takeRequest s.link bytes }.shiftOut (List.replicate bytes.length 0)

/-- READ_TRANSACTION (R168): a transaction whose byte 0 is 0x00. -/
def execReadTransaction (read : ReadTransfer) (s : State) : Answer := .next (readOut s read)

/-- REQUEST_ANSWERED (R166, R167): in PROCESSING the owning block's answer becomes the held reply and the link returns to IDLE; the
dropped mark travels with it. Without a request in process, or before its owner has answered, nothing changes (log entry 3). -/
def execRequestAnswered (s : State) : Answer :=
  .next <|
    match s.link.processing, s.link.answer with
    | true, some r => { s with link := { s.link with processing := false, request := none, answer := none, held := some r } }
    | _, _ => s

/-! ## The bits of a transaction -/

/-- The bits on CL_SDO in the latest transaction, in the order they are shifted out: each byte's most significant bit first (R163). -/
def State.sdoBits (s : State) : List Bool := s.outputs.sdo.flatMap bitsOfByte

/-- The transaction that the bits taken on CL_SDI between a fall and a rise of CL_CS are, in the order taken, with whether it began in
PROCESSING (R163, R166, R168). -/
def transactionOf (notDone : Bool) (bits : List Bool) : Instr :=
  match wholeBytes bits with
  | [] => .requestTransaction []
  | code :: rest => if code = 0 then .readTransaction ⟨notDone, rest.length + 1⟩ else .requestTransaction (code :: rest)

/-- CL_CS falls: a transaction begins, and the link notes whether it is PROCESSING (R163, R168). -/
def State.csFall (s : State) : State := { s with link := { s.link with begun := some s.link.processing } }

/-- CL_CS rises on a transaction: it is the next command that waits (R163, R166). -/
def State.csRise (s : State) (bits : List Bool) : State :=
  { s with
    link := { s.link with begun := none }
    pending := s.pending ++ [transactionOf (s.link.begun.getD s.link.processing) bits] }

/-- IDENTIFY (R173). -/
def execIdentify (s : State) : Answer :=
  reply .identify s .ok (u16 Config.partCode ++ u8 Config.siliconRevision ++ u8 Config.profileCapacity ++ u8 Config.setupCount)

/-- A mask of the fifteen events as a 2-byte number; bit 15 names no event (section 10.3). -/
def maskBytes (m : BitVec 15) : List Byte := be16 (m.setWidth 16)

/-- EVENTS_READ (R172): the flags and the enables; every set flag is marked seen. -/
def execEventsRead (s : State) : Answer :=
  reply .eventsRead { s with events := s.events.markSeen } .ok (maskBytes s.events.flags ++ maskBytes s.events.enables)

/-- EVENTS_CLEAR (R172): the named flags that are set and seen are cleared; the reply carries the flags as they stand then. -/
def execEventsClear (mask : BitVec 16) (s : State) : Answer :=
  let req : Instr := .eventsClear mask
  if mask.msb then reply req s .range
  else
    let v := s.events.clear (mask.setWidth 15)
    reply req { s with events := v } .ok (maskBytes v.flags)

/-- EVENTS_ENABLE (R172): every enable is written from the mask. -/
def execEventsEnable (mask : BitVec 16) (s : State) : Answer :=
  let req : Instr := .eventsEnable mask
  if mask.msb then reply req s .range
  else
    let v := s.events.enable (mask.setWidth 15)
    reply req { s with events := v } .ok (maskBytes v.enables)

end Sys2Proof.Machine
end

