-- ==== Sys2Proof/Machine/OpticsSet.lean ====
section
/-! DEFINITION. The requests on the optics set (Chapter 3). -/

namespace Sys2Proof.Machine

open Sys2Proof

/-- Checks 1 and 2 of R53, then the request's own rule. -/
def withOptics (req : Instr) (s : State) (fieldsInRange : Bool) (own : Answer) : Answer :=
  if !fieldsInRange then reply req s .range
  else if s.imageBusy then reply req s .busy
  else own

/-- OPTICS_STAGE (R54): source CURRENT_COPY or EMPTY. -/
def execOpticsStage (source : Byte) (s : State) : Answer :=
  let req : Instr := .opticsStage source
  withOptics req s (copyOf source).isSome <|
    let o := s.optics
    if o.staging then reply req s .state
    else if o.pinned = some o.current.flip then reply req s .busy
    else
      let set := if copyOf source = some true then o.cur else Corrections.default
      reply req { s with optics := { o with other := some { set with revision := none }, staging := true } } .ok
        (bankByte o.current.flip)

/-- The staged corrections changed. -/
def Optics.modStaged (o : Optics) (f : Corrections → Corrections) : Optics := { o with other := o.other.map f }

/-- OPTICS_PUT_FACETS (R55): F, the gains and the delays, one pair for each facet. -/
def execOpticsPutFacets (facets : List (Byte × Byte)) (s : State) : Answer :=
  let req : Instr := .opticsPutFacets facets
  withOptics req s (facetsInRange facets.length && facets.all fun x => gainInRange x.1.toInt) <|
    if !s.optics.staging then reply req s .state
    else
      let put (c : Corrections) :=
        { c with
          facets := facets.length
          gains := facets.map fun x => x.1.toInt
          delays := facets.map fun x => x.2.toInt }
      reply req { s with optics := s.optics.modStaged put } .ok

/-- OPTICS_PUT_SHADING (R56): one channel's map of 65 knots. -/
def execOpticsPutShading (chan : Byte) (knots : Vector Byte 65) (s : State) : Answer :=
  let req : Instr := .opticsPutShading chan knots
  match chanOf chan with
  | none => reply req s .range
  | some c =>
    withOptics req s true <|
      if !s.optics.staging then reply req s .state
      else
        let put (x : Corrections) := { x with shading := x.shading.set c (knots.map BitVec.toInt) }
        reply req { s with optics := s.optics.modStaged put } .ok

/-- Steps 1 to 3 of R58: the staged bank becomes the current bank with the next revision, and the bank that was current
keeps its contents. -/
def Optics.commit (o : Optics) (staged : Corrections) : Optics :=
  { o with
    current := o.current.flip
    cur := { staged with revision := some (nextRevision (o.cur.revision.getD 0)) }
    other := some o.cur
    staging := false }

/-- OPTICS_COMMIT (R57, R58): a change of F reaches the scan engine (R59) and is refused BUSY while a frame is in flight. -/
def execOpticsCommit (s : State) : Answer :=
  let req : Instr := .opticsCommit
  withOptics req s true <|
    match s.optics.staged with
    | none => reply req s .notReady
    | some staged =>
      let changes := staged.facets != s.optics.cur.facets
      if changes && s.inFlight then reply req s .busy
      else
        let o := s.optics.commit staged
        let s := { s with optics := o }
        let s := if changes then facetsChanged s else s
        reply req s .ok (u16 (o.cur.revision.getD 0) ++ bankByte o.current ++ u8 o.cur.facets)

/-- OPTICS_DISCARD (R60). -/
def execOpticsDiscard (s : State) : Answer :=
  let req : Instr := .opticsDiscard
  withOptics req s true <|
    if !s.optics.staging then reply req s .state else reply req { s with optics := s.optics.discard } .ok

/-- OPTICS_READ (R63). -/
def execOpticsRead (bank part : Byte) (s : State) : Answer :=
  let req : Instr := .opticsRead bank part
  let o := s.optics
  match stagedOf bank, opticsPartOf part with
  | some _, some .status =>
    reply req s .ok <|
      bankByte o.current ++ u16 (o.cur.revision.getD 0) ++ u8 o.cur.facets ++
      bankOrNone (if o.staging then some o.current.flip else none) ++ opt u8 (o.staged.map Corrections.facets) ++
      bankOrNone o.pinned ++ opt u16 (o.pinnedSet.bind Corrections.revision)
  | some staged, some what =>
    match if staged then o.staged else some o.cur with
    | none => reply req s .notReady
    | some c =>
      let rev := opt u16 (if staged then none else c.revision)
      match what with
      | .shading ch => reply req s .ok (rev ++ (c.shading.get ch).toList.flatMap i8)
      | _ => reply req s .ok (rev ++ u8 c.facets ++ c.gains.flatMap i8 ++ c.delays.flatMap i8)
  | _, _ => reply req s .range

end Sys2Proof.Machine
end

