-- ==== Sys2Proof/Machine/PixelPort.lean ====
section
/-! DEFINITION. The pixel port (Chapter 6): the words taken by the port, the line buffers, READY, and the port requests. -/

namespace Sys2Proof.Machine

open Sys2Proof

/-! ## Lines, words and pixels -/

/-- The data words of a source line (R102). -/
def lineWords (f : Format) (srcWidth : Nat) : Nat :=
  match f with
  | .l10 => srcWidth
  | .l12 => 9 * ((srcWidth + 7) / 8)

/-- The columns whose bits data word `n` of a line holds, the first and the last (R101, R102). -/
def wordColumns (f : Format) (n : Nat) : Nat × Nat :=
  match f with
  | .l10 => (n, n)
  | .l12 =>
    let g := n / 9
    let w := n % 9
    (8 * g + (w - 1), 8 * g + min w 7)

/-- The column whose last bits data word `n` of a line holds, if there is one (R101, R102): in L12 the first word of
a group completes no pixel. -/
def wordCompletes (f : Format) (n : Nat) : Option Nat :=
  match f with
  | .l10 => some n
  | .l12 => if n % 9 = 0 then none else some (8 * (n / 9) + (n % 9 - 1))

/-- The setup whose window the port stores: that of the frame whose lines it parses, none while the settled mark is set (R106). -/
def portWindow (s : State) : Option SetupConfig :=
  if s.port.settled then none else s.frameSetup.map Setup.config

/-- A source line is a window line (R73). -/
def SetupConfig.holdsLine (c : SetupConfig) (y : Nat) : Bool := c.y0 ≤ y && y ≤ c.y1

/-- A source column is a window column (R72). -/
def SetupConfig.holdsColumn (c : SetupConfig) (x : Nat) : Bool := c.x0 ≤ x && x ≤ c.x1

/-- Data word `n` of source line `y` carries window pixels (R102). -/
def carriesWindow (c : SetupConfig) (f : Format) (y n : Nat) : Bool :=
  let cols := wordColumns f n
  c.holdsLine y && cols.1 ≤ c.x1 && c.x0 ≤ cols.2

/-- The line buffer of a window line, by its parity within the window (R110). -/
def SetupConfig.bufferOf (c : SetupConfig) (y : Nat) : Nat := (y - c.y0) % 2

/-- The pixel that an L10 word holds, widened (Table 6-1, R111). -/
def pixelL10 (w : Word32) : Rgb Nat :=
  ⟨widen (w.extractLsb' 22 10).toNat, widen (w.extractLsb' 12 10).toNat, widen (w.extractLsb' 2 10).toNat⟩

/-- The pixel of an L12 group that its word `n` (1..8) completes, from the word before it and itself: the 36 bits that start
4(n - 1) bits below the top of the earlier word (Table 6-1). -/
def pixelL12 (prev w : Word32) (n : Nat) : Rgb Nat :=
  let bits : BitVec 64 := (prev ++ w : BitVec 64) >>> (28 - 4 * (n - 1))
  ⟨(bits.extractLsb' 24 12).toNat, (bits.extractLsb' 12 12).toNat, (bits.extractLsb' 0 12).toNat⟩

/-- The pixel that data word `n` of a line completes. -/
def pixelOf (f : Format) (prev w : Word32) (n : Nat) : Rgb Nat :=
  match f with
  | .l10 => pixelL10 w
  | .l12 => pixelL12 prev w (n % 9)

/-- A complete window pixel placed in a buffer (R111): the stored pixels stand in exposure order, which the columns meet in
ascending order with mirror off and in descending order with mirror on. -/
def LineBuffer.store (b : LineBuffer) (mirror : Bool) (px : Rgb Nat) : LineBuffer :=
  { b with pixels := if mirror then px :: b.pixels else b.pixels ++ [px] }

/-- The buffer after a data word that carries window pixels of line `y`: FILLING for that line, with the window pixel that the
word completes (R110, R111). -/
def fillBuffer (c : SetupConfig) (f : Format) (y n : Nat) (prev w : Word32) (b : LineBuffer) : LineBuffer :=
  let b := if b.state = .empty then { LineBuffer.cleared with state := .filling, line := y } else b
  match wordCompletes f n with
  | none => b
  | some x => if c.holdsColumn x then b.store c.mirror (pixelOf f prev w n) else b

/-! ## READY -/

/-- Condition 1 of R113: the next data word carries window pixels and the line's buffer is neither FILLING nor EMPTY. -/
def readyHeldByBuffer (s : State) : Bool :=
  match portWindow s with
  | none => false
  | some c =>
    let p := s.port
    let b := (p.buf (c.bufferOf p.expected)).state
    p.state == .inLine && carriesWindow c p.format p.expected p.wordCount && b != .filling && b != .empty

/-- Condition 2 of R113: a frame is in SEATING or READYING, the port is within its lines, both buffers are FULL. -/
def readyHeldBySeating (s : State) : Bool :=
  (s.frame.state == .seating || s.frame.state == .readying) &&
    (s.port.state == .betweenLines || s.port.state == .inLine) && s.port.bothFull

/-- The READY line (R113); condition 3 is a complete header waiting. -/
def State.ready (s : State) : Bool := !(readyHeldByBuffer s || readyHeldBySeating s || s.port.waiting.isSome)

/-- A word is an overrun where R107 counts one (log entry 5): it began while READY was deasserted. -/
def overruns (s : State) (start : WordStart) : Bool := start == .notReady || !s.ready

/-! ## Errors -/

/-- The FRAME_END of a framing error word is told to the frame cycle after the error (R107, R109). -/
def endTold (s : State) (isEnd : Bool) : State :=
  if isEnd then { s with frame := tellEnd s.frame } else s

/-- The frame cycle is told of a header's FORMAT failure (R107): taken at once where it is free, held otherwise. -/
def headerFailed (s : State) (isEnd : Bool) : State :=
  if s.free? && s.frame.failures.isEmpty then takeFailure s isEnd
  else { s with frame := { s.frame with failures := s.frame.failures ++ [isEnd] } }

/-- FRAMING_ERROR (R107): counted and raised; then the header fails, the frame in flight is spoiled with cause FORMAT, or a settled
frame stands; the port goes to the state chosen by the word, which may be the frame's FRAME_END. -/
def framingError (s : State) (next : PortState) (isEnd : Bool) : State :=
  let s := portError s
  match s.port.state with
  | .header => headerFailed { s with port := { s.port with state := next, words := [], waiting := none } } isEnd
  | _ =>
    let s := if s.port.settled then s else spoil s .format
    endTold { s with port := { s.port with state := next, words := [] } } isEnd

/-- STRAY_WORD (R104): counted, and PORT_ERROR is raised by the first of a run. -/
def strayWord (s : State) : State :=
  let first := !s.port.strayRun
  let s := { s with port := { s.port with strays := satAdd Config.max16 s.port.strays 1, strayRun := true } }
  if first then s.raise .portError else s

/-- The port goes to HEADER with no header word yet received. -/
def openHeader (s : State) : State := { s with port := { s.port with state := .header, words := [] } }

/-- The port is in a state in which R107 counts an overrun. -/
def PortState.counted : PortState → Bool
  | .header => true
  | .betweenLines => true
  | .inLine => true
  | _ => false

/-- A word taken by the port: one under way at a reset is discarded (R117); one that began while READY was deasserted is
an overrun in the states in which R107 counts one and sends the port to DRAIN; any other is handled by its kind. -/
def takeWord (s : State) (start : WordStart) (handle : State → State) : State :=
  if start = .beforeReset then s
  else if s.port.state.counted && overruns s start then framingError s .drain false
  else handle s

/-! ## The words -/

/-- FRAME_START by the port's state (R104, R107, R108). -/
def wordFrameStart (s : State) : State :=
  match s.port.state with
  | .waitFrame => openHeader { s with port := { s.port with strayRun := false } }
  | .drain => openHeader s
  | _ => framingError s .header false

/-- FRAME_START (R104, R107, R108). -/
def execFrameStart (start : WordStart) (s : State) : Answer := .next (takeWord s start wordFrameStart)

/-- LINE_START(n) by the port's state (R104, R106, R107, R108). -/
def wordLineStart (number : Word32) (s : State) : State :=
  let p := s.port
  match p.state with
  | .waitFrame => strayWord s
  | .drain => s
  | .betweenLines =>
    if number.toNat = p.expected ∧ p.received < p.srcHeight then
      { s with port := { p with state := .inLine, wordCount := 0 } }
    else framingError s .drain false
  | _ => framingError s .drain false

/-- LINE_START (R104, R106, R107, R108). -/
def execLineStart (start : WordStart) (number : Word32) (s : State) : Answer :=
  .next (takeWord s start (wordLineStart number))

/-- FRAME_END by the port's state (R93, R104, R106, R107, R108). -/
def wordFrameEnd (s : State) : State :=
  let p := s.port
  match p.state with
  | .waitFrame => strayWord s
  | .drain => { s with port := { p with state := .waitFrame }, frame := tellEnd s.frame }
  | .betweenLines =>
    if p.received = p.srcHeight then { s with port := { p with state := .waitFrame }, frame := tellEnd s.frame }
    else framingError s .waitFrame true
  | _ => framingError s .waitFrame true

/-- FRAME_END (R93, R104, R106, R107, R108). -/
def execFrameEnd (start : WordStart) (s : State) : Answer := .next (takeWord s start wordFrameEnd)

/-- A word with an undefined tag by the port's state (R104, R107, R108). -/
def wordUndefined (s : State) : State :=
  match s.port.state with
  | .waitFrame => strayWord s
  | .drain => s
  | _ => framingError s .drain false

/-- UNDEFINED_TAG_WORD (R104, R107, R108): the behaviour is the same for the tags 0xC..0xF. -/
def execUndefinedTagWord (start : WordStart) (_tagLow : BitVec 2) (s : State) : Answer :=
  .next (takeWord s start wordUndefined)

/-- The header that its three words give (Table 6-1). -/
def headerOf (w0 w1 w2 : Word32) : Header where
  slot := (w0.extractLsb' 24 8).toNat
  format := (w0.extractLsb' 16 8).toNat
  srcWidth := (w1.extractLsb' 16 16).toNat
  srcHeight := (w1.extractLsb' 0 16).toNat
  tag := w2
  low := (w0.extractLsb' 0 16).toNat

/-- A header word (R105): the third completes the header, which then waits. -/
def headerWord (p : Port) (w : Word32) : Port :=
  match p.words with
  | [w1, w0] => { p with words := [], waiting := some (headerOf w0 w1 w) }
  | words => { p with words := w :: words }

/-- The frame cycle is told that a buffer has become FULL: the line wait timer is set to 0 (R91, R110). -/
def bufferFull (s : State) : State := { s with frame := { s.frame with lineWait := 0 } }

/-- The port after a data word of a line (R106, R111): the word counted and its window pixel stored. -/
def storeWord (s : State) (w : Word32) : Port :=
  let p := s.port
  let stored :=
    match portWindow s with
    | none => p
    | some c =>
      if carriesWindow c p.format p.expected p.wordCount then
        let k := c.bufferOf p.expected
        p.setBuf k (fillBuffer c p.format p.expected p.wordCount p.prev w (p.buf k))
      else p
  { stored with wordCount := p.wordCount + 1, prev := w }

/-- BUFFER_FULL (R106, R110): the last data word of a line has been taken; the buffer of a window line becomes FULL. -/
def lineReceived (s : State) : State :=
  let p := s.port
  let y := p.expected
  let q := { p with state := .betweenLines, received := p.received + 1, expected := y + 1 }
  match portWindow s with
  | some c =>
    if c.holdsLine y then
      let k := c.bufferOf y
      bufferFull { s with port := q.setBuf k { q.buf k with state := .full } }
    else { s with port := q }
  | none => { s with port := q }

/-- A data word by the port's state (R104 to R108); the third header word delivers the header (R83, R105). -/
def wordData (w : Word32) (s : State) : State :=
  match s.port.state with
  | .waitFrame => strayWord s
  | .drain => s
  | .header => deliver { s with port := headerWord s.port w }
  | .betweenLines => framingError s .drain false
  | .inLine =>
    let s := { s with port := storeWord s w }
    if s.port.wordCount = lineWords s.port.format s.port.srcWidth then lineReceived s else s

/-- DATA_WORD (R104 to R108). -/
def execDataWord (start : WordStart) (payload : Word32) (s : State) : Answer :=
  .next (takeWord s start (wordData payload))

/-! ## Requests -/

/-- PORT_CONFIGURE (R116): the lane count and the line wait limit. DESIGN CHOICE: this answer is the reply after which the new lane count
applies (log entry 50). -/
def execPortConfigure (lanes : Byte) (lineWaitLimit : BitVec 16) (s : State) : Answer :=
  let req : Instr := .portConfigure lanes lineWaitLimit
  if !([1, 2, 4].contains lanes.toNat && lineWaitLimit != 0) then reply req s .range
  else if s.inFlight then reply req s .busy
  else reply req { s with port := { s.port with lanes := lanes.toNat, lineWaitLimit := lineWaitLimit.toNat } } .ok

/-- A buffer in PORT_STATUS: its state and, unless it is EMPTY, its line (R115). -/
def bufferBytes (b : LineBuffer) : List Byte := u8 b.state.code ++ optIf (b.state != .empty) (u16 b.line)

/-- PORT_STATUS (R115). That the READY level is coded asserted 0, deasserted 1 is log entry 22's. -/
def execPortStatus (s : State) : Answer :=
  let p := s.port
  let within := p.state == .betweenLines || p.state == .inLine
  reply .portStatus s .ok <|
    u8 p.state.code ++
    (match p.waiting with
      | none => mark false
      | some h => mark true ++ u8 h.slot ++ u8 h.format ++ u16 h.srcWidth ++ u16 h.srcHeight ++ be32 h.tag) ++
    mark p.settled ++ optIf within (u16 p.expected) ++ optIf within (u16 p.received) ++
    optIf (p.state == .inLine) (u16 p.wordCount) ++ bufferBytes p.buf0 ++ bufferBytes p.buf1 ++ mark s.ready ++
    u16 p.strays ++ u16 p.errors ++ u8 p.lanes ++ u16 p.lineWaitLimit

end Sys2Proof.Machine
end

