-- ==== Sys2Proof/Machine/Profiles.lean ====
section
/-! DEFINITION. The profile requests (Chapter 1) and PROFILE_EVALUATE (Chapter 2). -/

namespace Sys2Proof.Machine

open Sys2Proof

/-- Checks 1 to 3 of R7 for a request on an occupied record: RANGE for the fields, BUSY in an image operation, NOT_FOUND for an
ID that no record holds or that a RETIRING one holds; then the request's own rule. -/
def withProfile (req : Instr) (s : State) (id : BitVec 16) (fieldsInRange : Bool) (own : Profile → Answer) : Answer :=
  if !(idInRange id.toNat && fieldsInRange) then reply req s .range
  else if s.imageBusy then reply req s .busy
  else
    match s.liveProfile id.toNat with
    | none => reply req s .notFound
    | some p => own p

/-- A record in DRAFT with no active bank and both banks empty (R8). -/
def Profile.fresh (id : Nat) (label : List Byte) : Profile where
  id := id
  label := label
  state := .draft
  active := none
  staging := none
  bankA := none
  bankB := none
  frames := 0
  bound := 0
  pinned := none

/-- PROFILE_CREATE (R8). -/
def execProfileCreate (id : BitVec 16) (label : List Byte) (s : State) : Answer :=
  let req : Instr := .profileCreate id label
  if !(idInRange id.toNat && labelInRange label) then reply req s .range
  else if s.imageBusy then reply req s .busy
  else if (s.profile id.toNat).isSome then reply req s .duplicate
  else if Config.profileCapacity ≤ s.profiles.length then reply req s .tableFull
  else reply req { s with profiles := insertProfile (Profile.fresh id.toNat label) s.profiles } .ok

/-- The staged bank that an EMPTY staging starts with (R10). -/
def Calibration.empty : Calibration where
  revision := none
  curves := ⟨none, none, none⟩
  trims := ⟨0, 0, 0⟩
  darks := ⟨0, 0, 0⟩
  life := 0

/-- Staging opened in the staging bank with contents, the staged label starting as the record's label (R10). -/
def Profile.openStaging (p : Profile) (cal : Calibration) : Profile :=
  { p.setBank p.stagingBank (some cal) with staging := some ⟨p.stagingBank, p.label⟩ }

/-- PROFILE_STAGE (R9, R10): source ACTIVE_COPY or EMPTY. -/
def execProfileStage (id : BitVec 16) (source : Byte) (s : State) : Answer :=
  let req : Instr := .profileStage id source
  withProfile req s id (copyOf source).isSome fun p =>
    if p.staging.isSome then reply req s .state
    else if copyOf source = some true ∧ p.state = .draft then reply req s .notReady
    else if p.pinned = some p.stagingBank then reply req s .busy
    else
      let cal :=
        if copyOf source = some true then { (p.activeCal.getD .empty) with revision := none } else Calibration.empty
      reply req (s.modProfile p.id fun q => q.openStaging cal) .ok (bankByte p.stagingBank)

/-- The staged calibration of a record changed. -/
def Profile.modStaged (p : Profile) (f : Calibration → Calibration) : Profile :=
  match p.staging with
  | none => p
  | some g => p.setBank g.bank ((p.bank g.bank).map f)

/-- PROFILE_PUT_CURVE (R11): a knot whose code or exposure is above 4095 is out of range; a list that is not a valid curve (R4)
gives INVALID_CURVE. -/
def execProfilePutCurve (id : BitVec 16) (chan : Byte) (knots : List (BitVec 16 × BitVec 16)) (s : State) : Answer :=
  let req : Instr := .profilePutCurve id chan knots
  match chanOf chan with
  | none => reply req s .range
  | some c =>
    let curve := curveOf knots
    withProfile req s id (curve.all fun k => codeInRange k.code && codeInRange k.exposure) fun p =>
      if p.staging.isNone then reply req s .state
      else if !validCurve curve then reply req s .invalidCurve
      else
        let put (cal : Calibration) := { cal with curves := cal.curves.set c (some curve) }
        reply req (s.modProfile p.id fun q => q.modStaged put) .ok

/-- PROFILE_PUT_TERMS (R12): the trims, the dark codes, the life and the label together. -/
def execProfilePutTerms (id : BitVec 16) (trims darks : Rgb (BitVec 16)) (life : BitVec 16) (label : List Byte) (s : State) :
    Answer :=
  let req : Instr := .profilePutTerms id trims darks life label
  withProfile req s id
    (trims.all (fun t => trimInRange t.toInt) && darks.all (fun d => codeInRange d.toNat) && labelInRange label) fun p =>
    if p.staging.isNone then reply req s .state
    else
      let put (cal : Calibration) :=
        { cal with trims := trims.map BitVec.toInt, darks := darks.map BitVec.toNat, life := life.toNat }
      let relabel (q : Profile) := { q with staging := q.staging.map fun g => { g with label := label } }
      reply req (s.modProfile p.id fun q => relabel (q.modStaged put)) .ok

/-- The revision a commit gives (R15, step 1): 1 in DRAFT, otherwise the one after the active bank's. -/
def Profile.commitRevision (p : Profile) : Nat :=
  match p.activeCal with
  | none => 1
  | some cal => nextRevision (cal.revision.getD 0)

/-- The steps of R15 on the record. -/
def Profile.commit (p : Profile) : Profile :=
  match p.staging with
  | none => p
  | some g =>
    { p.setBank g.bank ((p.bank g.bank).map fun cal => { cal with revision := some p.commitRevision }) with
      active := some g.bank
      label := g.label
      frames := 0
      state := .active
      staging := none }

/-- PROFILE_COMMIT (R14, R15). -/
def execProfileCommit (id : BitVec 16) (s : State) : Answer :=
  let req : Instr := .profileCommit id
  withProfile req s id true fun p =>
    match p.staging with
    | none => reply req s .notReady
    | some g =>
      if !p.allMarks then reply req s .notReady
      else reply req (s.modProfile p.id Profile.commit) .ok (u16 p.commitRevision ++ bankByte g.bank)

/-- PROFILE_DISCARD (R13). -/
def execProfileDiscard (id : BitVec 16) (s : State) : Answer :=
  let req : Instr := .profileDiscard id
  withProfile req s id true fun p =>
    if p.staging.isNone then reply req s .state
    else reply req (s.modProfile p.id Profile.discard) .ok

/-- PROFILE_RETIRE (R20): the record becomes free, or RETIRING while it holds a pin; the body is log entry 23's. -/
def execProfileRetire (id : BitVec 16) (s : State) : Answer :=
  let req : Instr := .profileRetire id
  withProfile req s id true fun p =>
    if 0 < p.bound then reply req s .inUse
    else if p.pinned.isSome then
      reply req (s.modProfile p.id fun q => { q.discard with state := .retiring }) .ok (u8 ProfileState.retiring.code)
    else reply req { s with profiles := freeProfile s.profiles p.id } .ok (u8 freeCode)

/-- PROFILE_LIST (R25): the occupied records in ascending order of ID, each with its retiring mark. -/
def execProfileList (s : State) : Answer :=
  reply .profileList s .ok (u8 s.profiles.length ++ s.profiles.flatMap fun p => u16 p.id ++ mark (p.state == .retiring))

/-- PROFILE_QUERY (R26). -/
def execProfileQuery (id : BitVec 16) (s : State) : Answer :=
  let req : Instr := .profileQuery id
  if !idInRange id.toNat then reply req s .range
  else
    match s.profile id.toNat with
    | none => reply req s .notFound
    | some p =>
      let staging :=
        match p.staging with
        | none => bankOrNone none
        | some g => bankOrNone (some g.bank) ++ mark (p.curveMark .red) ++ mark (p.curveMark .grn) ++ mark (p.curveMark .blu)
      reply req s .ok <|
        u16 p.id ++ labelBytes p.label ++ u8 p.state.code ++ bankOrNone p.active ++
        opt u16 (p.activeCal.bind Calibration.revision) ++ opt u16 (p.activeCal.map Calibration.life) ++ u16 p.frames ++
        u8 p.bound ++ staging ++ bankOrNone p.pinned ++ opt u16 (p.pinnedCal.bind Calibration.revision)

/-- The calibration a bank selector reads: the staging bank for STAGED, the active bank for ACTIVE (R27, R47). -/
def Profile.selected (p : Profile) (staged : Bool) : Option Calibration := if staged then p.stagedCal else p.activeCal

/-- PROFILE_READ_CURVE (R27). -/
def execProfileReadCurve (id : BitVec 16) (bank chan first count : Byte) (s : State) : Answer :=
  let req : Instr := .profileReadCurve id bank chan first count
  match stagedOf bank, chanOf chan with
  | some staged, some c =>
    if !(idInRange id.toNat && first.toNat ≤ 32 && 1 ≤ count.toNat && count.toNat ≤ 33) then reply req s .range
    else
      match s.profile id.toNat with
      | none => reply req s .notFound
      | some p =>
        match (p.selected staged).bind fun cal => (cal.curves.get c).map fun k => (cal, k) with
        | none => reply req s .notReady
        | some (cal, k) =>
          let part := (k.drop first.toNat).take count.toNat
          reply req s .ok <|
            opt u16 (if staged then none else cal.revision) ++ u8 k.length ++ u8 part.length ++ knotBytes part
  | _, _ => reply req s .range

/-- PROFILE_EVALUATE (R46, R47, R48): the exposure arithmetic for one code of one channel, with the current optics bank and the
channel's drift correction as they stand. It changes nothing. -/
def execProfileEvaluate (id : BitVec 16) (bank chan : Byte) (code position : BitVec 16) (facet : Byte) (s : State) : Answer :=
  let req : Instr := .profileEvaluate id bank chan code position facet
  match stagedOf bank, chanOf chan with
  | some staged, some c =>
    if !(idInRange id.toNat && codeInRange code.toNat && position.toNat ≤ 8191 && facet.toNat < s.optics.cur.facets) then
      reply req s .range
    else
      match s.profile id.toNat with
      | none => reply req s .notFound
      | some p =>
        match (p.selected staged).filter fun cal => (cal.curves.get c).isSome with
        | none => reply req s .notReady
        | some cal =>
          let drift := (s.chan c).drift
          let gain := s.optics.cur.gains.getD facet.toNat 0
          let r := computeWith cal s.optics.cur c drift gain code.toNat position.toNat
          let lit := r.result != .dark
          reply req s .ok <|
            u8 r.result.code ++ optIf lit (u16 r.exposure) ++ optIf lit (i16 r.sum) ++ u8 r.tier ++ u16 r.level ++
            optIf lit (i16 drift) ++ optIf lit (i8 r.shading) ++ optIf lit (i8 gain) ++
            opt u16 (if staged then none else cal.revision) ++ u16 (s.optics.cur.revision.getD 0)
  | _, _ => reply req s .range

end Sys2Proof.Machine
end

