-- ==== Sys2Proof/Machine/Resets.lean ====
section
/-! DEFINITION. The two resets (section 0.4.9): POWER_ON_RESET and SOFT_RESET. -/

namespace Sys2Proof.Machine

open Sys2Proof

/-! ## Power-on reset -/

/-- The state at the end of a power-on reset, before any load (R28, R49, R64, R66, R99, R117, R132, R150, R162, R174, R184): the values of
State.reset, the input levels as they stand (R162), the flash's contents with any operation already issued carried out (R175, log entry
40), the commands that wait. -/
def powerOn (pins : ResetPins) (s : State) : State :=
  let r := State.reset
  { r with
    transport := { r.transport with seated := pins.seated, xportFault := pins.xportFault, safeOpen := pins.safeOpen }
    link := { r.link with straddles := pins.clCsLow }
    flash := { completeIssued s.flash s.image.save with answers := pins.flashAnswers }
    free := s.free
    pending := s.pending }

/-- POWER_ON_RESET (R174): when LOAD_AT_START is high, a load then begins as IMAGE_LOAD would (R184). -/
def execPowerOnReset (pins : ResetPins) (s : State) : Answer :=
  .next (if pins.loadAtStart then beginLoad (powerOn pins s) else powerOn pins s)

/-! ## Soft reset -/

/-- The profile table over a soft reset (R28): RETIRING records become free and staging is discarded. -/
def softProfiles (t : List Profile) : List Profile := (t.filter fun p => p.state != .retiring).map Profile.discard

/-- The optics set over a soft reset (R64). -/
def softOptics (o : Optics) : Optics := { o.discard with pinned := none }

/-- The frame cycle over a soft reset, after the spoil (R99, log entry 11). -/
def softFrame (f : FrameCycle) : FrameCycle := { f with state := .idle, endSeen := false, failures := [] }

/-- The port over a soft reset (R117): a word under way on the lanes runs on to its end and is then
discarded, and the lanes must be low before the next one begins (log entry 52). -/
def softPort (p : Port) : Port :=
  { p.flush with
    state := .waitFrame
    words := []
    waiting := none
    settled := false
    strayRun := false
    underWay := p.underWay.map fun w => { w with start := .beforeReset } }

/-- A channel over a soft reset (R150). -/
def softChannel (c : Channel) : Channel :=
  { c with
    state := .dark
    drift := 0
    lastRaw := none
    lastM := none
    stableRun := 0
    outRun := 0
    faultCause := none
    capture := false
    lastCapture := .none }

/-- The transport over a soft reset (R162): the advance is abandoned, the roll, the levels and a STEP group under way are kept. -/
def softTransport (t : Transport) : Transport := { t with advance := none, last := .none }

/-- The part over a soft reset, before the flags are cleared: the advance is abandoned, the frame in flight is spoiled with cause
RESET (R99), a monitor window in progress is abandoned with its notice (R128, R132), and each block takes the values its chapter states. -/
def softReset (s : State) : State :=
  let s := { s with transport := softTransport s.transport }
  let s := endWindow (spoil s .reset)
  let s := abandonImage s
  { s with
    profiles := softProfiles s.profiles
    optics := softOptics s.optics
    frame := softFrame s.frame
    port := softPort s.port
    engine := .afterReset s.engine.config s.engine.msCount
    line := none
    drives := ⟨.off, .off, .off⟩
    chans := s.chans.map softChannel
    idle := { s.idle with seconds := 0, millis := 0 }
    events := .allClear }

/-- SOFT_RESET (R173): one step; the events that it raises leave no flag. -/
def execSoftReset (s : State) : Answer := reply .softReset (softReset s) .ok

end Sys2Proof.Machine
end

