-- ==== Sys2Proof/Machine/Setups.lean ====
section
/-! DEFINITION. The setup requests (Chapter 4). -/

namespace Sys2Proof.Machine

open Sys2Proof

/-- SETUP_WRITE (R67): the configuration replaced, the counters 0 and the last report absent. -/
def execSetupWrite (slot : Byte) (fields : SetupFields) (s : State) : Answer :=
  let req : Instr := .setupWrite slot fields
  match slotOf slot, setupConfigOf fields with
  | some i, some c =>
    if (s.setup i).armed then reply req s .state
    else reply req (s.setSetup i { Setup.powerOn with config := c }) .ok
  | _, _ => reply req s .range

/-- SETUP_ARM (R69): the profile and the fit are checked and the profile's bound setups count rises by 1. -/
def execSetupArm (slot : Byte) (s : State) : Answer :=
  let req : Instr := .setupArm slot
  match slotOf slot with
  | none => reply req s .range
  | some i =>
    let x := s.setup i
    if x.armed then reply req s .state
    else
      match s.liveProfile x.config.profileId with
      | none => reply req s .notFound
      | some p =>
        if p.state = .draft then reply req s .notReady
        else if !fitsScan x.config s.engine.config.scanLead s.engine.config.scanSpan then reply req s .window
        else
          let s := s.setSetup i { x with armed := true }
          reply req (s.modProfile p.id fun q => { q with bound := q.bound + 1 }) .ok

/-- The frame in flight was accepted through a slot (R70). -/
def State.flightIn (s : State) (i : Fin 8) : Bool := s.inFlight && s.frame.slot == some i

/-- SETUP_DISARM (R70): the profile's bound setups count falls by 1. -/
def execSetupDisarm (slot : Byte) (s : State) : Answer :=
  let req : Instr := .setupDisarm slot
  match slotOf slot with
  | none => reply req s .range
  | some i =>
    let x := s.setup i
    if !x.armed then reply req s .state
    else if s.flightIn i then reply req s .busy
    else
      let s := s.setSetup i { x with armed := false }
      reply req (s.modProfile x.config.profileId fun q => { q with bound := q.bound - 1 }) .ok

/-- The bytes of a configuration in a reply, with the slot length after its two factors (R77, log entry 25). -/
def configBytes (c : SetupConfig) : List Byte :=
  u16 c.profileId ++ u8 c.format.code ++ u16 c.srcWidth ++ u16 c.srcHeight ++ u16 c.x0 ++ u16 c.x1 ++ u16 c.y0 ++ u16 c.y1 ++
  u8 c.mirror.toNat ++ u8 c.prescale ++ u8 c.scaler ++ u16 c.slotLength ++ u16 c.leftMargin ++ u16 c.topMargin ++
  u8 c.stepsPerLine ++ u8 c.stride ++ u8 c.stalePolicy.code

/-- The bytes of a report in a reply (Table 4-3, R77). -/
def reportBytes (r : Report) : List Byte :=
  be32 r.tag ++ u8 r.result.code ++ opt (fun c => u8 (Cause.code c)) r.cause ++ opt u16 r.profileId ++ opt u16 r.profileRev ++
  opt u16 r.opticsRev ++ u16 r.lines ++ u32 r.starved ++ u32 r.low ++ u32 r.high ++ mark r.stale

/-- The binding field of SETUP_QUERY: BOUND, NONE, DRAFT, RETIRING or READY (R77). -/
def bindingCode (s : State) (x : Setup) : Nat :=
  if x.armed then 0
  else
    match s.profile x.config.profileId with
    | none => 1
    | some p =>
      match p.state with
      | .draft => 2
      | .retiring => 3
      | _ => 4

/-- SETUP_QUERY (R77, R78). -/
def execSetupQuery (slot : Byte) (s : State) : Answer :=
  let req : Instr := .setupQuery slot
  match slotOf slot with
  | none => reply req s .range
  | some i =>
    let x := s.setup i
    reply req s .ok <|
      u8 x.armed.toNat ++ configBytes x.config ++ u32 x.exposed ++ u32 x.spoiled ++ u32 x.refused ++
      (match x.report with
        | none => mark false
        | some r => mark true ++ reportBytes r) ++ u8 (bindingCode s x)

end Sys2Proof.Machine
end

