-- ==== Sys2Proof/Machine/Transport.lean ====
section
/-! DEFINITION. The film transport and the interlock (Chapter 9): the roll requests and the changes of the three input lines. -/

namespace Sys2Proof.Machine

open Sys2Proof

/-! ## Roll requests -/

/-- ROLL_LOAD (R157). -/
def execRollLoad (tag : Word32) (capacity lowMark : BitVec 16) (s : State) : Answer :=
  let req : Instr := .rollLoad tag capacity lowMark
  if capacity = 0 ∨ capacity.toNat ≤ lowMark.toNat then reply req s .range
  else if s.transport.roll.isSome then reply req s .state
  else
    let roll : Roll := ⟨tag, capacity.toNat, capacity.toNat, lowMark.toNat, 0⟩
    reply req { s with transport := { s.transport with roll := some roll } } .ok

/-- ROLL_UNLOAD (R158): the reply carries the roll's figures as they stood. -/
def execRollUnload (s : State) : Answer :=
  let req : Instr := .rollUnload
  match s.transport.roll with
  | none => reply req s .state
  | some r =>
    if s.inFlight || s.transport.advance.isSome then reply req s .busy
    else
      reply req { s with transport := { s.transport with roll := none } } .ok
        (be32 r.tag ++ u16 r.capacity ++ u16 r.remaining ++ u16 r.pulls)

/-- A roll advance of `n` pulls starts (R159): its first pull is issued at once, or waits for the STEP group that is pending or
under way. -/
def startAdvance (s : State) (n : Nat) : State :=
  let waiting := { s with transport := { s.transport with advance := some ⟨n, .waitingGroup, s.frame.startTimeout⟩ } }
  if s.groupBusy then waiting else advancePull waiting

/-- ROLL_ADVANCE (R158, R159). -/
def execRollAdvance (frames : BitVec 16) (s : State) : Answer :=
  let req : Instr := .rollAdvance frames
  if frames = 0 then reply req s .range
  else
    match s.transport.roll with
    | none => reply req s .state
    | some r =>
      if s.transport.xportFault then reply req s .state
      else if s.inFlight || s.transport.advance.isSome then reply req s .busy
      else if r.remaining < frames.toNat then reply req s .roll
      else reply req (startAdvance s frames.toNat) .ok

/-- The advance in ROLL_QUERY (R161): a byte for none 0 or in progress 1, the optional pulls still to issue, the advance pull (none,
WAITING_GROUP, SEATING) and, in SEATING, the optional pull timer. That form is log entry 26's. -/
def advanceBytes (pullTimer : Nat) : Option Advance → List Byte
  | none => u8 0 ++ mark false ++ u8 0 ++ mark false
  | some a =>
    u8 1 ++ optIf true (u16 a.toIssue) ++ u8 (match a.pull with | .waitingGroup => 1 | .seating => 2) ++
      optIf (a.pull == .seating) (u16 pullTimer)

/-- ROLL_QUERY (R161); the levels are asserted first, and closed before open (log entry 22). -/
def execRollQuery (s : State) : Answer :=
  let t := s.transport
  let r (f : Roll → List Byte) := opt f t.roll
  reply .rollQuery s .ok <|
    u8 t.roll.isSome.toNat ++ r (fun x => be32 x.tag) ++ r (fun x => u16 x.capacity) ++ r (fun x => u16 x.remaining) ++
    r (fun x => u16 x.lowMark) ++ r (fun x => u16 x.pulls) ++ advanceBytes t.pullTimer t.advance ++ u8 t.last.code ++ mark t.group.isSome ++
    mark t.seated ++ mark t.xportFault ++ mark (!t.safeOpen)

/-! ## The input lines -/

/-- The latest pull of a roll advance has seated (R160). -/
def advanceSeated (s : State) : State :=
  match s.transport.advance with
  | some ⟨n, .seating, _⟩ => if n = 0 then endAdvance s .done else advancePull s
  | _ => s

/-- SEATED_RISE (R86, R154, R160): a SEATING frame moves to READYING and tests its readiness. -/
def execSeatedRise (s : State) : Answer :=
  .next <|
    let s := { s with transport := { s.transport with seated := true } }
    if s.frame.state = .seating then testReady { s with frame := { s.frame with state := .readying } } else advanceSeated s

/-- SEATED_FALL (R94, R154). -/
def execSeatedFall (s : State) : Answer :=
  .next <|
    let s := { s with transport := { s.transport with seated := false } }
    if s.frame.state = .readying ∨ s.frame.state = .exposing then spoil s .gate else s

/-- XPORT_FAULT_ASSERTED (R94, R155, R160). -/
def execXportFaultAsserted (s : State) : Answer :=
  .next <|
    let s := { s with transport := { s.transport with xportFault := true } }.raise .xportFault
    let s := if s.transport.advance.isSome then endAdvance s .fault else s
    spoil s .xport

/-- XPORT_FAULT_DEASSERTED (R155). -/
def execXportFaultDeasserted (s : State) : Answer :=
  .next { s with transport := { s.transport with xportFault := false } }

/-- A channel in WARMING, READY or BIASED goes to DARK as SAFE opens (R148). -/
def darkenIfLit (s : State) (c : Chan) : State := if (s.chan c).state.lit then darken s c else s

/-- SAFE_OPEN (R94, R148, R156): the frame in flight is spoiled with cause INTERLOCK, and the channels' entry to DARK gives no
cause of its own. -/
def execSafeOpen (s : State) : Answer :=
  .next <|
    let s := { s with transport := { s.transport with safeOpen := true } }.raise .interlockOpen
    let s := spoil s .interlock
    (darkenIfLit (darkenIfLit (darkenIfLit s .red) .grn) .blu).drivesOff

/-- SAFE_CLOSE (R156). -/
def execSafeClose (s : State) : Answer :=
  .next ({ s with transport := { s.transport with safeOpen := false } }.raise .interlockClosed)

end Sys2Proof.Machine
end

