-- ==== Sys2Proof/Machine/Dispatch.lean ====
section
/-! DEFINITION. The dispatch: one arm per command of the table, each one direct call of its meaning. -/

namespace Sys2Proof.Machine

open Sys2Proof

/-- The effect of a command on everything but the queue, by the rules of the spec. -/
def exec (i : Instr) (s : State) : Host.Outcome State Fault Refusal :=
  match i with
  | .powerOnReset pins => Sys2Proof.Machine.execPowerOnReset pins s
  | .requestTransaction bytes => Sys2Proof.Machine.execRequestTransaction bytes s
  | .readTransaction read => Sys2Proof.Machine.execReadTransaction read s
  | .identify => Sys2Proof.Machine.execIdentify s
  | .softReset => Sys2Proof.Machine.execSoftReset s
  | .eventsRead => Sys2Proof.Machine.execEventsRead s
  | .eventsClear mask => Sys2Proof.Machine.execEventsClear mask s
  | .eventsEnable mask => Sys2Proof.Machine.execEventsEnable mask s
  | .profileCreate id label => Sys2Proof.Machine.execProfileCreate id label s
  | .profileStage id source => Sys2Proof.Machine.execProfileStage id source s
  | .profilePutCurve id chan knots => Sys2Proof.Machine.execProfilePutCurve id chan knots s
  | .profilePutTerms id trims darks life label => Sys2Proof.Machine.execProfilePutTerms id trims darks life label s
  | .profileCommit id => Sys2Proof.Machine.execProfileCommit id s
  | .profileDiscard id => Sys2Proof.Machine.execProfileDiscard id s
  | .profileRetire id => Sys2Proof.Machine.execProfileRetire id s
  | .profileList => Sys2Proof.Machine.execProfileList s
  | .profileQuery id => Sys2Proof.Machine.execProfileQuery id s
  | .profileReadCurve id bank chan first count => Sys2Proof.Machine.execProfileReadCurve id bank chan first count s
  | .profileEvaluate id bank chan code position facet => Sys2Proof.Machine.execProfileEvaluate id bank chan code position facet s
  | .opticsStage source => Sys2Proof.Machine.execOpticsStage source s
  | .opticsPutFacets facets => Sys2Proof.Machine.execOpticsPutFacets facets s
  | .opticsPutShading chan knots => Sys2Proof.Machine.execOpticsPutShading chan knots s
  | .opticsCommit => Sys2Proof.Machine.execOpticsCommit s
  | .opticsDiscard => Sys2Proof.Machine.execOpticsDiscard s
  | .opticsRead bank part => Sys2Proof.Machine.execOpticsRead bank part s
  | .setupWrite slot fields => Sys2Proof.Machine.execSetupWrite slot fields s
  | .setupArm slot => Sys2Proof.Machine.execSetupArm slot s
  | .setupDisarm slot => Sys2Proof.Machine.execSetupDisarm slot s
  | .setupQuery slot => Sys2Proof.Machine.execSetupQuery slot s
  | .frameCancel => Sys2Proof.Machine.execFrameCancel s
  | .frameStatus => Sys2Proof.Machine.execFrameStatus s
  | .frameConfigure startTimeout => Sys2Proof.Machine.execFrameConfigure startTimeout s
  | .portConfigure lanes lineWaitLimit => Sys2Proof.Machine.execPortConfigure lanes lineWaitLimit s
  | .portStatus => Sys2Proof.Machine.execPortStatus s
  | .engineConfigure fields => Sys2Proof.Machine.execEngineConfigure fields s
  | .engineQuery => Sys2Proof.Machine.execEngineQuery s
  | .channelOn chan => Sys2Proof.Machine.execChannelOn chan s
  | .channelBias chan => Sys2Proof.Machine.execChannelBias chan s
  | .channelOff chan => Sys2Proof.Machine.execChannelOff chan s
  | .channelClear chan => Sys2Proof.Machine.execChannelClear chan s
  | .channelConfigure chan fields idleBiasDelay => Sys2Proof.Machine.execChannelConfigure chan fields idleBiasDelay s
  | .channelSetReference chan value => Sys2Proof.Machine.execChannelSetReference chan value s
  | .channelCaptureReference chan => Sys2Proof.Machine.execChannelCaptureReference chan s
  | .channelQuery chan => Sys2Proof.Machine.execChannelQuery chan s
  | .rollLoad tag capacity lowMark => Sys2Proof.Machine.execRollLoad tag capacity lowMark s
  | .rollUnload => Sys2Proof.Machine.execRollUnload s
  | .rollAdvance frames => Sys2Proof.Machine.execRollAdvance frames s
  | .rollQuery => Sys2Proof.Machine.execRollQuery s
  | .imageSave => Sys2Proof.Machine.execImageSave s
  | .imageLoad => Sys2Proof.Machine.execImageLoad s
  | .imageStatus => Sys2Proof.Machine.execImageStatus s
  | .frameStart start => Sys2Proof.Machine.execFrameStart start s
  | .lineStart start number => Sys2Proof.Machine.execLineStart start number s
  | .dataWord start payload => Sys2Proof.Machine.execDataWord start payload s
  | .frameEnd start => Sys2Proof.Machine.execFrameEnd start s
  | .undefinedTagWord start tagLow => Sys2Proof.Machine.execUndefinedTagWord start tagLow s
  | .headerTaken => Sys2Proof.Machine.execHeaderTaken s
  | .headerFailureTaken => Sys2Proof.Machine.execHeaderFailureTaken s
  | .seatedRise => Sys2Proof.Machine.execSeatedRise s
  | .seatedFall => Sys2Proof.Machine.execSeatedFall s
  | .xportFaultAsserted => Sys2Proof.Machine.execXportFaultAsserted s
  | .xportFaultDeasserted => Sys2Proof.Machine.execXportFaultDeasserted s
  | .safeOpen => Sys2Proof.Machine.execSafeOpen s
  | .safeClose => Sys2Proof.Machine.execSafeClose s
  | .facet periods => Sys2Proof.Machine.execFacet periods s
  | .index => Sys2Proof.Machine.execIndex s
  | .lineComplete => Sys2Proof.Machine.execLineComplete s
  | .monitorWindowOpen => Sys2Proof.Machine.execMonitorWindowOpen s
  | .monitorReading chan reading => Sys2Proof.Machine.execMonitorReading chan reading s
  | .stepGroupEnd => Sys2Proof.Machine.execStepGroupEnd s
  | .millisecondTick => Sys2Proof.Machine.execMillisecondTick s
  | .startTimeout => Sys2Proof.Machine.execStartTimeout s
  | .lineWaitLimitPassed => Sys2Proof.Machine.execLineWaitLimitPassed s
  | .stall => Sys2Proof.Machine.execStall s
  | .warmTimeout chan => Sys2Proof.Machine.execWarmTimeout chan s
  | .autoBias => Sys2Proof.Machine.execAutoBias s
  | .advancePullTimeout => Sys2Proof.Machine.execAdvancePullTimeout s
  | .flashOperationDone => Sys2Proof.Machine.execFlashOperationDone s
  | .imageOperationTimeout => Sys2Proof.Machine.execImageOperationTimeout s
  | .imageRecordRead => Sys2Proof.Machine.execImageRecordRead s
  | .requestAnswered => Sys2Proof.Machine.execRequestAnswered s

end Sys2Proof.Machine
end

