-- ==== Sys2Proof/Machine/Lanes.lean ====
section
/-! DEFINITION. The word stream below the word commands (R100, R116, R117, Table 6-1): 36 bits on 1, 2 or 4 lanes, a tag and a
payload, the command that a whole word is, and what a PX_CLK period does. -/

namespace Sys2Proof.Machine

open Sys2Proof

/-- The PX_CLK periods of a word: 36, 18 or 9 (R100). -/
def wordPeriods (lanes : Nat) : Nat := 36 / lanes

/-- The command of a whole word by its tag (R100); a word without the leading 1 is no word. -/
def commandOfWord (start : WordStart) (w : BitVec 36) : Option Instr :=
  let payload := w.extractLsb' 0 32
  let tag := w.extractLsb' 32 4
  if tag = 8 then some (.dataWord start payload)
  else if tag = 9 then some (.frameStart start)
  else if tag = 10 then some (.lineStart start payload)
  else if tag = 11 then some (.frameEnd start)
  else if tag.extractLsb' 2 2 = 3 then some (.undefinedTagWord start (tag.extractLsb' 0 2))
  else none

/-- The word of a command; a payload that the port does not read is 0 (R100). -/
def wordOfCommand : Instr → Option (BitVec 36)
  | .dataWord _ payload => some (8#4 ++ payload)
  | .frameStart _ => some (9#4 ++ 0#32)
  | .lineStart _ number => some (10#4 ++ number)
  | .frameEnd _ => some (11#4 ++ 0#32)
  | .undefinedTagWord _ tagLow => some (3#2 ++ tagLow ++ 0#32)
  | _ => none

/-- The bits that one PX_CLK period brings, the earliest first, which is PX_LANE0's (R100). -/
def periodBits (lanes : Nat) (period : BitVec 4) : List Bool := (List.range lanes).map fun k => period.getLsbD k

/-- The word that 36 bits give, the most significant tag bit first (R100). -/
def wordOfBits (bits : List Bool) : BitVec 36 := bits.foldl (fun x bit => x <<< 1 ||| BitVec.ofNat 36 bit.toNat) 0

/-- Every lane in use is low in this period (R100). -/
def lanesLow (lanes : Nat) (period : BitVec 4) : Bool := (periodBits lanes period).all fun bit => !bit

/-- The next bits of the word under way are taken; a word whose 36 bits have been taken is the next command that waits (R100). After
one that began before a soft reset, and so is discarded, the port waits for the lanes to be low (R117). -/
def takeBits (s : State) (w : WordUnderWay) (period : BitVec 4) : State :=
  let bits := w.bits ++ periodBits w.lanes period
  if bits.length < 36 then { s with port := { s.port with underWay := some { w with bits := bits } } }
  else
    { s with
      port := { s.port with underWay := none, awaitLow := w.start == .beforeReset }
      pending := s.pending ++ (commandOfWord w.start (wordOfBits bits)).toList }

/-- One PX_CLK period with the levels of the four lanes (R100, R113, R116). Between words a period with PX_LANE0 low changes nothing, and
the first on which it is high begins a word, at the lane count in force, with READY as it then stands; a word under way goes on at the
count it began with. After a word that a soft reset discarded no word begins until every lane in use has been low for a period (R117, log
entry 52). -/
def State.pxPeriod (s : State) (period : BitVec 4) : State :=
  match s.port.underWay with
  | some w => takeBits s w period
  | none =>
    if s.port.awaitLow then
      if lanesLow s.port.lanes period then { s with port := { s.port with awaitLow := false } } else s
    else if period.getLsbD 0 then takeBits s ⟨if s.ready then .ready else .notReady, s.port.lanes, []⟩ period else s

end Sys2Proof.Machine
end

