-- ==== Sys2Proof/Machine/Step.lean ====
section
/-! DEFINITION. The step: the command at the front of the queue; where no command waits, the link passes the request in process on, or
one REFCLK period passes. -/

namespace Sys2Proof.Machine

open Sys2Proof

/-- What the link does with the request in process (R166): it is passed to its owning block, which carries it out and answers; its
answer then becomes the held reply. None without a request in process. -/
def State.linkCommand (s : State) : Option Instr :=
  match s.link.processing, s.link.answer with
  | false, _ => none
  | true, none => s.link.request
  | true, some _ => some .requestAnswered

/-- One step. The command at the front of the queue runs on the state with the queue's rest. Where no command waits, the request in process
goes on its way (log entry 3), and without one a REFCLK period passes (log entry 1). -/
def step (s : State) : Host.Outcome State Fault Refusal :=
  match s.pending with
  | c :: rest => exec c { s with pending := rest }
  | [] =>
    match s.linkCommand with
    | some c => exec c s
    | none => .next (refclk s)

/-- The state with the command that a table word spells put at the front of the queue; unchanged where the word spells none. -/
def State.withFetchWord (s : State) (nbits w : Nat) : State :=
  match decodeTableWord nbits w with
  | none => s
  | some c => { s with pending := c :: s.pending }

end Sys2Proof.Machine
end

