-- ==== Sys2Proof/Safety.lean ====
section
/-! DEFINITION. What holds in every state the part can come to: the properties that every step keeps and that the state after
reset has, in the terms of the claims. -/

namespace Sys2Proof.Machine

open Sys2Proof

/-- The image region's cells are in canonical form (R175). -/
def FlashCanonical (s : State) : Prop := s.flash.wf = true

/-- While SAFE is open no channel is WARMING, READY or BIASED (R148). -/
def DarkWhileOpen (s : State) : Prop := s.transport.safeOpen = true → ∀ c, (s.chan c).state.lit = false

/-- A channel whose modulator is driven is WARMING or READY, and SAFE is closed (R126, R133). -/
def DrivesGuarded (s : State) : Prop :=
  ∀ c, s.drives.get c ≠ .off → (s.chan c).state.warm = true ∧ s.transport.safeOpen = false

/-- A frame is EXPOSING only while all three channels are READY and the engine is LOCKED (R87, R94). -/
def ExposingReady (s : State) : Prop :=
  s.frame.state = .exposing → (∀ c, (s.chan c).state = .ready) ∧ s.engine.state = .locked

/-- The laser safety of the part: dark while SAFE is open, guarded drives, and exposure only when ready. -/
structure LaserSafe (s : State) : Prop where
  dark : DarkWhileOpen s
  guarded : DrivesGuarded s
  exposing : ExposingReady s

/-- Every channel's D is within plus and minus its drift limit (R133). -/
def DriftBounded (s : State) : Prop := ∀ c, (s.chan c).drift.natAbs ≤ (s.chan c).config.driftLimit

/-- The roll's accounting (section 9.1): remaining and pulls issued make the capacity, the low mark is below it, and an advance in
progress has film for every pull it still has to issue. -/
structure RollCounted (t : Transport) : Prop where
  roll : ∀ r, t.roll = some r → r.remaining + r.pulls = r.capacity ∧ r.lowMark < r.capacity
  advance : ∀ a, t.advance = some a → ∃ r, t.roll = some r ∧ a.toIssue ≤ r.remaining ∧ (a.pull = .waitingGroup → 1 ≤ a.toIssue)

/-- A monitor window exists only while the engine is LOCKED, and an open one waits for at least one channel, each WARMING or READY,
each once and in the order R, G, B (R127, R128). -/
structure WindowSound (s : State) : Prop where
  locked : s.engine.window ≠ .none → s.engine.state = .locked
  reads : ∀ k line toRead, s.engine.window = .opened k line toRead →
    toRead ≠ [] ∧ toRead.Sublist [.red, .grn, .blu] ∧ ∀ c ∈ toRead, (s.chan c).state.warm = true

/-- IDs strictly ascending. -/
def idsAscend (t : List Profile) : Prop := t.Pairwise fun p q => p.id < q.id

/-- The number of ARMED setups that name a profile (R22). -/
def armedNaming (setups : Vector Setup 8) (id : Nat) : Nat :=
  setups.toList.countP fun x => x.armed && x.config.profileId == id

/-- A profile as a load set holds it: unbound, unpinned, ACTIVE or STALE (R182). -/
def Profile.loadable (p : Profile) : Prop :=
  p.bound = 0 ∧ p.pinned = none ∧ (p.state = .active ∨ p.state = .stale) ∧ idInRange p.id = true

/-- The profile table (R1, R22): at most 24 records, each ID in range and held once; each bound count is the number of ARMED setups
that name the profile, and each ARMED setup names an ACTIVE or STALE profile. -/
structure TableSound (s : State) : Prop where
  ascend : idsAscend s.profiles
  ids : ∀ p ∈ s.profiles, idInRange p.id = true
  capacity : s.profiles.length ≤ Config.profileCapacity
  bound : ∀ p ∈ s.profiles, p.bound = armedNaming s.setups p.id
  armed : ∀ i, (s.setup i).armed = true → ∃ p ∈ s.profiles, p.id = (s.setup i).config.profileId ∧ (p.state = .active ∨ p.state = .stale)

/-- The image record (R176, R181): a save is held only in SAVING and a load only in LOADING; while a load is held no frame is in flight,
the table is empty, and its load set holds at most 24 loadable profiles of different IDs. -/
structure ImageSound (s : State) : Prop where
  save : s.image.save.isSome = true → s.image.state = .saving
  load : ∀ l, s.image.load = some l →
    s.image.state = .loading ∧ s.inFlight = false ∧ s.profiles = [] ∧ (l.set.profiles.map Profile.id).Nodup ∧ (∀ p ∈ l.set.profiles, p.loadable) ∧
      l.left + l.set.profiles.length ≤ Config.profileCapacity ∧ (l.step = .profile → 1 ≤ l.left)

/-- The pins (R16, R18, R61, R80): without a frame in flight no bank is pinned, and in flight the frame record is filled and a pinned
profile is the frame's. -/
structure PinsSound (s : State) : Prop where
  idle : s.inFlight = false → s.optics.pinned = none ∧ ∀ p ∈ s.profiles, p.pinned = none
  flight : s.inFlight = true → s.frame.slot.isSome = true ∧ s.frame.tag.isSome = true ∧
    ∃ l, s.frame.latched = some l ∧ ∀ p ∈ s.profiles, p.pinned ≠ none → p.id = l.profileId

/-- The profile table, the setups, the image memory and the pins together. -/
structure RecordsSound (s : State) : Prop where
  table : TableSound s
  image : ImageSound s
  pins : PinsSound s

/-- A calibration that frames can use: a revision in 1..65535 and three curves, each valid (R3, R4). -/
def Calibration.complete (c : Calibration) : Prop :=
  (∃ r, c.revision = some r ∧ 1 ≤ r ∧ r ≤ 65535) ∧ ∀ ch, ∃ k, c.curves.get ch = some k ∧ validCurve k = true

/-- An occupied record (R3 to R6, R17, R24): no active bank in DRAFT alone; the active and the pinned bank hold a complete calibration;
staging is open in the staging bank alone, which is not pinned, with no revision and only valid curves; ACTIVE and STALE by the life. -/
structure ProfileSound (p : Profile) : Prop where
  draft : p.state = .draft ↔ p.active = none
  active : ∀ x, p.active = some x → ∃ c, p.bank x = some c ∧ c.complete
  pinned : ∀ x, p.pinned = some x → p.active ≠ none ∧ ∃ c, p.bank x = some c ∧ c.complete
  staging : ∀ g, p.staging = some g → p.state ≠ .retiring ∧ g.bank = p.stagingBank ∧ p.pinned ≠ some g.bank ∧
    ∃ c, p.bank g.bank = some c ∧ c.revision = none ∧ ∀ ch k, c.curves.get ch = some k → validCurve k = true
  frames : p.frames ≤ Config.max16
  aged : ∀ c, p.activeCal = some c → p.state = .active ∨ p.state = .stale → (p.state = .stale ↔ c.life ≠ 0 ∧ c.life ≤ p.frames)

/-- Every occupied record, and every record of a load set, is sound. -/
def ProfilesSound (s : State) : Prop :=
  (∀ p ∈ s.profiles, ProfileSound p) ∧ ∀ l, s.image.load = some l → ∀ p ∈ l.set.profiles, ProfileSound p

/-- A set of corrections (R51): F in 6..12, one gain and one delay for each facet, every figure in its range of Table 3-1. -/
structure CorrectionsSound (c : Corrections) : Prop where
  facets : 6 ≤ c.facets ∧ c.facets ≤ 12
  lengths : c.gains.length = c.facets ∧ c.delays.length = c.facets
  gains : ∀ g ∈ c.gains, -64 ≤ g ∧ g ≤ 63
  delays : ∀ d ∈ c.delays, -128 ≤ d ∧ d ≤ 127
  shading : ∀ ch, ∀ x ∈ (c.shading.get ch).toList, -128 ≤ x ∧ x ≤ 127

/-- The optics set (R50, R51, R61, R62): every set held is sound; staging is open in a bank that is not pinned; in flight the bank
pinned holds a set whose F is the current F. -/
structure OpticsSound (s : State) : Prop where
  current : CorrectionsSound s.optics.cur
  other : ∀ c, s.optics.other = some c → CorrectionsSound c
  loading : ∀ l c, s.image.load = some l → l.set.optics = some c → CorrectionsSound c
  staging : s.optics.staging = true → s.optics.other.isSome = true ∧ s.optics.pinned ≠ some s.optics.current.flip
  flight : s.inFlight = true → ∃ c, s.optics.pinnedSet = some c ∧ c.facets = s.optics.cur.facets

/-- STEP groups and pulls (R81, R85, R152, R153, R159): a pending group waits for its line's window with no group under way; a line
is exposed only in EXPOSING with no group; a frame that is SEATING or READYING has none; no advance runs beside a frame in flight,
and one beside a group waits for it. -/
structure StepSound (s : State) : Prop where
  pending : s.frame.pendingGroup.isSome = true →
    s.engine.window.carriesLine = true ∧ s.transport.group = none ∧ s.line = none
  line : s.line.isSome = true → s.frame.state = .exposing ∧ s.groupBusy = false
  seating : s.frame.state = .seating ∨ s.frame.state = .readying → s.groupBusy = false
  alone : s.inFlight = true → s.transport.advance = none ∧ s.transport.roll.isSome = true
  waits : ∀ a, s.transport.advance = some a → (a.pull = .waitingGroup ↔ s.groupBusy = true)

/-- A STEP group that waits or is under way has pulses to issue (R67, R85, R153). -/
structure GroupsPositive (s : State) : Prop where
  pending : ∀ n, s.frame.pendingGroup = some n → 1 ≤ n
  group : ∀ g, s.transport.group = some g → 1 ≤ g.pulses

/-- A line buffer is EXPOSING only for the line being exposed, so at most one is (R110). -/
def BuffersSound (s : State) : Prop :=
  ∀ n, (s.port.buf n).state = .exposing → ∃ x, s.line = some x ∧ x.buffer % 2 = n % 2

/-- Every F of the optics set and of a load set is at least 1. -/
structure FacetsPositive (s : State) : Prop where
  current : 1 ≤ s.optics.cur.facets
  other : ∀ c, s.optics.other = some c → 1 ≤ c.facets
  loading : ∀ l c, s.image.load = some l → l.set.optics = some c → 1 ≤ c.facets

/-- The engine's numbering (R118, R121, R122): in a GOOD revolution the latest facet's number is one below the count, and while the
engine is LOCKED the count is at most F and the facet counter is below F. -/
structure NumberingSound (s : State) : Prop where
  facets : FacetsPositive s
  good : ∀ m, s.engine.mark = .good → s.engine.revCount = some m → 1 ≤ m → s.engine.facet = some (m - 1)
  locked : s.engine.state = .locked → ∃ m k, s.engine.revCount = some m ∧ m ≤ s.optics.cur.facets ∧ s.engine.facet = some k ∧
    k < s.optics.cur.facets

/-- The link record (R166): PROCESSING with a request and no held reply, or IDLE with no request, no answer to one and a held reply. -/
def LinkSound (l : Link) : Prop :=
  (l.processing = true ∧ l.request.isSome = true ∧ l.held = none) ∨
    (l.processing = false ∧ l.request = none ∧ l.answer = none ∧ l.held.isSome = true)

/-- Every part of the invariant of the machine. -/
structure Sound (s : State) : Prop where
  flash : FlashCanonical s
  laser : LaserSafe s
  drift : DriftBounded s
  roll : RollCounted s.transport
  window : WindowSound s
  records : RecordsSound s
  profiles : ProfilesSound s
  optics : OpticsSound s
  steps : StepSound s
  buffers : BuffersSound s
  numbering : NumberingSound s
  link : LinkSound s.link

/-- The counts that saturate, the runs and the idle timer stay within their stated ranges (section 0.4.5, Tables 4-3, 5-1, 7-1 and 8-1). -/
structure CountsBounded (s : State) : Prop where
  strays : s.port.strays ≤ Config.max16
  errors : s.port.errors ≤ Config.max16
  setups : ∀ i, (s.setup i).exposed ≤ Config.max32 ∧ (s.setup i).spoiled ≤ Config.max32 ∧ (s.setup i).refused ≤ Config.max32
  period : s.engine.periodCount ≤ Config.maxPeriod ∧ s.engine.lastPeriod ≤ Config.maxPeriod
  phase : s.engine.samplePhase < 128
  good : s.engine.good ≤ 2
  revolution : ∀ m, s.engine.revCount = some m → m ≤ 255
  frame : ∀ l, s.frame.latched = some l →
    l.lines ≤ Config.maxLines ∧ l.starved ≤ Config.max32 ∧ l.low ≤ Config.max32 ∧ l.high ≤ Config.max32
  stride : s.frame.stride ≤ 4
  runs : ∀ c, (s.chan c).stableRun ≤ 64 ∧ (s.chan c).outRun ≤ 4
  idle : s.idle.seconds ≤ Config.max16 ∧ s.idle.millis ≤ 999

/-! ## The settings -/

/-- A configuration that SETUP_WRITE can write (Table 4-1, R67). -/
def SetupConfig.inRange (c : SetupConfig) : Prop :=
  1 ≤ c.profileId ∧ c.profileId ≤ 65534 ∧ 1 ≤ c.srcWidth ∧ c.srcWidth ≤ 8192 ∧ 1 ≤ c.srcHeight ∧ c.srcHeight ≤ 8192 ∧
  c.x0 ≤ c.x1 ∧ c.x1 < c.srcWidth ∧ c.y0 ≤ c.y1 ∧ c.y1 < c.srcHeight ∧ c.prescale ∈ [1, 2, 4, 8] ∧ 1 ≤ c.scaler ∧ c.scaler ≤ 32 ∧
  c.leftMargin ≤ 8191 ∧ c.topMargin ≤ 1023 ∧ 1 ≤ c.stepsPerLine ∧ c.stepsPerLine ≤ 16 ∧ 1 ≤ c.stride ∧ c.stride ≤ 4 ∧
  c.leftMargin + (c.x1 - c.x0 + 1) ≤ 8192

/-- An engine configuration that ENGINE_CONFIGURE can set (R130, Table 7-3). -/
def EngineConfig.inRange (c : EngineConfig) : Prop :=
  1 ≤ c.nominal ∧ c.nominal ≤ Config.maxPeriod ∧ 1 ≤ c.tolerance ∧ c.tolerance ≤ 64 ∧ c.scanLead ≤ 65535 ∧ 1 ≤ c.scanSpan ∧
  c.scanSpan ≤ Config.maxPeriod ∧ 1 ≤ c.facetTimeout ∧ c.facetTimeout ≤ 1000 ∧ c.sampleExp ≤ 7 ∧ 1000 ≤ c.refclkPerMs ∧
  c.refclkPerMs ≤ 200000 ∧ c.scanSpan * 256 < c.nominal * (256 - c.tolerance)

/-- A channel configuration in range (Table 8-2). -/
def ChannelConfig.inRange (c : ChannelConfig) : Prop :=
  1 ≤ c.settleBand ∧ c.settleBand ≤ 31 ∧ 4 ≤ c.settleCount ∧ c.settleCount ≤ 64 ∧ 1 ≤ c.rewakeCount ∧ c.rewakeCount ≤ 16 ∧
  1 ≤ c.warmTimeout ∧ c.warmTimeout ≤ 65535 ∧ 16 ≤ c.driftLimit ∧ c.driftLimit ≤ 255 ∧ c.driftDivisor ∈ [1, 2, 4, 8]

/-- Every setting held is in its range or at its power-on value, and every ARMED setup fits the scan (R66 to R68, R98, R116, R129, R130,
R133, R134). -/
structure SettingsSound (s : State) : Prop where
  fits : ∀ i, (s.setup i).armed = true → fitsScan (s.setup i).config s.engine.config.scanLead s.engine.config.scanSpan = true
  setups : ∀ i, (s.setup i).config = .null ∨ (s.setup i).config.inRange
  engine : s.engine.config = .powerOn ∨ s.engine.config.inRange
  millisecond : s.engine.msCount < s.engine.config.refclkPerMs
  channels : ∀ c, (s.chan c).config.inRange ∧ 1 ≤ (s.chan c).target ∧ (s.chan c).target ≤ 64 ∧ 1 ≤ (s.chan c).ref ∧ (s.chan c).ref ≤ 4095
  idle : s.idle.delay ≤ 65535
  start : 1 ≤ s.frame.startTimeout ∧ s.frame.startTimeout ≤ 65535
  port : s.port.lanes ∈ [1, 2, 4] ∧ 1 ≤ s.port.lineWaitLimit ∧ s.port.lineWaitLimit ≤ 65535

/-! ## The words of the claims -/

/-- The light a drive gives, in 4096ths of tier 0's full power: each tier is 16 times stronger than the one below it (section 2.5). -/
def light (d : Nat × Nat) : Nat := 16 ^ d.1 * d.2

/-- The profile record under an ID is present and not RETIRING, no image operation is in flight and the ID is in range: checks 1 to 3
of R7 pass but for the request's other fields. -/
def Reachable (s : State) (id : BitVec 16) (p : Profile) : Prop :=
  idInRange id.toNat = true ∧ s.image.state = .idle ∧ s.liveProfile id.toNat = some p

/-- The change requests on an occupied profile record: the ID, and whether the other fields are in range (R7, R9, R11, R12). -/
def profileChange : Instr → Option (BitVec 16 × Prop)
  | .profileStage id source => some (id, source.toNat < 2)
  | .profilePutCurve id chan knots => some (id, chan.toNat < 3 ∧ ∀ k ∈ knots, k.1.toNat ≤ 4095 ∧ k.2.toNat ≤ 4095)
  | .profilePutTerms id trims darks _ label => some (id, (∀ c, -1024 ≤ (trims.get c).toInt ∧ (trims.get c).toInt ≤ 1023) ∧
      (∀ c, (darks.get c).toNat ≤ 4095) ∧ label.length ≤ 12 ∧ ∀ b ∈ label, 0x20 ≤ b.toNat ∧ b.toNat ≤ 0x7E)
  | .profileCommit id => some (id, True)
  | .profileDiscard id => some (id, True)
  | .profileRetire id => some (id, True)
  | _ => none

/-- A request accepted with OK and a body that changes one profile record, to `q`, and nothing else. -/
def ChangesProfile (s : State) (c : Instr) (id : Nat) (q : Profile) (body : List Byte) : Prop :=
  ∃ t : State, exec c s = .next (t.answer c .ok body) ∧ t = { s with profiles := t.profiles } ∧ t.profile id = some q ∧
    (∀ j, j ≠ id → t.profile j = s.profile j) ∧ t.profiles.map Profile.id = s.profiles.map Profile.id

/-- What FRAME_SPOIL leaves of the frame in flight, its pending line group begun and its port in DRAIN (R85, R95, R112, R146); `ended` says that the word that spoiled the frame was its
FRAME_END (R107). -/
structure Spoiled (s t : State) (cause : Cause) (ended : Bool) : Prop where
  state : t.frame.state = if s.frame.endSeen || ended then .idle else .draining
  result : t.frame.result = some .spoiled ∧ t.frame.cause = some cause
  line : t.line = none
  drives : t.drives = ⟨.off, .off, .off⟩
  window : t.engine.window = .none
  group : t.frame.pendingGroup = none
  groupBegins : ∀ n, s.frame.pendingGroup = some n → n ≠ 0 → t.transport.group = some ⟨.line, n⟩
  groupKept : s.frame.pendingGroup = none → t.transport.group = s.transport.group
  port : cause ≠ .format →
    t.port.state = if s.port.state = .betweenLines ∨ s.port.state = .inLine then .drain else s.port.state
  buffers : t.port.buf0 = .cleared ∧ t.port.buf1 = .cleared
  optics : t.optics = { s.optics with pinned := none }
  profiles : ∀ l, s.frame.latched = some l → (∀ j, j ≠ l.profileId → t.profile j = s.profile j) ∧
    ∀ p, s.profile l.profileId = some p →
      t.profile l.profileId = if p.state = .retiring then none else some { p with pinned := none }
  report : ∀ i tag l, s.frame.slot = some i → s.frame.tag = some tag → s.frame.latched = some l →
    t.setup i = { s.setup i with
      spoiled := min Config.max32 ((s.setup i).spoiled + 1)
      report := some ⟨tag, .spoiled, some cause, some l.profileId, some l.profileRev, some l.opticsRev, l.lines, l.starved,
        l.low, l.high, l.stale⟩ } ∧
    ∀ j, j ≠ i → t.setup j = s.setup j
  event : t.events.flags.getLsbD 0 = true
  idleTimer : t.idle = { s.idle with seconds := 0, millis := 0 }

/-- What the end of the window adds to a reading's effect (R85, R127): where no channel is still to be read the window has passed, and a line
group that waited for it is under way. -/
def afterReading (line : Bool) (rest : List Chan) (s : State) : State :=
  if rest = [] then
    { s with
      engine := { s.engine with window := .none }
      frame := { s.frame with pendingGroup := if line then none else s.frame.pendingGroup }
      transport := { s.transport with group := match line, s.frame.pendingGroup with
        | true, some n => some ⟨.line, n⟩
        | _, _ => s.transport.group } }
  else s

/-- The REFCLK periods up to the moment `t` periods after the latest FACET, the next period where it has come (R119, R125, R127). -/
def toMoment (s : State) (t : Nat) : Nat := max 1 (min Config.maxPeriod t - s.engine.periodCount)

/-- The REFCLK periods that the millisecond in progress still lacks (R129). -/
def toTick (s : State) : Nat := max 1 (s.engine.config.refclkPerMs - s.engine.msCount)

/-- No line ends and no window opens within the next `n` REFCLK periods (R125, R127). -/
def Still (s : State) (n : Nat) : Prop :=
  (∀ x, s.line = some x → n < toMoment s (x.start + x.width * x.slotLength)) ∧
  ∀ k line, s.engine.window = .scheduled k line → n < toMoment s s.engine.config.scanSpan

/-- Nothing falls on the next `n` REFCLK periods: no tick, no line's end and no window's opening. -/
def Quiet (s : State) (n : Nat) : Prop := n < toTick s ∧ Still s n

/-- The engine with `n` REFCLK periods more in both counts (R119, R129). -/
def Engine.later (e : Engine) (n : Nat) : Engine :=
  { e with periodCount := min (2 ^ 24 - 1) (e.periodCount + n), msCount := e.msCount + n }

/-- A run of steps. -/
def waits : Nat → State → Answer
  | 0, s => .next s
  | n + 1, s =>
    match step s with
    | .next t => waits n t
    | o => o

/-- A run of commands, one after another. -/
def runAll : List Instr → State → Answer
  | [], s => .next s
  | c :: rest, s =>
    match exec c s with
    | .next t => runAll rest t
    | o => o

/-- The pixel of source column `x` among the data words of a whole source line (R101, R102). -/
def sourcePixel (f : Format) (words : List Word32) (x : Nat) : Rgb Nat :=
  match f with
  | .l10 => pixelL10 (words.getD x 0)
  | .l12 =>
    let n := 9 * (x / 8) + x % 8
    pixelL12 (words.getD n 0) (words.getD (n + 1) 0) (x % 8 + 1)

/-- The words that R107 calls a framing error in a state of the port, each with the state it sends the port to and whether it is
the frame's FRAME_END. -/
def framingWord (p : Port) : Instr → Option (PortState × Bool)
  | .frameStart .ready => if p.state = .header ∨ p.state = .betweenLines ∨ p.state = .inLine then some (.header, false) else none
  | .lineStart .ready n =>
    if p.state = .header ∨ p.state = .inLine ∨ (p.state = .betweenLines ∧ ¬ (n.toNat = p.expected ∧ p.received < p.srcHeight))
    then some (.drain, false) else none
  | .dataWord .ready _ => if p.state = .betweenLines then some (.drain, false) else none
  | .frameEnd .ready =>
    if p.state = .header ∨ p.state = .inLine ∨ (p.state = .betweenLines ∧ p.received ≠ p.srcHeight)
    then some (.waitFrame, true) else none
  | .undefinedTagWord .ready _ =>
    if p.state = .header ∨ p.state = .betweenLines ∨ p.state = .inLine then some (.drain, false) else none
  | _ => none

/-- The word commands. -/
def wordsBegun (start : WordStart) (n w : Word32) (tag : BitVec 2) : List Instr :=
  [.frameStart start, .lineStart start n, .dataWord start w, .frameEnd start, .undefinedTagWord start tag]

/-- The frame record once the frame's FRAME_END has been told (R93). -/
def FrameCycle.ended (f : FrameCycle) : FrameCycle :=
  match f.state with
  | .idle => f
  | .draining => { f with state := .idle, endSeen := false }
  | _ => { f with endSeen := true }

end Sys2Proof.Machine
end

