-- ==== Sys2Proof/WellFormed.lean ====
section
/-! DEFINITION. The well-formed commands: those that something outside the part can send. -/

namespace Sys2Proof

/-- A label that a length byte can count and a body can hold (R164, R165). -/
def labelFits (other : Nat) (label : List Byte) : Bool := other + 1 + label.length ≤ Config.maxBody

/-- What the ports can carry: a request whose message body has at most 250 bytes (R164); a request transaction whose byte 0 is not
0x00, one with no whole byte among them (R166); a read transaction of at least its byte 0 (R168). -/
def Instr.wf : Instr → Bool
  | .requestTransaction bytes => bytes.head? != some 0
  | .readTransaction read => 1 ≤ read.bytes
  | .profileCreate _ label => labelFits 2 label
  | .profilePutTerms _ _ _ _ label => labelFits 16 label
  | .profilePutCurve _ _ knots => 4 + 4 * knots.length ≤ Config.maxBody
  | .opticsPutFacets facets => 1 + 2 * facets.length ≤ Config.maxBody
  | _ => true

end Sys2Proof
end

