-- ==== Sys2Proof/Certificates/Slice0/Obligations.lean ====
section
/-! DEFINITION. The statements about the machine. Each docstring says which rules of the spec a statement formalises. -/

open Sys2Proof Sys2Proof.Machine

/-! ## The step and the resets -/

/-- One step runs the command at the front of the queue on the state with the queue's rest (section 0.3.4, log entry 39). -/
def Obligations.StepRunsTheFrontCommand : Prop :=
  ∀ (s : State) (c : Instr) (rest : List Instr), s.pending = c :: rest → step s = exec c { s with pending := rest }

/-- With no command waiting, the request in process goes on its way: it is passed to its owning block, and the owner's answer is taken (R166);
without one, one REFCLK period passes (R119, R125, R127, R129): it is counted in the period count and the millisecond in progress, or is the tick
that completes it, the end of the line being exposed or the opening of the window; and the rows that carry REFCLK periods are as many of these
steps. That an empty queue is where all this happens, that those rows pass the periods up to their moments, and that a row takes all that falls on
one period, is the model's choice (log entries 1, 2, 3, 45). -/
def Obligations.IdleStepIsOneRefclkPeriod : Prop :=
  ∀ s : State, s.pending = [] →
    (s.link.processing = true →
      (∀ c, s.link.request = some c → s.link.answer = none → step s = exec c s) ∧
      (s.link.answer ≠ none → step s = exec .requestAnswered s)) ∧
    (s.link.processing = false →
      let locked k line := s.engine.window = .scheduled k line ∧ s.engine.state = .locked
      (Quiet s 1 → step s = .next { s with engine := { s.engine with
        periodCount := min Config.maxPeriod (s.engine.periodCount + 1), msCount := s.engine.msCount + 1 } }) ∧
      (s.engine.config.refclkPerMs ≤ s.engine.msCount + 1 → step s = exec .millisecondTick s) ∧
      (∀ x, s.line = some x → x.start + x.width * x.slotLength ≤ s.engine.periodCount + 1 → step s = exec .lineComplete s) ∧
      (∀ k line, locked k line → s.engine.config.scanSpan ≤ s.engine.periodCount + 1 → step s = exec .monitorWindowOpen s) ∧
      ∀ n, ∃ t : State, waits n s = .next t ∧
        (∀ m, exec (.facet (n + m)) s = exec (.facet m) t) ∧
        (n = toTick s → exec .millisecondTick s = .next t) ∧
        (∀ x, s.line = some x → n = toMoment s (x.start + x.width * x.slotLength) → exec .lineComplete s = .next t) ∧
        ∀ k line, locked k line → n = toMoment s s.engine.config.scanSpan → exec .monitorWindowOpen s = .next t)

/-- Every part of the machine's invariant holds of the state after reset. -/
def Obligations.ResetIsSound : Prop :=
  Sound State.reset ∧ CountsBounded State.reset ∧ SettingsSound State.reset ∧ GroupsPositive State.reset

/-- POWER_ON_RESET puts every block into the values its chapter states (R28, R49, R64, R66, R99, R117, R132, R150, R162, R174, R184); a load begins
where LOAD_AT_START is high. The values the spec does not state are the model's (log entries 6, 16, 27, 40). -/
def Obligations.PowerOnResetCompletes : Prop :=
  ∀ (pins : ResetPins) (s : State), ∃ t : State, exec (.powerOnReset pins) s = .next t ∧
    t.profiles = [] ∧ t.optics = ⟨.a, .default, none, false, none⟩ ∧
    (∀ i, t.setup i = ⟨false, .null, 0, 0, 0, none⟩) ∧
    (t.frame.state = .idle ∧ t.frame.slot = none ∧ t.frame.tag = none ∧ t.frame.result = none ∧ t.frame.startTimeout = 5000) ∧
    (t.port.state = .waitFrame ∧ t.port.buf0 = .cleared ∧ t.port.buf1 = .cleared ∧ t.port.waiting = none ∧ t.port.settled = false ∧
      t.port.strayRun = false ∧ t.port.strays = 0 ∧ t.port.errors = 0 ∧ t.port.lanes = 1 ∧ t.port.lineWaitLimit = 100) ∧
    t.engine = .afterReset ⟨0, 8, 0, 0, 100, 4, 100000⟩ 0 ∧ t.line = none ∧ t.drives = ⟨.off, .off, .off⟩ ∧
    (∀ c, (t.chan c).state = .dark ∧ (t.chan c).drift = 0 ∧ (t.chan c).lastRaw = none ∧ (t.chan c).lastM = none ∧
      (t.chan c).stableRun = 0 ∧ (t.chan c).outRun = 0 ∧ (t.chan c).first = false ∧ (t.chan c).warmTimer = 0 ∧
      (t.chan c).faultCause = none ∧ (t.chan c).ref = 2048 ∧ (t.chan c).capture = false ∧ (t.chan c).lastCapture = .none ∧
      (t.chan c).config = ⟨4, 16, 4, 30000, 64, 4⟩) ∧
    t.idle = ⟨600, 0, 0⟩ ∧ t.transport = ⟨none, none, 0, .none, pins.seated, pins.xportFault, pins.safeOpen, none⟩ ∧
    (t.link.processing = false ∧ t.link.request = none ∧ t.link.held = some ⟨.ok, []⟩ ∧ t.link.dropped = false) ∧
    t.events = ⟨0, 0, 0⟩ ∧ t.image.written = 0 ∧ t.image.loaded = 0 ∧ t.image.skipped = 0 ∧ t.image.opticsLoaded = false ∧
    t.image.channelsLoaded = false ∧
    (pins.loadAtStart = false → t.image.state = .idle ∧ t.image.last = .none) ∧
    (pins.loadAtStart = true → t.flash.header = none → t.image.state = .idle ∧ t.image.last = .noImage) ∧
    (pins.loadAtStart = true → t.flash.header ≠ none → t.image.state = .loading) ∧
    t.pending = s.pending

/-- SOFT_RESET (R28, R64, R85, R99, R117, R132, R150, R162, R173, R175, R184): one step, answered OK, that leaves no event flag. The frame in flight is
spoiled; each profile record that is not RETIRING is kept, its staging discarded and its pin returned; a STEP group under way runs on and a
pending one begins; the flash completes the operation that was issued. That the region changes in this step, and not as the operation runs on after
it (R173), that the facet timer is 0, and that the other fields named here which no soft reset rule names are kept, is the model's (log entries 16,
27, 28). -/
def Obligations.SoftResetCompletes : Prop :=
  ∀ s : State, ∃ t : State, exec .softReset s = .next (t.answer .softReset .ok) ∧
    t.events = ⟨0, 0, 0⟩ ∧ t.link = s.link ∧
    (∀ p ∈ t.profiles, p.staging = none ∧ p.state ≠ .retiring) ∧
    t.optics.staging = false ∧ t.optics.pinned = none ∧ t.optics.current = s.optics.current ∧ t.optics.cur = s.optics.cur ∧
    t.frame.state = .idle ∧ t.frame.startTimeout = s.frame.startTimeout ∧
    (s.inFlight = true → t.frame.result = some .spoiled ∧ t.frame.cause = some .reset) ∧
    (∀ i tag l, s.inFlight = true → s.frame.slot = some i → s.frame.tag = some tag → s.frame.latched = some l →
      t.setup i = (s.setup i).charge (l.report tag .spoiled (some .reset))) ∧
    (s.inFlight = false → t.setups = s.setups) ∧
    (t.port.state = .waitFrame ∧ t.port.waiting = none ∧ t.port.buf0 = .cleared ∧ t.port.buf1 = .cleared ∧
      t.port.settled = false ∧ t.port.strayRun = false ∧ t.port.strays = s.port.strays ∧ t.port.errors = s.port.errors ∧
      t.port.lanes = s.port.lanes ∧ t.port.lineWaitLimit = s.port.lineWaitLimit) ∧
    t.engine = .afterReset s.engine.config s.engine.msCount ∧ t.line = none ∧ t.drives = ⟨.off, .off, .off⟩ ∧
    (∀ c, (t.chan c).state = .dark ∧ (t.chan c).drift = 0 ∧ (t.chan c).lastRaw = none ∧ (t.chan c).lastM = none ∧
      (t.chan c).stableRun = 0 ∧ (t.chan c).outRun = 0 ∧ (t.chan c).faultCause = none ∧ (t.chan c).capture = false ∧
      (t.chan c).lastCapture = .none ∧ (t.chan c).ref = (s.chan c).ref ∧ (t.chan c).config = (s.chan c).config) ∧
    t.idle = ⟨s.idle.delay, 0, 0⟩ ∧
    (t.transport.roll = s.transport.roll ∧ t.transport.advance = none ∧ t.transport.last = .none ∧
      t.transport.seated = s.transport.seated ∧ t.transport.xportFault = s.transport.xportFault ∧
      t.transport.safeOpen = s.transport.safeOpen) ∧
    (s.image.state ≠ .idle → t.image.state = .idle ∧ t.image.last = .abandoned ∧ t.image.written = s.image.written ∧
      t.image.loaded = s.image.loaded ∧ t.image.skipped = s.image.skipped) ∧
    t.pending = s.pending ∧
    (RecordsSound s → StepSound s →
      (∀ id, s.profile id = none → t.profile id = none) ∧
      (∀ id p, s.profile id = some p → p.state = .retiring → t.profile id = none) ∧
      (∀ id p, s.profile id = some p → p.state ≠ .retiring →
        (p.staging = none → t.profile id = some { p with pinned := none }) ∧
        ∀ g, p.staging = some g → t.profile id = some { p.setBank g.bank none with staging := none, pinned := none }) ∧
      t.frame.pendingGroup = none ∧
      (s.frame.pendingGroup = none → t.transport.group = s.transport.group) ∧
      (∀ n, s.frame.pendingGroup = some n → n ≠ 0 → t.transport.group = some ⟨.line, n⟩) ∧
      (s.image.save = none → t.flash = s.flash) ∧ (∀ v, s.image.save = some v → t.flash = s.flash.carryOut v.op))

/-! ## The control link and the events -/

/-- R171, R172: an event raised sets its flag and clears its seen mark and nothing else, ATTN follows the flags and enables;
EVENTS_READ, EVENTS_CLEAR and EVENTS_ENABLE; and the two orders of an event and a clear that names it. -/
def Obligations.EventsAreRaisedReadAndCleared : Prop :=
  (∀ (s : State) (e : Event),
      (s.raise e).events.flags.getLsbD e.bit = true ∧ (s.raise e).events.seen.getLsbD e.bit = false ∧
      (∀ k, k ≠ e.bit → (s.raise e).events.flags.getLsbD k = s.events.flags.getLsbD k ∧
        (s.raise e).events.seen.getLsbD k = s.events.seen.getLsbD k) ∧
      (s.raise e).events.enables = s.events.enables ∧ s.raise e = { s with events := (s.raise e).events } ∧
      (s.attn = true ↔ ∃ k, s.events.flags.getLsbD k = true ∧ s.events.enables.getLsbD k = true)) ∧
  (∀ s : State, exec .eventsRead s =
    .next (State.answer { s with events := ⟨s.events.flags, s.events.enables, s.events.seen ||| s.events.flags⟩ } .eventsRead .ok
      (be16 (s.events.flags.setWidth 16) ++ be16 (s.events.enables.setWidth 16)))) ∧
  (∀ (s : State) (mask : BitVec 16), mask.getLsbD 15 = true →
    exec (.eventsClear mask) s = .next (s.answer (.eventsClear mask) .range) ∧ exec (.eventsEnable mask) s = .next (s.answer (.eventsEnable mask) .range)) ∧
  (∀ (s : State) (mask : BitVec 16), mask.getLsbD 15 = false →
    (∃ v : Events, exec (.eventsClear mask) s = .next (State.answer { s with events := v } (.eventsClear mask) .ok (be16 (v.flags.setWidth 16))) ∧
      v.enables = s.events.enables ∧
      ∀ k, v.flags.getLsbD k =
          (s.events.flags.getLsbD k && !(mask.getLsbD k && s.events.seen.getLsbD k)) ∧
        v.seen.getLsbD k = (s.events.seen.getLsbD k && !(mask.getLsbD k && s.events.flags.getLsbD k))) ∧
    exec (.eventsEnable mask) s =
      .next (State.answer { s with events := ⟨s.events.flags, mask.setWidth 15, s.events.seen⟩ } (.eventsEnable mask) .ok (be16 mask))) ∧
  (∀ (v : Events) (e : Event) (m : BitVec 15), v.flags.getLsbD e.bit = true → v.seen.getLsbD e.bit = true → m.getLsbD e.bit = true →
    ((v.clear m).raise e).flags.getLsbD e.bit = true ∧ ((v.clear m).raise e).seen.getLsbD e.bit = false ∧
    ((v.raise e).clear m).flags.getLsbD e.bit = true ∧ ((v.raise e).clear m).seen.getLsbD e.bit = false)

/-- R164 to R166, R169: the message of every well-formed request command, sent while the link is IDLE, puts exactly that command in
process, with every operand at every value: no byte of an encoding is dropped. How a message lays its operands out where the spec leaves it
open is the model's (log entry 4). -/
def Obligations.RequestMessagesAreTaken : Prop :=
  ∀ (s : State) (c : Instr) (bytes : List Byte), c.wf = true → requestMessage c = some bytes →
    s.link.processing = false → s.link.straddles = false →
    exec (.requestTransaction bytes) s =
      .next (State.shiftOut { s with link := ⟨true, some c, none, none, false, false, s.link.begun⟩ } (List.replicate bytes.length 0))

/-- R166 to R168, R174: the link's checks in their order, a transaction with no whole byte or under way at the power-on reset, a request dropped
in PROCESSING; a read shifts out the held reply, or NOT_DONE in PROCESSING and where it began in PROCESSING, with 0x00 beyond the body; the
owner's answer to the request in process becomes the held reply and the dropped mark travels with it. Byte 0 of a read is left open (log entry
30); that a read names how it began (log entry 47), that a request's row other than the one in process has no reply, and that REQUEST_ANSWERED
without an answered request in process changes nothing, is the model's (log entry 3). -/
def Obligations.LinkTransactions : Prop :=
  (∀ s : State, s.link.straddles = false → exec (.requestTransaction []) s = .next s) ∧
  (∀ (s : State) (bytes : List Byte), s.link.straddles = true →
    exec (.requestTransaction bytes) s = .next { s with link := { s.link with straddles := false } }) ∧
  (∀ (s : State) (code : Byte) (rest : List Byte), code ≠ 0 → s.link.straddles = false → s.link.processing = true →
    exec (.requestTransaction (code :: rest)) s =
      .next (State.shiftOut { s with link := { s.link with dropped := true } } (List.replicate (rest.length + 1) 0))) ∧
  (∀ (s : State) (code : Byte) (rest : List Byte), code ≠ 0 → s.link.straddles = false → s.link.processing = false →
    let held (st : Status) : Host.Outcome State Fault Refusal :=
      .next (State.shiftOut { s with link := { s.link with held := some ⟨st, []⟩, dropped := false, answer := none } }
        (List.replicate (rest.length + 1) 0))
    (rest = [] → exec (.requestTransaction (code :: rest)) s = held .malformed) ∧
    ∀ len body, rest = len :: body →
      (250 < len.toNat ∨ body.length ≠ len.toNat → exec (.requestTransaction (code :: rest)) s = held .malformed) ∧
      (len.toNat ≤ 250 → body.length = len.toNat → code.toNat ∉ requestCodes →
        exec (.requestTransaction (code :: rest)) s = held .unknownRequest) ∧
      (len.toNat ≤ 250 → body.length = len.toNat → code.toNat ∈ requestCodes →
        (∀ c, rdRequest code.toNat body ≠ some (c, [])) → exec (.requestTransaction (code :: rest)) s = held .malformed)) ∧
  (∀ (s : State) (notDone : Bool) (n : Nat) (r : Reply), s.link.straddles = false →
    (r = if notDone = true ∨ s.link.processing = true then ⟨.notDone, []⟩ else s.link.held.getD ⟨.ok, []⟩) →
    ∃ out, exec (.readTransaction ⟨notDone, n⟩) s = .next { s with outputs := { s.outputs with sdo := out } } ∧ out.length = n ∧
      ∀ k, k + 1 < n → out[k + 1]? = some
        (((BitVec.ofNat 8 (r.status.code + if s.link.dropped then 128 else 0) :: BitVec.ofNat 8 r.body.length :: r.body)[k]?).getD 0)) ∧
  (∀ (s : State) (rest : List Byte),
    exec (.requestTransaction (0 :: rest)) s = exec (.readTransaction ⟨false, rest.length + 1⟩) s) ∧
  (∀ (s : State) (c r : Instr) (st : Status) (body : List Byte),
    (s.link.processing = true → s.link.request = some r → s.link.answer = none →
      s.answer r st body = { s with link := { s.link with answer := some ⟨st, body⟩ } } ∧ (c ≠ r → s.answer c st body = s)) ∧
    (s.link.processing = false ∨ s.link.answer ≠ none → s.answer c st body = s)) ∧
  (∀ (s : State) (r : Reply), s.link.processing = true → s.link.answer = some r →
    exec .requestAnswered s =
      .next { s with link := { s.link with processing := false, request := none, answer := none, held := some r } }) ∧
  (∀ s : State, s.link.processing = false ∨ s.link.answer = none → exec .requestAnswered s = .next s)

/-! ## Queries -/

/-- R25, R97, R115, R131, R161, R173, R183: the requests without fields that only report are answered OK and change nothing else; the reply of
each whole. How an unknown figure, a level, the fields given in some states only and an advance are coded in a reply is the model's (log entries
20, 22, 24, 26). -/
def Obligations.FieldlessQueriesChangeNothing : Prop :=
  ∀ s : State,
    let given (cond : Prop) [Decidable cond] (bytes : List Byte) : List Byte := if cond then 0 :: bytes else [1]
    let bit (b : Bool) : List Byte := [if b then 0 else 1]
    let f := s.frame
    let latched (g : Latched → List Byte) : List Byte := f.latched.elim [1] fun x => 0 :: g x
    let p := s.port
    let inLines := p.state = .betweenLines ∨ p.state = .inLine
    let buffer (b : LineBuffer) : List Byte := u8 b.state.code ++ given (b.state ≠ .empty) (u16 b.line)
    let e := s.engine
    let g := e.config
    let t := s.transport
    let roll (h : Roll → List Byte) : List Byte := t.roll.elim [1] fun x => 0 :: h x
    exec .identify s = .next (s.answer .identify .ok [0x03, 0x10, 1, 24, 8]) ∧
    exec .profileList s = .next (s.answer .profileList .ok ([BitVec.ofNat 8 s.profiles.length] ++
      s.profiles.flatMap fun p => be16 (BitVec.ofNat 16 p.id) ++ [if p.state = .retiring then 0 else 1])) ∧
    exec .frameStatus s = .next (s.answer .frameStatus .ok (u8 f.state.code ++ opt (fun i => u8 (Fin.val i)) f.slot ++ opt be32 f.tag ++
      opt (fun x => u8 (Result.code x)) f.result ++ opt (fun x => u8 (Cause.code x)) f.cause ++ latched (fun x => u16 x.profileId) ++
      latched (fun x => u16 x.profileRev) ++ latched (fun x => u16 x.opticsRev) ++ latched (fun x => bit x.stale) ++
      given (f.state = .seating ∨ f.state = .readying) (u16 f.startTimer) ++ given (f.state = .exposing) (u8 f.margin.code) ++
      latched (fun x => u16 x.lines) ++ latched (fun x => u32 x.starved) ++ latched (fun x => u32 x.low) ++ latched (fun x => u32 x.high))) ∧
    exec .portStatus s = .next (s.answer .portStatus .ok (u8 p.state.code ++
      p.waiting.elim [1] (fun h => 0 :: u8 h.slot ++ u8 h.format ++ u16 h.srcWidth ++ u16 h.srcHeight ++ be32 h.tag) ++ bit p.settled ++
      given inLines (u16 p.expected) ++ given inLines (u16 p.received) ++ given (p.state = .inLine) (u16 p.wordCount) ++ buffer p.buf0 ++
      buffer p.buf1 ++ bit s.ready ++ u16 p.strays ++ u16 p.errors ++ u8 p.lanes ++ u16 p.lineWaitLimit)) ∧
    exec .engineQuery s = .next (s.answer .engineQuery .ok (u8 e.state.code ++ u8 s.optics.cur.facets ++ opt u8 e.facet ++ opt u8 e.revCount ++
      u8 e.mark.code ++ u8 e.good ++ u32 e.lastPeriod ++ u16 e.facetTimer ++ u8 e.samplePhase ++ opt u8 e.lastExposed ++
      bit e.window.isOpen ++ u32 g.nominal ++ u8 g.tolerance ++ u16 g.scanLead ++ u32 g.scanSpan ++ u16 g.facetTimeout ++
      u8 g.sampleExp ++ u32 g.refclkPerMs)) ∧
    exec .rollQuery s = .next (s.answer .rollQuery .ok ([if t.roll = none then 0 else 1] ++ roll (fun x => be32 x.tag) ++
      roll (fun x => u16 x.capacity) ++ roll (fun x => u16 x.remaining) ++ roll (fun x => u16 x.lowMark) ++ roll (fun x => u16 x.pulls) ++
      t.advance.elim [0, 1, 0, 1] (fun a => [1, 0] ++ u16 a.toIssue ++
        (if a.pull = .waitingGroup then [1, 1] else [2, 0] ++ u16 t.pullTimer)) ++
      u8 t.last.code ++ bit t.group.isSome ++ bit t.seated ++ bit t.xportFault ++ bit (!t.safeOpen))) ∧
    exec .imageStatus s = .next (s.answer .imageStatus .ok (u8 s.image.state.code ++ u8 s.image.last.code ++
      (match if s.image.last = .fault then s.image.failed else none with | some x => [0, BitVec.ofNat 8 x.code] | none => [1]) ++
      [BitVec.ofNat 8 s.image.written, BitVec.ofNat 8 s.image.loaded, BitVec.ofNat 8 s.image.skipped,
        if s.image.opticsLoaded then 0 else 1, if s.image.channelsLoaded then 0 else 1]))

/-- R26, R27, R46 to R48, R63, R77, R149: the lookups that name a record are answered OK and change nothing else, or are refused RANGE, NOT_FOUND
or NOT_READY in that order; every reply whole; PROFILE_EVALUATE reports the exposure arithmetic with the calibration of the bank selected and the
corrections as they stand. How a bank, an absent figure and the fields given in some states only are coded in a reply is the model's, and so is
that CHANNEL_QUERY gives the fields marked In WARMING in WARMING only (log entries 20, 21, 24, 25, 48). -/
def Obligations.LookupsChangeNothing : Prop :=
  (∀ (s : State) (id : BitVec 16),
    ((id = 0 ∨ id = 65535) → exec (.profileQuery id) s = .next (s.answer (.profileQuery id) .range)) ∧
    (id ≠ 0 → id ≠ 65535 → s.profile id.toNat = none → exec (.profileQuery id) s = .next (s.answer (.profileQuery id) .notFound)) ∧
    (∀ p, id ≠ 0 → id ≠ 65535 → s.profile id.toNat = some p →
      exec (.profileQuery id) s = .next (s.answer (.profileQuery id) .ok (u16 p.id ++ labelBytes p.label ++ u8 p.state.code ++ bankOrNone p.active ++
        opt u16 (p.activeCal.bind Calibration.revision) ++ opt u16 (p.activeCal.map Calibration.life) ++ u16 p.frames ++ u8 p.bound ++
        (match p.staging with
          | none => bankOrNone none
          | some g => bankOrNone (some g.bank) ++ [if p.curveMark .red then 0 else 1, if p.curveMark .grn then 0 else 1,
              if p.curveMark .blu then 0 else 1]) ++
        bankOrNone p.pinned ++ opt u16 (p.pinnedCal.bind Calibration.revision))))) ∧
  (∀ (s : State) (id : BitVec 16) (bank chan first count : Byte),
    let req : Instr := .profileReadCurve id bank chan first count
    let ok := 1 ≤ id.toNat ∧ id.toNat ≤ 65534 ∧ bank.toNat < 2 ∧ chan.toNat < 3 ∧ first.toNat ≤ 32 ∧ 1 ≤ count.toNat ∧ count.toNat ≤ 33
    (¬ ok → exec req s = .next (s.answer req .range)) ∧
    (ok → s.profile id.toNat = none → exec req s = .next (s.answer req .notFound)) ∧
    ∀ p c, ok → s.profile id.toNat = some p → chanOf chan = some c →
      (bank = 0 → ProfileSound p → p.state = .draft → exec req s = .next (s.answer req .notReady)) ∧
      (bank = 1 → p.staging = none → exec req s = .next (s.answer req .notReady)) ∧
      ∀ cal, bank = 0 ∧ p.activeCal = some cal ∨ bank = 1 ∧ p.stagedCal = some cal →
        (cal.curves.get c = none → exec req s = .next (s.answer req .notReady)) ∧
        ∀ k, cal.curves.get c = some k → exec req s = .next (s.answer req .ok
          ((if bank = 0 then opt u16 cal.revision else [1]) ++ u8 k.length ++ u8 ((k.drop first.toNat).take count.toNat).length ++
            ((k.drop first.toNat).take count.toNat).flatMap fun x => u16 x.code ++ u16 x.exposure))) ∧
  (∀ (s : State) (id code position : BitVec 16) (bank chan facet : Byte),
    let req : Instr := .profileEvaluate id bank chan code position facet
    let ok := 1 ≤ id.toNat ∧ id.toNat ≤ 65534 ∧ bank.toNat < 2 ∧ chan.toNat < 3 ∧ code.toNat ≤ 4095 ∧ position.toNat ≤ 8191 ∧
      facet.toNat < s.optics.cur.facets
    (¬ ok → exec req s = .next (s.answer req .range)) ∧
    (ok → s.profile id.toNat = none → exec req s = .next (s.answer req .notFound)) ∧
    ∀ p c, ok → s.profile id.toNat = some p → chanOf chan = some c →
      (bank = 0 → ProfileSound p → p.state = .draft → exec req s = .next (s.answer req .notReady)) ∧
      (bank = 1 → p.staging = none → exec req s = .next (s.answer req .notReady)) ∧
      ∀ cal, bank = 0 ∧ p.activeCal = some cal ∨ bank = 1 ∧ p.stagedCal = some cal →
        (cal.curves.get c = none → exec req s = .next (s.answer req .notReady)) ∧
        (cal.curves.get c ≠ none →
          let gain := s.optics.cur.gains.getD facet.toNat 0
          let r := computeWith cal s.optics.cur c (s.chan c).drift gain code.toNat position.toNat
          let lit (bytes : List Byte) : List Byte := if r.result = .dark then [1] else 0 :: bytes
          exec req s = .next (s.answer req .ok (u8 r.result.code ++ lit (u16 r.exposure) ++ lit (i16 r.sum) ++ u8 r.tier ++ u16 r.level ++
            lit (i16 (s.chan c).drift) ++ lit (i8 r.shading) ++ lit (i8 gain) ++
            (if bank = 0 then opt u16 cal.revision else [1]) ++ u16 (s.optics.cur.revision.getD 0))))) ∧
  (∀ (s : State) (bank part : Byte),
    let o := s.optics
    (2 ≤ bank.toNat ∨ 5 ≤ part.toNat → exec (.opticsRead bank part) s = .next (s.answer (.opticsRead bank part) .range)) ∧
    (bank.toNat < 2 → part = 0 → exec (.opticsRead bank part) s = .next (s.answer (.opticsRead bank part) .ok
      ([if o.current = .a then 0 else 1] ++ u16 (o.cur.revision.getD 0) ++ u8 o.cur.facets ++
        bankOrNone (if o.staging then some o.current.flip else none) ++ opt u8 ((if o.staging then o.other else none).map Corrections.facets) ++
        bankOrNone o.pinned ++ opt u16 (o.pinnedSet.bind Corrections.revision)))) ∧
    (bank = 1 → 1 ≤ part.toNat → part.toNat ≤ 4 → o.staging = false → exec (.opticsRead bank part) s = .next (s.answer (.opticsRead bank part) .notReady)) ∧
    ∀ (c : Corrections) (rev : List Byte),
      bank = 0 ∧ c = o.cur ∧ rev = opt u16 c.revision ∨ bank = 1 ∧ o.staging = true ∧ o.other = some c ∧ rev = [1] →
      (part = 1 → exec (.opticsRead bank part) s = .next (s.answer (.opticsRead bank part) .ok (rev ++ [BitVec.ofNat 8 c.facets] ++
        c.gains.map (BitVec.ofInt 8) ++ c.delays.map (BitVec.ofInt 8)))) ∧
      ∀ ch, part.toNat = (match ch with | .red => 2 | .grn => 3 | .blu => 4) →
        exec (.opticsRead bank part) s = .next (s.answer (.opticsRead bank part) .ok (rev ++ (c.shading.get ch).toList.map (BitVec.ofInt 8)))) ∧
  (∀ (s : State) (slot : Byte), (8 ≤ slot.toNat → exec (.setupQuery slot) s = .next (s.answer (.setupQuery slot) .range)) ∧
    ∀ i, slotOf slot = some i →
      let x := s.setup i
      let binding : Byte := if x.armed then 0 else match s.profile x.config.profileId with
        | none => 1
        | some p => if p.state = .draft then 2 else if p.state = .retiring then 3 else 4
      exec (.setupQuery slot) s = .next (s.answer (.setupQuery slot) .ok ([if x.armed then 1 else 0] ++ configBytes x.config ++
        u32 x.exposed ++ u32 x.spoiled ++ u32 x.refused ++ (x.report.elim [1] fun r => 0 :: reportBytes r) ++ [binding]))) ∧
  (∀ (s : State) (chan : Byte), (3 ≤ chan.toNat → exec (.channelQuery chan) s = .next (s.answer (.channelQuery chan) .range)) ∧
    ∀ c, chanOf chan = some c →
      let x := s.chan c
      let g := x.config
      let given (cond : Prop) [Decidable cond] (bytes : List Byte) : List Byte := if cond then 0 :: bytes else [1]
      exec (.channelQuery chan) s = .next (s.answer (.channelQuery chan) .ok (u8 x.state.code ++
        (if x.state = .fault then opt (fun f => u8 (FaultCause.code f)) x.faultCause else [1]) ++
        given (x.state = .warming) (u8 x.target) ++ given (x.state = .warming) (u8 x.stableRun) ++
        given (x.state = .warming) [if x.first then 0 else 1] ++ given (x.state = .warming) (u16 x.warmTimer) ++
        0 :: i16 x.drift ++ opt i16 x.lastRaw ++ opt u16 x.lastM ++ u8 x.outRun ++ u16 x.ref ++ [if x.capture then 1 else 0] ++
        u8 x.lastCapture.code ++ u8 g.settleBand ++ u8 g.settleCount ++ u8 g.rewakeCount ++ u16 g.warmTimeout ++ u8 g.driftLimit ++
        u8 g.driftDivisor ++ u16 s.idle.delay ++ u16 s.idle.seconds ++ u16 s.idle.millis ++ [if s.idleRuns then 0 else 1])))

/-! ## Stock profiles -/

/-- R7, R8: checks 1 to 3 of every profile change request, in their order; PROFILE_CREATE's checks, and the record in DRAFT that an accepted one adds,
as R8 lists its fields, no other record changing. -/
def Obligations.ProfileChangesAreChecked : Prop :=
  (∀ (s : State) (c : Instr) (id : BitVec 16) (ok : Prop), profileChange c = some (id, ok) →
    (¬ (1 ≤ id.toNat ∧ id.toNat ≤ 65534 ∧ ok) → exec c s = .next (s.answer c .range)) ∧
    (1 ≤ id.toNat ∧ id.toNat ≤ 65534 ∧ ok → s.image.state ≠ .idle → exec c s = .next (s.answer c .busy)) ∧
    (1 ≤ id.toNat ∧ id.toNat ≤ 65534 ∧ ok → s.image.state = .idle →
      (∀ p, s.profile id.toNat = some p → p.state = .retiring) → exec c s = .next (s.answer c .notFound))) ∧
  (∀ (s : State) (id : BitVec 16) (label : List Byte),
    let ok := 1 ≤ id.toNat ∧ id.toNat ≤ 65534 ∧ label.length ≤ 12 ∧ ∀ b ∈ label, 0x20 ≤ b.toNat ∧ b.toNat ≤ 0x7E
    (¬ ok → exec (.profileCreate id label) s = .next (s.answer (.profileCreate id label) .range)) ∧
    (ok → s.image.state ≠ .idle → exec (.profileCreate id label) s = .next (s.answer (.profileCreate id label) .busy)) ∧
    (ok → s.image.state = .idle → s.profile id.toNat ≠ none → exec (.profileCreate id label) s = .next (s.answer (.profileCreate id label) .duplicate)) ∧
    (ok → s.image.state = .idle → s.profile id.toNat = none → 24 ≤ s.profiles.length →
      exec (.profileCreate id label) s = .next (s.answer (.profileCreate id label) .tableFull))) ∧
  (∀ (s : State) (id : BitVec 16) (label : List Byte), 1 ≤ id.toNat → id.toNat ≤ 65534 → label.length ≤ 12 →
      (∀ b ∈ label, 0x20 ≤ b.toNat ∧ b.toNat ≤ 0x7E) → s.image.state = .idle → s.profile id.toNat = none → s.profiles.length < 24 →
      ∃ t : State, exec (.profileCreate id label) s = .next (t.answer (.profileCreate id label) .ok) ∧ t = { s with profiles := t.profiles } ∧
        t.profile id.toNat = some ⟨id.toNat, label, .draft, none, none, none, none, 0, 0, none⟩ ∧
        (∀ j, j ≠ id.toNat → t.profile j = s.profile j) ∧ t.profiles.length = s.profiles.length + 1 ∧
        (idsAscend s.profiles → idsAscend t.profiles))

/-- R4, R6, R9 to R12: PROFILE_STAGE's refusals in order, and staging opened in the bank that is not active with the contents of its source; which knot
lists are valid curves; PROFILE_PUT_CURVE and PROFILE_PUT_TERMS change the staged bank and label and nothing else, or are refused.
The bank byte in the reply is the model's (log entry 21). -/
def Obligations.StagingIsOpenedAndFilled : Prop :=
  (∀ (s : State) (id : BitVec 16) (source : Byte) (p : Profile), source = 0 ∨ source = 1 → Reachable s id p →
      (p.stagingBank = if p.active = some .a then .b else .a) ∧
      (p.staging ≠ none → exec (.profileStage id source) s = .next (s.answer (.profileStage id source) .state)) ∧
      (p.staging = none → source = 0 → p.state = .draft → exec (.profileStage id source) s = .next (s.answer (.profileStage id source) .notReady)) ∧
      (p.staging = none → ¬ (source = 0 ∧ p.state = .draft) → p.pinned = some p.stagingBank →
        exec (.profileStage id source) s = .next (s.answer (.profileStage id source) .busy)) ∧
      (p.staging = none → ¬ (source = 0 ∧ p.state = .draft) → p.pinned ≠ some p.stagingBank →
        ∀ cal : Calibration, (source = 1 → cal = ⟨none, ⟨none, none, none⟩, ⟨0, 0, 0⟩, ⟨0, 0, 0⟩, 0⟩) →
          (source = 0 → ∃ a, p.activeCal = some a ∧ cal = { a with revision := none }) →
          ChangesProfile s (.profileStage id source) id.toNat
            { p.setBank p.stagingBank (some cal) with staging := some ⟨p.stagingBank, p.label⟩ }
            [if p.stagingBank = .a then 0 else 1])) ∧
  (∀ k : Curve, validCurve k = true ↔ 2 ≤ k.length ∧ k.length ≤ 33 ∧ k.head?.map Knot.code = some 0 ∧
    k.getLast?.map Knot.code = some 4095 ∧ k.Pairwise (fun a b => a.code < b.code ∧ a.exposure ≤ b.exposure) ∧
    ∀ x ∈ k, x.code ≤ 4095 ∧ x.exposure ≤ 4095) ∧
  ∀ (s : State) (id : BitVec 16) (p : Profile), Reachable s id p →
    (∀ (chan : Byte) (c : Chan) (knots : List (BitVec 16 × BitVec 16)), chanOf chan = some c →
      (∀ k ∈ knots, k.1.toNat ≤ 4095 ∧ k.2.toNat ≤ 4095) →
      (p.staging = none → exec (.profilePutCurve id chan knots) s = .next (s.answer (.profilePutCurve id chan knots) .state)) ∧
      ∀ g cal, p.staging = some g → p.bank g.bank = some cal →
        (validCurve (curveOf knots) = false → exec (.profilePutCurve id chan knots) s = .next (s.answer (.profilePutCurve id chan knots) .invalidCurve)) ∧
        (validCurve (curveOf knots) = true → ChangesProfile s (.profilePutCurve id chan knots) id.toNat
          (p.setBank g.bank (some { cal with curves := cal.curves.set c (some (curveOf knots)) })) [])) ∧
    (∀ (trims darks : Rgb (BitVec 16)) (life : BitVec 16) (label : List Byte),
      (∀ c, -1024 ≤ (trims.get c).toInt ∧ (trims.get c).toInt ≤ 1023) → (∀ c, (darks.get c).toNat ≤ 4095) → label.length ≤ 12 →
      (∀ b ∈ label, 0x20 ≤ b.toNat ∧ b.toNat ≤ 0x7E) →
      (p.staging = none → exec (.profilePutTerms id trims darks life label) s = .next (s.answer (.profilePutTerms id trims darks life label) .state)) ∧
      ∀ g cal, p.staging = some g → p.bank g.bank = some cal →
        ChangesProfile s (.profilePutTerms id trims darks life label) id.toNat
          { p.setBank g.bank (some ⟨cal.revision, cal.curves, ⟨trims.red.toInt, trims.grn.toInt, trims.blu.toInt⟩,
              ⟨darks.red.toNat, darks.grn.toNat, darks.blu.toNat⟩, life.toNat⟩) with staging := some ⟨g.bank, label⟩ } [])

/-- R14, R15: PROFILE_COMMIT is refused NOT_READY without all three staged curves; accepted, it does the six things of R15 and leaves
the bank that was active, the bound setups and the pin as they were.
The bank byte in the reply is the model's (log entry 21). -/
def Obligations.ProfileCommitSwapsTheBanks : Prop :=
  ∀ (s : State) (id : BitVec 16) (p : Profile), Reachable s id p →
    (p.staging = none → exec (.profileCommit id) s = .next (s.answer (.profileCommit id) .notReady)) ∧
    ∀ g cal, p.staging = some g → p.bank g.bank = some cal →
      ((∃ c, cal.curves.get c = none) → exec (.profileCommit id) s = .next (s.answer (.profileCommit id) .notReady)) ∧
      ((∀ c, cal.curves.get c ≠ none) → ∀ rev : Nat,
        (p.activeCal = none → rev = 1) →
        (∀ a n, p.activeCal = some a → a.revision = some n → rev = if n = 65535 then 1 else n + 1) →
        (∀ a, p.activeCal = some a → a.revision ≠ none) →
        ChangesProfile s (.profileCommit id) id.toNat
          { p.setBank g.bank (some { cal with revision := some rev }) with
            active := some g.bank, label := g.label, frames := 0, state := .active, staging := none }
          (be16 (BitVec.ofNat 16 rev) ++ [if g.bank = .a then 0 else 1]))

/-- R13, R20, R21: PROFILE_DISCARD empties the staging bank; PROFILE_RETIRE is refused IN_USE while setups are bound, frees a record with no
pin, and turns a record with a pin RETIRING with its banks as they are. The state code in the reply is the model's (log entry 23). -/
def Obligations.ProfileDiscardAndRetire : Prop :=
  ∀ (s : State) (id : BitVec 16) (p : Profile), Reachable s id p →
    (p.staging = none → exec (.profileDiscard id) s = .next (s.answer (.profileDiscard id) .state)) ∧
    (∀ g, p.staging = some g →
      ChangesProfile s (.profileDiscard id) id.toNat { p.setBank g.bank none with staging := none } []) ∧
    (0 < p.bound → exec (.profileRetire id) s = .next (s.answer (.profileRetire id) .inUse)) ∧
    (p.bound = 0 → p.pinned = none → ∃ t : State, exec (.profileRetire id) s = .next (t.answer (.profileRetire id) .ok [0]) ∧
      t = { s with profiles := t.profiles } ∧ t.profile id.toNat = none ∧ ∀ j, j ≠ id.toNat → t.profile j = s.profile j) ∧
    (p.bound = 0 → p.pinned ≠ none → ∀ q : Profile,
      (p.staging = none → q = p) → (∀ g, p.staging = some g → q = { p.setBank g.bank none with staging := none }) →
      ChangesProfile s (.profileRetire id) id.toNat { q with state := .retiring } [4])

/-- Every step keeps the profile table sound: at most 24 records of different IDs in range, each bound count the number of ARMED setups
that name the profile, each ARMED setup's profile ACTIVE or STALE, the pins and the load set as their rules have them (R1, R16, R22). -/
def Obligations.RecordsStaySound : Prop :=
  ∀ s t : State, RecordsSound s → step s = .next t → RecordsSound t

/-- Every step keeps every profile record and the optics set sound: DRAFT exactly without an active bank, a complete calibration in the active and
the pinned bank, valid curves only, staging in the other bank and never in a pinned one, STALE exactly by the life, F in 6..12 (R3 to R6, R17,
R24, R51, R57, R62). -/
def Obligations.ProfilesAndOpticsStaySound : Prop :=
  (∀ s t : State, ProfilesSound s → step s = .next t → ProfilesSound t) ∧
  (∀ s t : State, RecordsSound s → OpticsSound s → step s = .next t → OpticsSound t)

/-- R16 to R19, R61, R62: while one frame stays in flight, no step changes the calibration or the corrections it pinned, whatever is
staged, put, committed, discarded or retired meanwhile. -/
def Obligations.FrameKeepsItsCalibration : Prop :=
  ∀ s t : State, RecordsSound s → ProfilesSound s → OpticsSound s → step s = .next t → s.inFlight = true → t.inFlight = true →
    t.optics.pinnedSet = s.optics.pinnedSet ∧
    ∃ l m, s.frame.latched = some l ∧ t.frame.latched = some m ∧
      m.profileId = l.profileId ∧ m.profileRev = l.profileRev ∧ m.opticsRev = l.opticsRev ∧ m.stale = l.stale ∧
      (t.profile l.profileId).bind Profile.pinnedCal = (s.profile l.profileId).bind Profile.pinnedCal

/-! ## The exposure arithmetic -/

/-- R40, R41: the antilog table holds 2048 times 2 to the power f/256 and the log table 256 times the base-2 logarithm of 1 + i/256, each rounded to the
nearest, over 0..255; the one rises strictly, the other does not fall. -/
def Obligations.StopTablesAreRounded : Prop :=
  (∀ f : Nat, f ≤ 255 → (antilog f : Int) = ⌊(2048 : ℝ) * (2 : ℝ) ^ ((f : ℝ) / 256) + 1 / 2⌋) ∧
  (∀ f g : Nat, f < g → g ≤ 255 → antilog f < antilog g) ∧ antilog 0 = 2048 ∧ antilog 255 = 4085 ∧
  (∀ i : Nat, i ≤ 255 → (logEntry i : Int) = ⌊(256 : ℝ) * Real.logb 2 (1 + (i : ℝ) / 256) + 1 / 2⌋) ∧
  (∀ i j : Nat, i ≤ j → j ≤ 255 → logEntry i ≤ logEntry j) ∧ logEntry 0 = 0 ∧ logEntry 255 = 255

/-- R32 to R35: for a valid curve, the exposure at a code within a segment, at the last knot, its rounding and its rise with the code; the shading
correction between two knots, rounded with halves upward for a falling pair too, within its knots' range. -/
def Obligations.CurveAndShadingStages : Prop :=
  (∀ k : Curve, validCurve k = true →
      (∀ (before after : Curve) (a b : Knot) (c : Nat), k = before ++ a :: b :: after → a.code ≤ c → c < b.code →
        curveAt k c = a.exposure + ((c - a.code) * (b.exposure - a.exposure) + (b.code - a.code) / 2) / (b.code - a.code) ∧
        a.exposure ≤ curveAt k c ∧ curveAt k c ≤ b.exposure ∧
        2 * ((curveAt k c - a.exposure) * (b.code - a.code)) ≤ 2 * ((c - a.code) * (b.exposure - a.exposure)) + (b.code - a.code) ∧
        2 * ((c - a.code) * (b.exposure - a.exposure)) < 2 * ((curveAt k c - a.exposure) * (b.code - a.code)) + (b.code - a.code) + 1) ∧
      (∀ e : Knot, k.getLast? = some e → curveAt k 4095 = e.exposure) ∧
      (∀ c d : Nat, c ≤ d → d ≤ 4095 → curveAt k c ≤ curveAt k d ∧ curveAt k d ≤ 4095)) ∧
  (∀ (m : Vector Int 65) (z : Fin 64) (t : Fin 128),
      let a := m[z.castSucc]
      let b := m[z.succ]
      let v := shadingAt m (128 * z + t)
      v = a + ⌊(((b - a) * (t : Int) + 64 : Int) : ℚ) / 128⌋ ∧ min a b ≤ v ∧ v ≤ max a b ∧ (t.val = 0 → v = a) ∧
      ((∀ x ∈ m.toList, -128 ≤ x ∧ x ≤ 127) → -128 ≤ v ∧ v ≤ 127))

/-- R31, R37, R38: a code below the dark code is OFF and counts no clamp, whatever the corrections; otherwise the exact sum decides a low
clamp, a high clamp or neither, and within the fields' ranges it lies in -1471..5563. -/
def Obligations.ChannelComputationClamps : Prop :=
  ∀ (curve : Curve) (trim : Int) (dark : Nat) (drift : Int) (map : Vector Int 65) (gain : Int) (c p : Nat),
    let r := compute curve trim dark drift map gain c p
    let sum := (curveAt curve c : Int) + trim + drift + shadingAt map p + gain
    (c < dark → r = ⟨.dark, 0, 0, 0, 0, 0⟩ ∧ clampCounts r.result = (0, 0)) ∧
    (dark ≤ c → r.exposure = curveAt curve c ∧ r.shading = shadingAt map p ∧ r.sum = sum ∧
      (sum ≤ 0 → r.result = .low ∧ r.tier = 0 ∧ r.level = 0 ∧ clampCounts r.result = (1, 0)) ∧
      (4096 ≤ sum → r.result = .high ∧ (r.tier, r.level) = driveOf 4095 ∧ clampCounts r.result = (0, 1)) ∧
      (1 ≤ sum → sum ≤ 4095 → r.result = .none ∧ (r.tier, r.level) = driveOf sum.toNat ∧ clampCounts r.result = (0, 0))) ∧
    (validCurve curve = true → c ≤ 4095 → p ≤ 8191 → -1024 ≤ trim → trim ≤ 1023 → drift.natAbs ≤ 255 → -64 ≤ gain → gain ≤ 63 →
      (∀ x ∈ map.toList, -128 ≤ x ∧ x ≤ 127) → -1471 ≤ sum ∧ sum ≤ 5563)

/-- R39: tier and level for T in 1..4095, in 0..3 and 256..4085; the light they give does not fall as T rises, 2.5's meaning of a drive. -/
def Obligations.DriveStageGivesTierAndLevel : Prop :=
  (∀ t : Nat, 1 ≤ t → t ≤ 4095 →
    (driveOf t).1 = t / 256 / 4 ∧
    ((t / 256) % 4 = 3 → (driveOf t).2 = antilog (t % 256)) ∧
    ((t / 256) % 4 ≠ 3 → (driveOf t).2 = (antilog (t % 256) + 2 ^ (2 - (t / 256) % 4)) / 2 ^ (3 - (t / 256) % 4)) ∧
    (driveOf t).1 ≤ 3 ∧ 256 ≤ (driveOf t).2 ∧ (driveOf t).2 ≤ 4085) ∧
  (∀ t u : Nat, 1 ≤ t → t ≤ u → u ≤ 4095 → light (driveOf t) ≤ light (driveOf u))

/-! ## Optical corrections -/

/-- R53 to R56, R60: the checks of the optics change requests in their order, and what OPTICS_STAGE, OPTICS_PUT_FACETS, OPTICS_PUT_SHADING
and OPTICS_DISCARD change: the bank that is not current, and nothing else.
The bank byte in the reply is the model's (log entry 21). -/
def Obligations.OpticsStagingRequests : Prop :=
  ∀ s : State,
    (∀ source : Byte, 2 ≤ source.toNat → exec (.opticsStage source) s = .next (s.answer (.opticsStage source) .range)) ∧
    (∀ facets, ¬ (6 ≤ facets.length ∧ facets.length ≤ 12 ∧ ∀ x ∈ facets, -64 ≤ x.1.toInt ∧ x.1.toInt ≤ 63) →
      exec (.opticsPutFacets facets) s = .next (s.answer (.opticsPutFacets facets) .range)) ∧
    (∀ chan knots, 3 ≤ chan.toNat → exec (.opticsPutShading chan knots) s = .next (s.answer (.opticsPutShading chan knots) .range)) ∧
    (s.image.state ≠ .idle →
      (∀ source : Byte, source.toNat < 2 → exec (.opticsStage source) s = .next (s.answer (.opticsStage source) .busy)) ∧
      (∀ facets, 6 ≤ facets.length → facets.length ≤ 12 → (∀ x ∈ facets, -64 ≤ x.1.toInt ∧ x.1.toInt ≤ 63) →
        exec (.opticsPutFacets facets) s = .next (s.answer (.opticsPutFacets facets) .busy)) ∧
      (∀ chan knots, chan.toNat < 3 → exec (.opticsPutShading chan knots) s = .next (s.answer (.opticsPutShading chan knots) .busy)) ∧
      exec .opticsDiscard s = .next (s.answer .opticsDiscard .busy) ∧ exec .opticsCommit s = .next (s.answer .opticsCommit .busy)) ∧
    (s.image.state = .idle → s.optics.staging = true →
      (∀ source : Byte, source.toNat < 2 → exec (.opticsStage source) s = .next (s.answer (.opticsStage source) .state)) ∧
      exec .opticsDiscard s = .next (State.answer { s with optics := { s.optics with other := none, staging := false } } .opticsDiscard .ok) ∧
      ∀ c, s.optics.other = some c →
        (∀ facets, 6 ≤ facets.length → facets.length ≤ 12 → (∀ x ∈ facets, -64 ≤ x.1.toInt ∧ x.1.toInt ≤ 63) →
          let put := { c with facets := facets.length, gains := facets.map (·.1.toInt), delays := facets.map (·.2.toInt) }
          exec (.opticsPutFacets facets) s = .next (State.answer { s with optics := { s.optics with other := some put } } (.opticsPutFacets facets) .ok)) ∧
        ∀ chan ch (knots : Vector Byte 65), chanOf chan = some ch →
          ∃ m : Vector Int 65, (∀ z : Fin 65, m[z] = (knots[z]).toInt) ∧
            let put := { c with shading := c.shading.set ch m }
            exec (.opticsPutShading chan knots) s =
              .next (State.answer { s with optics := { s.optics with other := some put } } (.opticsPutShading chan knots) .ok)) ∧
    (s.image.state = .idle → s.optics.staging = false →
      exec .opticsDiscard s = .next (s.answer .opticsDiscard .state) ∧
      (∀ facets, 6 ≤ facets.length → facets.length ≤ 12 → (∀ x ∈ facets, -64 ≤ x.1.toInt ∧ x.1.toInt ≤ 63) →
        exec (.opticsPutFacets facets) s = .next (s.answer (.opticsPutFacets facets) .state)) ∧
      (∀ chan knots, chan.toNat < 3 → exec (.opticsPutShading chan knots) s = .next (s.answer (.opticsPutShading chan knots) .state)) ∧
      ∀ source : Byte, source.toNat < 2 →
        (s.optics.pinned = some s.optics.current.flip → exec (.opticsStage source) s = .next (s.answer (.opticsStage source) .busy)) ∧
        (s.optics.pinned ≠ some s.optics.current.flip →
          let start := if source = 0 then s.optics.cur else Corrections.default
          let set := { start with revision := none }
          exec (.opticsStage source) s =
            .next (State.answer { s with optics := { s.optics with staging := true, other := some set } } (.opticsStage source) .ok
              [if s.optics.current = .a then 1 else 0])))

/-- R57 to R59: OPTICS_COMMIT is refused NOT_READY without staging and BUSY where it would change F in flight; accepted, the staged bank becomes
current with the next revision, and a change of F takes the engine out of LOCKED with LOCK_LOST, or its good revolutions to 0. The bank byte in
the reply is the model's (log entry 21), and so is that the revolution count, the facet counter, the mark and the last exposed facet stand as they
stood over a change of F (log entry 44). -/
def Obligations.OpticsCommitReachesTheEngine : Prop :=
  ∀ s : State, s.image.state = .idle →
    (s.optics.staging = false → exec .opticsCommit s = .next (s.answer .opticsCommit .notReady)) ∧
    ∀ c, s.optics.staging = true → s.optics.other = some c →
      (c.facets ≠ s.optics.cur.facets → s.inFlight = true → exec .opticsCommit s = .next (s.answer .opticsCommit .busy)) ∧
      ∀ n, s.optics.cur.revision = some n →
        let rev := if n = 65535 then 1 else n + 1
        let o : Optics := ⟨s.optics.current.flip, { c with revision := some rev }, some s.optics.cur, false, s.optics.pinned⟩
        let body := be16 (BitVec.ofNat 16 rev) ++ [if o.current = .a then 0 else 1] ++ [BitVec.ofNat 8 c.facets]
        (c.facets = s.optics.cur.facets → exec .opticsCommit s = .next (State.answer { s with optics := o } .opticsCommit .ok body)) ∧
        (c.facets ≠ s.optics.cur.facets → s.inFlight = false →
          (s.engine.state = .stopped → exec .opticsCommit s = .next (State.answer { s with optics := o } .opticsCommit .ok body)) ∧
          (s.engine.state = .acquiring → exec .opticsCommit s =
            .next (State.answer { s with optics := o, engine := { s.engine with good := 0 } } .opticsCommit .ok body)) ∧
          (s.engine.state = .locked → ∃ t : State, exec .opticsCommit s = .next (t.answer .opticsCommit .ok body) ∧ t.optics = o ∧
            t.engine = { s.engine with state := .acquiring, good := 0, window := .none } ∧
            t.drives = ⟨.off, .off, .off⟩ ∧ t.events.flags.getLsbD Event.lockLost.bit = true ∧
            t.profiles = s.profiles ∧ t.setups = s.setups ∧ t.chans = s.chans ∧ t.port = s.port ∧ t.frame.state = s.frame.state))

/-! ## Print setups -/

/-- R67: which fields of SETUP_WRITE are in range, each at its place in the configuration; the request's checks in their order, and an
accepted write, which replaces the configuration and clears the counts and the report. -/
def Obligations.SetupWriteIsChecked : Prop :=
  (∀ f : SetupFields, setupConfigOf f ≠ none ↔
    1 ≤ f.profileId.toNat ∧ f.profileId.toNat ≤ 65534 ∧ f.format.toNat < 2 ∧ 1 ≤ f.srcWidth.toNat ∧ f.srcWidth.toNat ≤ 8192 ∧
    1 ≤ f.srcHeight.toNat ∧ f.srcHeight.toNat ≤ 8192 ∧ f.x0.toNat ≤ f.x1.toNat ∧ f.x1.toNat < f.srcWidth.toNat ∧
    f.y0.toNat ≤ f.y1.toNat ∧ f.y1.toNat < f.srcHeight.toNat ∧ f.mirror.toNat < 2 ∧ f.prescale.toNat ∈ [1, 2, 4, 8] ∧
    1 ≤ f.scaler.toNat ∧ f.scaler.toNat ≤ 32 ∧ f.leftMargin.toNat ≤ 8191 ∧ f.topMargin.toNat ≤ 1023 ∧
    1 ≤ f.stepsPerLine.toNat ∧ f.stepsPerLine.toNat ≤ 16 ∧ 1 ≤ f.stride.toNat ∧ f.stride.toNat ≤ 4 ∧ f.stalePolicy.toNat < 2 ∧
    f.leftMargin.toNat + (f.x1.toNat - f.x0.toNat + 1) ≤ 8192) ∧
  (∀ (f : SetupFields) (c : SetupConfig), setupConfigOf f = some c →
    c = ⟨f.profileId.toNat, if f.format = 0 then .l10 else .l12, f.srcWidth.toNat, f.srcHeight.toNat, f.x0.toNat, f.x1.toNat,
      f.y0.toNat, f.y1.toNat, f.mirror = 1, f.prescale.toNat, f.scaler.toNat, f.leftMargin.toNat, f.topMargin.toNat,
      f.stepsPerLine.toNat, f.stride.toNat, if f.stalePolicy = 0 then .expose else .refuse⟩) ∧
  ∀ (s : State) (slot : Byte) (f : SetupFields),
    (8 ≤ slot.toNat ∨ setupConfigOf f = none → exec (.setupWrite slot f) s = .next (s.answer (.setupWrite slot f) .range)) ∧
    ∀ (i : Fin 8) (c : SetupConfig), slot.toNat = i → setupConfigOf f = some c →
      ((s.setup i).armed = true → exec (.setupWrite slot f) s = .next (s.answer (.setupWrite slot f) .state)) ∧
      ((s.setup i).armed = false →
        exec (.setupWrite slot f) s = .next (State.answer (s.setSetup i ⟨false, c, 0, 0, 0, none⟩) (.setupWrite slot f) .ok))

/-- R68 to R70: SETUP_ARM and SETUP_DISARM take their checks in order, change the state of the setup and the bound setups count of its
profile, and nothing else. -/
def Obligations.SetupArmAndDisarm : Prop :=
  ∀ (s : State) (slot : Byte),
    (8 ≤ slot.toNat → exec (.setupArm slot) s = .next (s.answer (.setupArm slot) .range) ∧ exec (.setupDisarm slot) s = .next (s.answer (.setupDisarm slot) .range)) ∧
    ∀ i : Fin 8, slot.toNat = i →
      let x := s.setup i
      let c := x.config
      let changed (t : State) (armed : Bool) (p q : Profile) : Prop :=
        t = { s with profiles := t.profiles, setups := t.setups } ∧ t.setup i = { x with armed := armed } ∧
        (∀ j, j ≠ i → t.setup j = s.setup j) ∧ t.profile p.id = some q ∧ ∀ j, j ≠ p.id → t.profile j = s.profile j
      (x.armed = true → exec (.setupArm slot) s = .next (s.answer (.setupArm slot) .state)) ∧
      (x.armed = false →
        ((∀ p, s.profile c.profileId = some p → p.state = .retiring) → exec (.setupArm slot) s = .next (s.answer (.setupArm slot) .notFound)) ∧
        ∀ p, s.profile c.profileId = some p →
          (p.state = .draft → exec (.setupArm slot) s = .next (s.answer (.setupArm slot) .notReady)) ∧
          (p.state = .active ∨ p.state = .stale →
            let fits := (c.leftMargin + (c.x1 - c.x0 + 1)) * (c.prescale * c.scaler) + s.engine.config.scanLead + 128 ≤
              s.engine.config.scanSpan
            (¬ fits → exec (.setupArm slot) s = .next (s.answer (.setupArm slot) .window)) ∧
            (fits → ∃ t : State, exec (.setupArm slot) s = .next (t.answer (.setupArm slot) .ok) ∧
              changed t true p { p with bound := p.bound + 1 }))) ∧
      (x.armed = false → exec (.setupDisarm slot) s = .next (s.answer (.setupDisarm slot) .state)) ∧
      (x.armed = true → s.inFlight = true → s.frame.slot = some i → exec (.setupDisarm slot) s = .next (s.answer (.setupDisarm slot) .busy)) ∧
      (x.armed = true → ¬ (s.inFlight = true ∧ s.frame.slot = some i) → ∀ p, s.profile c.profileId = some p →
        ∃ t : State, exec (.setupDisarm slot) s = .next (t.answer (.setupDisarm slot) .ok) ∧ changed t false p { p with bound := p.bound - 1 })

/-! ## The frame cycle -/

/-- R81 to R83, R105, R107: a header or a held FORMAT failure is taken only with no frame in flight and no STEP group; the checks of Table 5-3 in their
order; a header that fails check 1 is a port error charged to no setup, one that fails a later check a refusal charged to its setup.
A header that waited behind the last failure is delivered when that is taken (R83). That failures queue beside a frame in flight is the model's, and
that HEADER_TAKEN and HEADER_FAILURE_TAKEN change nothing where nothing can be taken (log entries 9, 10, 36). -/
def Obligations.HeadersAreCheckedInTheirTurn : Prop :=
  (∀ (s : State) (x : Setup) (h : Header),
    let lit (c : Chan) : Bool := (s.chan c).state = .warming ∨ (s.chan c).state = .ready ∨ (s.chan c).state = .biased
    let checks : List (Bool × Cause) :=
      [(x.armed, .setupIdle),
        (h.format = (if x.config.format = .l10 then 1 else 2) ∧ h.srcWidth = x.config.srcWidth ∧ h.srcHeight = x.config.srcHeight,
          .shape),
        (¬ (s.profile x.config.profileId).any (fun p => p.state = .stale) ∨ x.config.stalePolicy = .expose, .stale),
        (s.transport.roll.any fun r => 1 ≤ r.remaining, .roll),
        (s.transport.xportFault = false ∧ s.transport.advance = none, .xport),
        (s.transport.safeOpen = false, .interlock),
        (lit .red && lit .grn && lit .blu, .channel)]
    headerCause s x h = (checks.find? fun k => !k.1).map Prod.snd) ∧
  ∀ (s : State) (h : Header), s.port.waiting = some h → s.inFlight = false → s.groupBusy = false → s.frame.failures = [] →
    h.slot < 256 →
    let port := { s.port with state := .drain, waiting := none }
    let refused (slot : Option (Fin 8)) (tag : Option Word32) (cause : Cause) : FrameCycle :=
      { s.frame with state := .draining, slot := slot, tag := tag, result := some .refused, cause := some cause, latched := none,
                     endSeen := false }
    (8 ≤ h.slot ∨ h.low ≠ 0 → exec .headerTaken s = .next { s with
      port := { port with errors := min 65535 (s.port.errors + 1) }
      events := (s.raise .portError).events
      frame := refused none none .format }) ∧
    ∀ (i : Fin 8) (cause : Cause), h.slot = i → h.low = 0 → headerCause s (s.setup i) h = some cause →
      let charged := { s.setup i with
        refused := min 4294967295 ((s.setup i).refused + 1)
        report := some ⟨h.tag, .refused, some cause, none, none, none, 0, 0, 0, 0, false⟩ }
      exec .headerTaken s = .next { s with port := port, setups := s.setups.set i charged, frame := refused (some i) (some h.tag) cause } ∧
  (∀ s : State,
      (s.port.waiting = none ∨ s.inFlight = true ∨ s.groupBusy = true ∨ s.frame.failures ≠ [] → exec .headerTaken s = .next s) ∧
      (s.frame.failures = [] ∨ s.inFlight = true ∨ s.groupBusy = true → exec .headerFailureTaken s = .next s) ∧
      ∀ ended rest, s.frame.failures = ended :: rest → s.inFlight = false → s.groupBusy = false →
        exec .headerFailureTaken s = .next { s with frame := { s.frame with
          failures := rest, state := if ended || (rest.isEmpty && s.port.waiting.isSome) then .idle else .draining, slot := none, tag := none, result := some .refused
          cause := some .format, latched := none, endSeen := false } })

/-- R16, R61, R84, R105, R147, R152: a header that passes every check is latched in one step: both pins, the PULL with its accounting, the
woken channels, the frame record in SEATING, the port at line 0; every other part of the machine is as it was.
The count of PULL pulses put out is the model's observation (log entry 41). -/
def Obligations.HeaderIsLatched : Prop :=
  ∀ (s : State) (h : Header) (i : Fin 8) (p : Profile) (a : Calibration) (n m : Nat) (r : Roll),
    s.port.waiting = some h → s.inFlight = false → s.groupBusy = false → s.frame.failures = [] → h.slot = i → h.low = 0 →
    headerCause s (s.setup i) h = none → s.profile (s.setup i).config.profileId = some p → p.activeCal = some a →
    a.revision = some n → s.optics.cur.revision = some m → s.transport.roll = some r →
    ∃ t : State, exec .headerTaken s = .next t ∧
      t.frame = { s.frame with
        state := .seating, slot := some i, tag := some h.tag, result := none, cause := none
        latched := some ⟨(s.setup i).config.profileId, n, m, p.state = .stale, 0, 0, 0, 0⟩
        startTimer := 0, margin := .no, stride := 0, lineWait := 0, endSeen := false } ∧
      t.profile p.id = some { p with pinned := p.active } ∧ (∀ j, j ≠ p.id → t.profile j = s.profile j) ∧
      t.optics = { s.optics with pinned := some s.optics.current } ∧
      t.transport = { s.transport with roll := some { r with remaining := r.remaining - 1, pulls := r.pulls + 1 } } ∧
      t.outputs = { s.outputs with pulls := s.outputs.pulls + 1 } ∧
      (∀ k, t.events.flags.getLsbD k = (s.events.flags.getLsbD k || (decide (k = 10) && decide (r.remaining - 1 = r.lowMark)) ||
        (decide (k = 11) && decide (r.remaining - 1 = 0)))) ∧
      (∀ c, let d := if (s.chan c).capture then { s.chan c with capture := false, lastCapture := .dropped } else s.chan c
        t.chan c = if d.state = .biased then
          { d with state := .warming, target := d.config.rewakeCount, stableRun := 0, first := true, warmTimer := 0 } else d) ∧
      t.port = { s.port with
        state := .betweenLines, waiting := none, format := (s.setup i).config.format, srcWidth := h.srcWidth, srcHeight := h.srcHeight
        expected := 0, received := 0, wordCount := 0, settled := false } ∧
      t.setups = s.setups ∧ t.engine = s.engine ∧ t.line = s.line ∧ t.drives = s.drives ∧ t.idle = s.idle ∧ t.link = s.link ∧
      t.image = s.image ∧ t.flash = s.flash ∧ t.pending = s.pending

/-- R94, R95: FRAME_CANCEL, SEATED_FALL, XPORT_FAULT_ASSERTED, SAFE_OPEN, CHANNEL_OFF, WARM_TIMEOUT, START_TIMEOUT, LINE_WAIT_LIMIT_PASSED and
STALL, each in the states of Table 5-4, spoil the frame in flight with their cause; the other spoil events are in SoftResetCompletes,
FramingErrorsEndTheFrame, LockedFacetLosesLock, IndexJudgesTheRevolution, WarmingAndZeroReadings, DriftSampleIsFiltered and TickAdvancesTheTimers.
That a timer's row of the table is the passing itself, and that a row for a change of level acts whatever the level held, is the model's (log
entries 8, 31). -/
def Obligations.SpoilEventsEndTheFrame : Prop :=
  ∀ s : State, RecordsSound s → StepSound s → s.inFlight = true →
    (∃ t : State, exec .frameCancel s = .next (t.answer .frameCancel .ok) ∧ Spoiled s t .cancel false) ∧
    (s.frame.state = .readying ∨ s.frame.state = .exposing →
      ∃ t : State, exec .seatedFall s = .next t ∧ t.transport.seated = false ∧ Spoiled s t .gate false) ∧
    (∃ t : State, exec .xportFaultAsserted s = .next t ∧ t.transport.xportFault = true ∧ t.events.flags.getLsbD 8 = true ∧
      Spoiled s t .xport false) ∧
    (∃ t : State, exec .safeOpen s = .next t ∧ t.transport.safeOpen = true ∧ t.events.flags.getLsbD 6 = true ∧
      Spoiled s t .interlock false) ∧
    (∀ chan c, chanOf chan = some c → (s.chan c).state.lit = true →
      ∃ t : State, exec (.channelOff chan) s = .next (t.answer (.channelOff chan) .ok) ∧ (t.chan c).state = .dark ∧ Spoiled s t .channel false) ∧
    (∀ c, (s.chan c).state = .warming →
      ∃ t : State, exec (.warmTimeout c) s = .next t ∧ (t.chan c).faultCause = some .warmTimeout ∧ Spoiled s t .channel false) ∧
    (s.frame.state = .seating ∨ s.frame.state = .readying →
      ∃ t : State, exec .startTimeout s = .next t ∧ Spoiled s t .startTimeout false) ∧
    (s.frame.state = .exposing → (∀ n, (s.port.buf n).state = .empty ∨ (s.port.buf n).state = .filling) →
      ∃ t : State, exec .lineWaitLimitPassed s = .next t ∧ Spoiled s t .starve false) ∧
    (s.frame.state = .exposing → s.engine.state = .locked →
      ∃ t : State, exec .stall s = .next t ∧ t.engine.state = .stopped ∧ t.events.flags.getLsbD 4 = true ∧ Spoiled s t .sync false)

/-- R18, R23, R24, R44, R61, R76, R85, R90, R92, R110, R112: a completed line is counted with its clamps and its group is pending; the completion
of window line y1 settles the frame EXPOSED in one step, with the pins returned, the profile aged, the charge, FRAME_DONE and the port's buffers.
LINE_COMPLETE lies at the end of the last slot, O + W slot lengths after the FACET (R125); a tick that falls before it comes first. That the row
passes the periods up to that moment, that the clamp counts are formed there, and that LINE_COMPLETE without a line changes nothing, is the
model's (log entries 13, 36, 45). -/
def Obligations.LinesCompleteAndSettleTheFrame : Prop :=
  (∀ s : State, s.line = none → exec .lineComplete s = .next s) ∧
  (∀ (s t : State) (x : LineContext), s.line = some x →
    let n := toMoment s (x.start + x.width * x.slotLength)
    (toTick s = n → exec .lineComplete s = exec .millisecondTick s) ∧
    (toTick s ≤ n → exec .millisecondTick s = .next t → t.line = s.line → exec .lineComplete s = exec .lineComplete t)) ∧
  (∀ (s : State) (x : LineContext) (l : Latched) (i : Fin 8), s.line = some x → s.frame.latched = some l → s.frame.slot = some i →
    let n := toMoment s (x.start + x.width * x.slotLength)
    n < toTick s → (∀ k line, s.engine.window = .scheduled k line → n < toMoment s s.engine.config.scanSpan) →
    l.lines < 8192 → l.lines + 1 ≠ (s.setup i).config.y1 - (s.setup i).config.y0 + 1 → s.engine.window.carriesLine = true →
    exec .lineComplete s = .next { s with
      line := none
      engine := s.engine.later n
      drives := ⟨.off, .off, .off⟩
      port := s.port.setBuf x.buffer ⟨.empty, 0, []⟩
      frame := { s.frame with
        latched := some { l with
          lines := l.lines + 1
          low := min 4294967295 (l.low + (x.low + (lineCounts s x).1))
          high := min 4294967295 (l.high + (x.high + (lineCounts s x).2)) }
        pendingGroup := some (s.setup i).config.stepsPerLine } }) ∧
  (∀ (s : State) (x : LineContext) (l : Latched) (i : Fin 8) (tag : Word32) (p : Profile),
      RecordsSound s → s.line = some x → s.frame.latched = some l → s.frame.slot = some i → s.frame.tag = some tag →
      s.profile l.profileId = some p → l.lines < 8192 →
      let n := toMoment s (x.start + x.width * x.slotLength)
      n < toTick s → (∀ k line, s.engine.window = .scheduled k line → n < toMoment s s.engine.config.scanSpan) →
      l.lines + 1 = (s.setup i).config.y1 - (s.setup i).config.y0 + 1 → s.engine.window.carriesLine = true →
      let low := min 4294967295 (l.low + (x.low + (lineCounts s x).1))
      let high := min 4294967295 (l.high + (x.high + (lineCounts s x).2))
      let frames := min 65535 (p.frames + 1)
      let turns := p.pinned = p.active ∧ p.state = .active ∧ ∃ a, p.activeCal = some a ∧ a.life ≠ 0 ∧ a.life ≤ frames
      ∃ t : State, exec .lineComplete s = .next t ∧
        t.frame.state = (if s.frame.endSeen then .idle else .draining) ∧ t.frame.result = some .exposed ∧ t.frame.cause = none ∧
        t.frame.latched = some { l with lines := l.lines + 1, low := low, high := high } ∧
        t.frame.pendingGroup = some (s.setup i).config.stepsPerLine ∧
        t.setup i = { s.setup i with
          exposed := min 4294967295 ((s.setup i).exposed + 1)
          report := some ⟨tag, .exposed, none, some l.profileId, some l.profileRev, some l.opticsRev, l.lines + 1, l.starved, low, high,
            l.stale⟩ } ∧ (∀ j, j ≠ i → t.setup j = s.setup j) ∧
        t.optics = { s.optics with pinned := none } ∧ (∀ j, j ≠ l.profileId → t.profile j = s.profile j) ∧
        (p.state = .retiring → t.profile l.profileId = none) ∧
        (p.state ≠ .retiring → p.pinned ≠ p.active → t.profile l.profileId = some { p with pinned := none }) ∧
        (p.state ≠ .retiring → p.pinned = p.active →
          (turns → t.profile l.profileId = some { p with pinned := none, frames := frames, state := .stale }) ∧
          (¬ turns → t.profile l.profileId = some { p with pinned := none, frames := frames })) ∧
        t.events.flags.getLsbD 0 = true ∧ t.events.flags.getLsbD 1 = (s.events.flags.getLsbD 1 || @decide turns (Classical.dec _)) ∧
        t.port.buf0 = ⟨.empty, 0, []⟩ ∧ t.port.buf1 = ⟨.empty, 0, []⟩ ∧ t.port.settled = true ∧ t.port.state = s.port.state ∧
        t.line = none ∧ t.drives = ⟨.off, .off, .off⟩ ∧ t.engine = s.engine.later n ∧ t.chans = s.chans ∧ t.transport = s.transport ∧
        t.idle = { s.idle with seconds := 0, millis := 0 })

/-- R86 to R89, R153, R159: the rise of SEATED takes a SEATING frame to READYING or at once to EXPOSING, where its margin group begins; the end of
a STEP group issues its pulses, resets the stride count in EXPOSING, and lets a roll advance that waited for it pull. That a group's pulses are
counted at its end, that STEP_GROUP_END without a group changes nothing, that pulls put out are counted and that the pull comes before a header
that waited is taken is the model's (log entries 12, 36, 41, 49). -/
def Obligations.SeatingAndStepGroups : Prop :=
  (∀ s : State,
      let seated := { s.transport with seated := true }
      let ready := (∀ c, (s.chan c).state = .ready) ∧ s.engine.state = .locked
      (s.frame.state = .seating → ¬ ready →
        exec .seatedRise s = .next { s with transport := seated, frame := { s.frame with state := .readying } }) ∧
      (∀ i, s.frame.state = .seating → ready → s.frame.slot = some i →
        let pulses := (s.setup i).config.topMargin * (s.setup i).config.stepsPerLine
        let frame := { s.frame with state := .exposing, margin := .underWay, stride := 0, lineWait := 0 }
        (pulses ≠ 0 → exec .seatedRise s =
          .next { s with transport := { seated with group := some ⟨.margin, pulses⟩ }, frame := frame }) ∧
        (pulses = 0 → s.transport.advance = none →
          exec .seatedRise s = .next { s with transport := seated, frame := { frame with margin := .done } })) ∧
      (s.frame.state ≠ .seating → s.transport.advance = none → exec .seatedRise s = .next { s with transport := seated })) ∧
  (∀ s : State, s.transport.group = none → exec .stepGroupEnd s = .next s) ∧
  ∀ (s : State) (g : StepGroup), s.transport.group = some g →
    let frame := if s.frame.state = .exposing then
        (if g.kind = .margin then { s.frame with margin := .done, stride := 0 } else { s.frame with stride := 0 })
      else s.frame
    let outputs := { s.outputs with steps := s.outputs.steps + g.pulses }
    ((∀ a, s.transport.advance = some a → a.pull = .seating) →
      exec .stepGroupEnd s = .next { s with transport := { s.transport with group := none }, outputs := outputs, frame := frame }) ∧
    (∀ n limit r, s.transport.advance = some ⟨n, .waitingGroup, limit⟩ → s.transport.roll = some r →
      ∃ t : State, exec .stepGroupEnd s = .next t ∧ t.frame = frame ∧
        t.transport = { s.transport with
          group := none
          roll := some { r with remaining := r.remaining - 1, pulls := r.pulls + 1 }
          advance := some ⟨n - 1, .seating, s.frame.startTimeout⟩
          pullTimer := 0 } ∧
        t.outputs = { outputs with pulls := s.outputs.pulls + 1 })

/-- R96, R98, R116: FRAME_CANCEL without a frame in flight, FRAME_CONFIGURE and PORT_CONFIGURE with their checks.
That the new lane count stands from the port's answer on is the model's (log entry 50). -/
def Obligations.FrameAndPortAreConfigured : Prop :=
  ∀ s : State,
    (s.inFlight = false → exec .frameCancel s = .next (s.answer .frameCancel .state)) ∧
    exec (.frameConfigure 0) s = .next (s.answer (.frameConfigure 0) .range) ∧
    (∀ v : BitVec 16, v ≠ 0 → (s.inFlight = true → exec (.frameConfigure v) s = .next (s.answer (.frameConfigure v) .busy)) ∧
      (s.inFlight = false → exec (.frameConfigure v) s =
        .next (State.answer { s with frame := { s.frame with startTimeout := v.toNat } } (.frameConfigure v) .ok))) ∧
    ∀ (lanes : Byte) (v : BitVec 16),
      (lanes.toNat ∉ [1, 2, 4] ∨ v = 0 → exec (.portConfigure lanes v) s = .next (s.answer (.portConfigure lanes v) .range)) ∧
      (lanes.toNat ∈ [1, 2, 4] → v ≠ 0 → (s.inFlight = true → exec (.portConfigure lanes v) s = .next (s.answer (.portConfigure lanes v) .busy)) ∧
        (s.inFlight = false → exec (.portConfigure lanes v) s =
          .next (State.answer { s with port := { s.port with lanes := lanes.toNat, lineWaitLimit := v.toNat } } (.portConfigure lanes v) .ok)))

/-! ## The pixel port -/

/-- R93, R104, R108, R117: every word in WAIT_FRAME and in DRAIN: a FRAME_START opens a header, a FRAME_END ends a drain, the other words are
strays (one PORT_ERROR for a run) or are discarded; a word that was under way at a reset is not taken.
That a word names how it began is the model's (log entry 5). -/
def Obligations.WordsOutsideAFrame : Prop :=
  ∀ (s : State) (start : WordStart) (n w : Word32) (tag : BitVec 2),
    (∀ c ∈ wordsBegun .beforeReset n w tag, exec c s = .next s) ∧
    (start ≠ .beforeReset → s.port.state = .waitFrame →
      exec (.frameStart start) s = .next { s with port := { s.port with state := .header, words := [], strayRun := false } } ∧
      ∀ c ∈ [Instr.lineStart start n, .dataWord start w, .frameEnd start, .undefinedTagWord start tag],
        exec c s = .next { s with
          port := { s.port with strays := min 65535 (s.port.strays + 1), strayRun := true }
          events := if s.port.strayRun then s.events else (s.raise .portError).events }) ∧
    (start ≠ .beforeReset → s.port.state = .drain →
      exec (.frameStart start) s = .next { s with port := { s.port with state := .header, words := [] } } ∧
      exec (.frameEnd start) s = .next { s with port := { s.port with state := .waitFrame }, frame := s.frame.ended } ∧
      ∀ c ∈ [Instr.lineStart start n, .dataWord start w, .undefinedTagWord start tag], exec c s = .next s)

/-- R83, R93, R101, R105, R106, R113: the three header words, the fields that the third makes the waiting header, and the drain that its delivery ends;
LINE_START and FRAME_END at their places in an accepted frame; READY deasserted exactly while one of its three conditions holds.
The header's sixth component, the low half of word 0, and that a word names how it began are the model's (log entries 5, 29). -/
def Obligations.WordsOfAFrame : Prop :=
  (∀ (s : State) (w : Word32), s.port.state = .header → s.port.waiting = none →
      (s.port.words.length ≠ 2 →
        exec (.dataWord .ready w) s = .next { s with port := { s.port with words := w :: s.port.words } }) ∧
      ∀ w0 w1 : Word32, s.port.words = [w1, w0] →
        let port := { s.port with
          words := []
          waiting := some ⟨w0.toNat / 2 ^ 24, w0.toNat / 2 ^ 16 % 256, w1.toNat / 2 ^ 16, w1.toNat % 2 ^ 16, w, w0.toNat % 2 ^ 16⟩ }
        (s.frame.state = .draining ∧ s.frame.failures = [] → exec (.dataWord .ready w) s =
          .next { s with port := port, frame := { s.frame with state := .idle, endSeen := false } }) ∧
        (s.frame.state ≠ .draining ∨ s.frame.failures ≠ [] → exec (.dataWord .ready w) s = .next { s with port := port })) ∧
  (∀ (s : State) (n : Word32), s.port.state = .betweenLines → s.ready = true →
      (n.toNat = s.port.expected → s.port.received < s.port.srcHeight →
        exec (.lineStart .ready n) s = .next { s with port := { s.port with state := .inLine, wordCount := 0 } }) ∧
      (s.port.received = s.port.srcHeight →
        exec (.frameEnd .ready) s = .next { s with port := { s.port with state := .waitFrame }, frame := s.frame.ended })) ∧
  (∀ s : State, s.ready = false ↔
      (∃ i, s.port.state = .inLine ∧ s.port.settled = false ∧ s.frame.slot = some i ∧
        carriesWindow (s.setup i).config s.port.format s.port.expected s.port.wordCount = true ∧
        (s.port.buf (s.port.expected - (s.setup i).config.y0)).state ∈ [BufferState.full, .exposing]) ∨
      (s.frame.state ∈ [FrameState.seating, .readying] ∧ s.port.state ∈ [PortState.betweenLines, .inLine] ∧
        s.port.buf0.state = .full ∧ s.port.buf1.state = .full) ∨
      s.port.waiting ≠ none)

/-- R101: the eight pixels of an L12 group are the eight runs of 36 bits of its nine words, R, G and B of 12 bits each; the pixel of an L10
word widens its three runs of 10 bits (R29). -/
def Obligations.PixelsAreUnpacked : Prop :=
  (∀ (w : Fin 9 → Word32) (i : Fin 8),
    let group : Nat := (List.ofFn w).foldl (fun n x => n * 2 ^ 32 + x.toNat) 0
    let bits := group / 2 ^ (252 - 36 * i.val)
    pixelL12 (w i.castSucc) (w i.succ) (i + 1) = ⟨bits / 2 ^ 24 % 4096, bits / 2 ^ 12 % 4096, bits % 4096⟩) ∧
  ∀ w : Word32, pixelL10 w =
    ⟨4 * (w.toNat / 2 ^ 22) + w.toNat / 2 ^ 22 / 256, 4 * (w.toNat / 2 ^ 12 % 1024) + w.toNat / 2 ^ 12 % 1024 / 256,
      4 * (w.toNat / 2 ^ 2 % 1024) + w.toNat / 2 ^ 2 % 1024 / 256⟩

/-- R72, R102, R106, R110, R111: the data words of a whole window line, taken one after another, leave its buffer FULL with the window's
columns in exposure order (reversed with mirror on), in both formats; the other buffer is as it was.
That a word names how it began is the model's (log entry 5). -/
def Obligations.LineFillsItsBuffer : Prop :=
  ∀ (s : State) (i : Fin 8) (words : List Word32),
    let c := (s.setup i).config
    let p := s.port
    let y := p.expected
    p.state = .inLine → p.wordCount = 0 → p.waiting = none → p.settled = false → s.frame.slot = some i →
    c.y0 ≤ y → y ≤ c.y1 → c.x0 ≤ c.x1 → c.x1 < p.srcWidth → (p.buf (y - c.y0)).state = .empty →
    words.length = lineWords p.format p.srcWidth →
    let columns := (List.range' c.x0 (c.x1 - c.x0 + 1)).map (sourcePixel p.format words)
    ∃ t : State, runAll (words.map (.dataWord .ready)) s = .next t ∧
      t.port.buf (y - c.y0) = ⟨.full, y, if c.mirror then columns.reverse else columns⟩ ∧
      t.port.buf (y - c.y0 + 1) = p.buf (y - c.y0 + 1) ∧ t.port.state = .betweenLines ∧ t.port.received = p.received + 1 ∧
      t.port.expected = y + 1 ∧ t.frame = { s.frame with lineWait := 0 } ∧
      t = { s with port := t.port, frame := t.frame }

/-- R82, R107, R114: a framing error, an overrun included, counts one port error and raises PORT_ERROR; a header fails with cause FORMAT, now or
held; a frame in flight is spoiled with cause FORMAT; a settled frame stands; the port goes to the state the word chooses.
That a word names how it began, so that one is an overrun where it or the state says READY was deasserted, and that failures queue is the model's
(log entries 5, 10). -/
def Obligations.FramingErrorsEndTheFrame : Prop :=
  ∀ (s : State) (c : Instr) (next : PortState) (ended : Bool), RecordsSound s → StepSound s →
    (s.ready = true ∧ framingWord s.port c = some (next, ended)) ∨
      (s.port.state ∈ [.header, .betweenLines, .inLine] ∧ next = .drain ∧ ended = false ∧
        ∃ n w tag, c ∈ wordsBegun .notReady n w tag ∨ s.ready = false ∧ c ∈ wordsBegun .ready n w tag) →
    ∃ t : State, exec c s = .next t ∧ t.port.errors = min 65535 (s.port.errors + 1) ∧ t.port.strays = s.port.strays ∧
      t.events.flags.getLsbD 12 = true ∧ t.port.state = next ∧
      (s.port.state = .header → t.port.waiting = none ∧ t.port.words = [] ∧ t.setups = s.setups ∧ t.profiles = s.profiles ∧
        (s.inFlight = false ∧ s.groupBusy = false ∧ s.frame.failures = [] → t.frame = { s.frame with
          state := if ended then .idle else .draining, slot := none, tag := none, result := some .refused, cause := some .format
          latched := none, endSeen := false }) ∧
        (s.inFlight = true ∨ s.groupBusy = true ∨ s.frame.failures ≠ [] →
          t.frame = { s.frame with failures := s.frame.failures ++ [ended] })) ∧
      (s.port.state ≠ .header → s.port.settled = false → s.inFlight = true → Spoiled s t .format ended) ∧
      (s.port.state ≠ .header → s.port.settled = true → t.frame = (if ended then s.frame.ended else s.frame) ∧
        t.setups = s.setups ∧ t.profiles = s.profiles ∧ t.port.buf0 = s.port.buf0 ∧ t.port.buf1 = s.port.buf1)

/-- R100, R116, R117, R163, R166, R168: the lanes and the link below the commands. The 36 bits of a tag and a payload on the lanes, the earliest
on PX_LANE0, queue the command of the tag, at the lane count in force at the first bit, with READY as it stood there; a period with PX_LANE0 low
between words changes nothing; a word under way at a soft reset is discarded, and after it no word begins until every lane in use has been low.
The bytes of a transaction cross the link most significant bit first, and the cut bits of a last byte are dropped; a transaction notes at the fall
of CL_CS whether the link is PROCESSING. That a word or a transaction received is queued, that a discarded word runs on to its end, and that the
port's answer is the reply from which a new lane count is in force, is the model's (log entries 38, 47, 50, 52). -/
def Obligations.LanesAndLinkCarryTheCommands : Prop :=
  (∀ (start : WordStart) (w : BitVec 36),
    let tag := w.toNat / 2 ^ 32
    let payload := BitVec.ofNat 32 w.toNat
    commandOfWord start w =
      if tag < 8 then none else if tag = 8 then some (.dataWord start payload) else if tag = 9 then some (.frameStart start)
      else if tag = 10 then some (.lineStart start payload) else if tag = 11 then some (.frameEnd start)
      else some (.undefinedTagWord start (BitVec.ofNat 2 tag))) ∧
  (∀ (s : State) (periods : List (BitVec 4)) (w : BitVec 36) (u : WordUnderWay) (n : Nat), u.lanes ∈ [1, 2, 4] →
    u.bits = (List.range n).map (fun i => w.getLsbD (35 - i)) →
    (s.port.underWay = some u ∨
      s.port.underWay = none ∧ s.port.awaitLow = false ∧ n = 0 ∧ w.getLsbD 35 = true ∧ u.lanes = s.port.lanes ∧
        u.start = (if s.ready then .ready else .notReady)) →
    periods ≠ [] → n + u.lanes * periods.length = 36 →
    (∀ i j, i < periods.length → j < u.lanes → (periods.getD i 0).getLsbD j = w.getLsbD (35 - (n + u.lanes * i + j))) →
    periods.foldl State.pxPeriod s = { s with
      port := { s.port with underWay := none, awaitLow := u.start == .beforeReset }
      pending := s.pending ++ (commandOfWord u.start w).toList }) ∧
  (∀ (s : State) (period : BitVec 4), s.port.underWay = none →
    (s.port.awaitLow = false → period.getLsbD 0 = false → s.pxPeriod period = s) ∧
    (s.port.awaitLow = true → (∀ k, k < s.port.lanes → period.getLsbD k = false) →
      s.pxPeriod period = { s with port := { s.port with awaitLow := false } }) ∧
    (s.port.awaitLow = true → (∃ k, k < s.port.lanes ∧ period.getLsbD k = true) → s.pxPeriod period = s)) ∧
  (∀ s t : State, exec .softReset s = .next t → t.port.awaitLow = s.port.awaitLow ∧
    (∀ u, s.port.underWay = some u → t.port.underWay = some { u with start := .beforeReset }) ∧
    (s.port.underWay = none → t.port.underWay = none)) ∧
  (∀ (s t : State) (lanes : Byte) (limit : BitVec 16), exec (.portConfigure lanes limit) s = .next t →
    t.port.underWay = s.port.underWay ∧ t.port.awaitLow = s.port.awaitLow) ∧
  (∀ s : State, s.csFall = { s with link := { s.link with begun := some s.link.processing } }) ∧
  (∀ (s : State) (began : Bool) (bytes : List Byte) (cut : List Bool), s.link.begun = some began → cut.length < 8 →
    let bits := bytes.flatMap fun b => [7, 6, 5, 4, 3, 2, 1, 0].map b.getLsbD
    s.csRise (bits ++ cut) = { s with link := { s.link with begun := none }, pending := s.pending ++
      [if bytes.head? = some 0 then .readTransaction ⟨began, bytes.length⟩ else .requestTransaction bytes] } ∧
    (s.outputs.sdo = bytes → s.sdoBits = bits))

/-! ## The scan engine -/

/-- R119 to R121, R124, R129: the periods within tolerance; a FACET whose periods complete a millisecond, end a line or come to a window's opening
is that and a FACET of the periods left; one among whose periods nothing falls, in STOPPED and in ACQUIRING without a window: the period captured
and judged, the facet numbered, the mark and the good revolutions, the sample phase; nothing but the engine record changes. That a FACET carries
the REFCLK periods since the one before, counted in both counts, is the model's (log entries 2, 45). -/
def Obligations.FacetBeforeLock : Prop :=
  (∀ (c : EngineConfig) (p : Nat), c.within p = true ↔
    1 ≤ p ∧ p < 2 ^ 24 - 1 ∧ ((p : Int) - c.nominal).natAbs * 256 ≤ c.tolerance * c.nominal) ∧
  (∀ (s t : State) (periods : Nat),
    (toTick s ≤ periods → exec .millisecondTick s = .next t → exec (.facet periods) s = exec (.facet (periods - toTick s)) t) ∧
    (∀ x, s.line = some x → let n := toMoment s (x.start + x.width * x.slotLength)
      n ≤ periods → exec .lineComplete s = .next t → exec (.facet periods) s = exec (.facet (periods - n)) t) ∧
    (∀ k line, s.engine.window = .scheduled k line → s.engine.state = .locked → let n := toMoment s s.engine.config.scanSpan
      n ≤ periods → exec .monitorWindowOpen s = .next t → exec (.facet periods) s = exec (.facet (periods - n)) t)) ∧
  ∀ (s : State) (periods : Nat), s.engine.window = .none → Quiet s periods →
    let e := { s.engine with msCount := s.engine.msCount + periods, samplePhase := (s.engine.samplePhase + 1) % 128 }
    let p := min (2 ^ 24 - 1) (s.engine.periodCount + periods)
    let f := s.optics.cur.facets
    (s.engine.state = .stopped → exec (.facet periods) s = .next { s with engine := { e with
      state := .acquiring, revCount := none, facet := none, mark := .none, good := 0, facetTimer := 0, periodCount := 0 } }) ∧
    (s.engine.state = .acquiring →
      let captured := { e with lastPeriod := p, periodCount := 0, facetTimer := 0 }
      (s.engine.revCount = none → exec (.facet periods) s = .next { s with engine := captured }) ∧
      ∀ m, s.engine.revCount = some m →
        let n := min 255 (m + 1)
        let numbered := { captured with revCount := some n, facet := if n ≤ f then some (n - 1) else none }
        (s.engine.config.within p = true → n ≤ f → exec (.facet periods) s = .next { s with engine := numbered }) ∧
        (s.engine.config.within p = false ∨ f < n →
          exec (.facet periods) s = .next { s with engine := { numbered with mark := .bad, good := 0 } }))

/-- R122, R123: a FACET in LOCKED that is out of tolerance or the (F+1)-th loses lock once: the engine record, LOCK_LOST, every drive off, no window;
a frame in EXPOSING is spoiled with cause SYNC and any other frame waits.
That a FACET carries the REFCLK periods since the one before, here with nothing else falling on them, is the model's (log entry 2). -/
def Obligations.LockedFacetLosesLock : Prop :=
  ∀ (s : State) (periods m : Nat), RecordsSound s → StepSound s → s.engine.state = .locked → s.engine.revCount = some m →
    let p := min (2 ^ 24 - 1) (s.engine.periodCount + periods)
    let n := min 255 (m + 1)
    Quiet s periods → s.engine.config.within p = false ∨ s.optics.cur.facets ≤ m →
    ∃ t : State, exec (.facet periods) s = .next t ∧
      t.engine = { s.engine with
        state := .acquiring, msCount := s.engine.msCount + periods, samplePhase := (s.engine.samplePhase + 1) % 128, lastPeriod := p, periodCount := 0, facetTimer := 0
        revCount := some n, facet := if n ≤ s.optics.cur.facets then some (n - 1) else none, mark := .bad, good := 0
        window := .none } ∧
      t.events.flags.getLsbD 4 = true ∧ t.drives = ⟨.off, .off, .off⟩ ∧ t.chans = s.chans ∧
      (s.frame.state = .exposing → Spoiled s t .sync false) ∧
      (s.frame.state ≠ .exposing → t.frame.state = s.frame.state ∧ t.setups = s.setups ∧ t.profiles = s.profiles ∧ t.port = s.port)

/-- R36, R42, R85, R89, R90, R122, R124, R125, R128: a FACET abandons a window in progress, and the line group that waited for it begins before it
is taken. A locked facet m, no window being in progress, may schedule an idle sample without a frame in flight; in flight it is not counted,
passes by stride, is starved, or carries the next window line, whose context (its clamp counts at 0), drives and monitor window it sets; nothing
else changes. That a FACET carries the REFCLK periods since the one before, here with nothing else falling on them, is the model's (log entry 2). -/
def Obligations.LockedFacetServesTheFrame : Prop :=
  (∀ (s : State) (periods : Nat), s.engine.window ≠ .none → Quiet s periods →
    let off (c : Chan) : Drive := match s.engine.window with
      | .opened _ _ toRead => if c ∈ toRead then .off else s.drives.get c
      | _ => s.drives.get c
    let abandoned := { s with engine := { s.engine with window := .none }, drives := ⟨off .red, off .grn, off .blu⟩ }
    (s.engine.window.carriesLine = false ∨ s.frame.pendingGroup = none → exec (.facet periods) s = exec (.facet periods) abandoned) ∧
    ∀ n, s.engine.window.carriesLine = true → s.frame.pendingGroup = some n → n ≠ 0 →
      exec (.facet periods) s = exec (.facet periods) { abandoned with
        frame := { s.frame with pendingGroup := none }, transport := { s.transport with group := some ⟨.line, n⟩ } }) ∧
  ∀ (s : State) (periods m : Nat), s.engine.state = .locked → s.engine.revCount = some m → m < s.optics.cur.facets → m < 255 →
    Quiet s periods →
    let period := min (2 ^ 24 - 1) (s.engine.periodCount + periods)
    s.engine.config.within period = true →
    let e := { s.engine with
      msCount := s.engine.msCount + periods, samplePhase := (s.engine.samplePhase + 1) % 128, lastPeriod := period, periodCount := 0
      facetTimer := 0, revCount := some (m + 1), facet := some m }
    let idleWindow := if s.engine.samplePhase % 2 ^ s.engine.config.sampleExp = 0 then Window.scheduled m false else .none
    (s.inFlight = false → s.engine.window = .none → exec (.facet periods) s = .next { s with engine := { e with window := idleWindow } }) ∧
    (∀ (l : Latched) (i : Fin 8) (c : Corrections) (p : Profile) (bank : Bank), LaserSafe s → s.engine.window = .none →
      s.frame.latched = some l → s.frame.slot = some i → s.optics.pinnedSet = some c →
      s.profile l.profileId = some p → p.pinned = some bank →
      let x := (s.setup i).config
      let counted := s.frame.state = .exposing ∧ s.frame.margin = .done ∧ s.line = none ∧ s.groupBusy = false
      let stride := min 4 (s.frame.stride + 1)
      (¬ counted → exec (.facet periods) s = .next { s with engine := { e with window := idleWindow } }) ∧
      (counted → stride < x.stride → exec (.facet periods) s =
        .next { s with engine := { e with window := idleWindow }, frame := { s.frame with stride := stride } }) ∧
      (counted → x.stride ≤ stride → s.port.buf0.state ≠ .full → s.port.buf1.state ≠ .full →
        exec (.facet periods) s = .next { s with
          engine := { e with window := idleWindow }
          frame := { s.frame with stride := stride, latched := some { l with starved := min 4294967295 (l.starved + 1) } } }) ∧
      (counted → x.stride ≤ stride → (s.port.buf l.lines).state = .full →
        exec (.facet periods) s = .next { s with
          engine := { e with window := .scheduled m true, lastExposed := some m }
          frame := { s.frame with stride := stride }
          port := s.port.setBuf l.lines { s.port.buf l.lines with state := .exposing }
          drives := ⟨.slots, .slots, .slots⟩
          line := some
            ⟨l.profileId, bank, s.optics.pinned.getD s.optics.current, m, c.gains.getD m 0,
              ⟨s.chans.red.drift, s.chans.grn.drift, s.chans.blu.drift⟩, x.leftMargin, x.x1 - x.x0 + 1, l.lines % 2,
              (max 0 ((s.engine.config.scanLead : Int) + c.delays.getD m 0 + x.leftMargin * (x.prescale * x.scaler : Nat))).toNat,
              x.prescale * x.scaler, 0, 0⟩ }))

/-- R120 to R122: an INDEX in each engine state: no effect in STOPPED; the revolution judged in ACQUIRING, with LOCK_GAINED at the second good one
in a row, which a READYING frame takes as its readiness only with every channel READY (R87); in LOCKED, the revolution count restarted where it
equals F. -/
def Obligations.IndexJudgesTheRevolution : Prop :=
  ∀ s : State,
    let e := s.engine
    let f := s.optics.cur.facets
    let good := e.mark = .good ∧ e.revCount = some f
    (e.state = .stopped → exec .index s = .next s) ∧
    (e.state = .acquiring →
      (e.mark = .none → exec .index s = .next { s with engine := { e with revCount := some 0, mark := .good } }) ∧
      (e.mark ≠ .none → ¬ good → exec .index s = .next { s with engine := { e with revCount := some 0, mark := .good, good := 0 } }) ∧
      (good → e.good = 0 → exec .index s = .next { s with engine := { e with revCount := some 0, mark := .good, good := 1 } }) ∧
      (good → 1 ≤ e.good → s.frame.state ≠ .readying ∨ (∃ c, (s.chan c).state ≠ .ready) → exec .index s = .next { s with
        engine := { e with revCount := some 0, mark := .good, good := 2, state := .locked }
        events := (s.raise .lockGained).events }) ∧
      (∀ i, good → 1 ≤ e.good → s.frame.state = .readying → (∀ c, (s.chan c).state = .ready) → s.frame.slot = some i →
        ∃ t : State, exec .index s = .next t ∧
          t.engine = { e with revCount := some 0, mark := .good, good := 2, state := .locked } ∧ t.frame.state = .exposing ∧
          t.events.flags.getLsbD 5 = true)) ∧
    (e.state = .locked → e.revCount = some f → exec .index s = .next { s with engine := { e with revCount := some 0 } }) ∧
    (e.state = .locked → e.revCount ≠ some f → RecordsSound s → StepSound s → ∃ t : State, exec .index s = .next t ∧
      t.engine = { e with revCount := some 0, mark := .good, good := 0, state := .acquiring, window := .none } ∧
      t.events.flags.getLsbD 4 = true ∧ t.drives = ⟨.off, .off, .off⟩ ∧ (s.frame.state = .exposing → Spoiled s t .sync false))

/-- R43, R68, R125, R126: slot j of a line lies from O + j slot lengths on; a setup that fits the scan ends its slots before the scan span; the
modulator lines at rest, at the reference drive and in a slot, where each carries the drive of pixel j at position left margin + j; the clamp
counts are sums. That a slot's drive is a function of the line context is the model's (log entry 13). -/
def Obligations.SlotsArePlacedAndDriven : Prop :=
  (∀ (x : LineContext) (t j : Nat), 1 ≤ x.slotLength →
    (x.slotAt t = some j ↔ j < x.width ∧ x.start + j * x.slotLength ≤ t ∧ t < x.start + (j + 1) * x.slotLength)) ∧
  (∀ (c : SetupConfig) (lead span : Nat) (delay : Int), fitsScan c lead span = true → -128 ≤ delay → delay ≤ 127 →
    (lineStart lead delay c.leftMargin c.slotLength : Int) = max 0 ((lead : Int) + delay + c.leftMargin * (c.prescale * c.scaler : Nat)) ∧
    lineStart lead delay c.leftMargin c.slotLength + c.width * c.slotLength + 1 ≤ span) ∧
  ∀ (s : State) (c : Chan) (t : Nat),
    (s.drives.get c = .off → modulatorAt s c t = ⟨0, 0, false⟩) ∧
    (s.drives.get c = .reference → modulatorAt s c t = ⟨3, 2048, true⟩) ∧
    (s.drives.get c = .slots → ∀ x, s.line = some x →
      (x.slotAt t = none → modulatorAt s c t = ⟨0, 0, false⟩) ∧
      (∀ j, x.slotAt t = some j → modulatorAt s c t = slotDrive s x c j)) ∧
  (∀ (s : State) (x : LineContext) (c : Chan) (j : Nat) (p : Profile) (cal : Calibration) (set : Corrections) (px : Rgb Nat),
    s.profile x.profileId = some p → p.bank x.profileBank = some cal → s.optics.bank x.opticsBank = some set →
    (s.port.buf x.buffer).pixels[j]? = some px →
    let r := computeWith cal set c (x.drift.get c) x.gain (px.get c) (x.leftMargin + j)
    slotDrive s x c j = ⟨r.tier, r.level, true⟩) ∧
  (∀ (cal : Calibration) (set : Corrections) (drift : Rgb Int) (gain : Int) (px : List (Rgb Nat)) (p : Nat),
    let one (j : Nat) (c : Chan) : ClampResult := match px[j]? with
      | some x => (computeWith cal set c (drift.get c) gain (x.get c) (p + j)).result
      | none => .none
    (lineClamps cal set drift gain px p).1 =
      ((List.range px.length).map fun j => ([Chan.red, .grn, .blu].filter fun c => one j c = .low).length).sum ∧
    (lineClamps cal set drift gain px p).2 =
      ((List.range px.length).map fun j => ([Chan.red, .grn, .blu].filter fun c => one j c = .high).length).sum)

/-- R127, R128: a scheduled window opens scan span REFCLK periods after its FACET, with the WARMING and READY channels driven at the reference
drive and waiting for their readings; one with no channel to sample ends at its opening; a command for a window that is not there changes nothing.
A tick or the line's end that falls before comes first. That the row passes the periods up to that moment, and what it does without a scheduled
window, is the model's (log entries 14, 45). -/
def Obligations.MonitorWindowOpens : Prop :=
  (∀ (s t : State) (k : Nat) (line : Bool), s.engine.window = .scheduled k line → s.engine.state = .locked →
    let n := toMoment s s.engine.config.scanSpan
    (toTick s = n → exec .monitorWindowOpen s = exec .millisecondTick s) ∧
    (toTick s < n → exec .millisecondTick s = .next t → t.engine.window = s.engine.window → t.engine.state = .locked →
      exec .monitorWindowOpen s = exec .monitorWindowOpen t) ∧
    ∀ x, s.line = some x → toMoment s (x.start + x.width * x.slotLength) < n → exec .lineComplete s = .next t →
      t.engine.window = s.engine.window → t.engine.state = .locked → exec .monitorWindowOpen s = exec .monitorWindowOpen t) ∧
  ∀ s : State, LaserSafe s →
    let n := toMoment s s.engine.config.scanSpan
    let e := s.engine.later n
    let warm (c : Chan) : Bool := (s.chan c).state = .warming ∨ (s.chan c).state = .ready
    let drive (c : Chan) : Drive := if warm c then .reference else .off
    (∀ k line, s.engine.window = .scheduled k line → s.engine.state = .locked → s.line = none → n < toTick s → (∃ c, warm c = true) →
      exec .monitorWindowOpen s = .next { s with
        engine := { e with window := .opened k line ([Chan.red, .grn, .blu].filter warm) }
        drives := ⟨drive .red, drive .grn, drive .blu⟩ }) ∧
    (∀ k, s.engine.window = .scheduled k false → s.engine.state = .locked → s.line = none → n < toTick s → (∀ c, warm c = false) →
      exec .monitorWindowOpen s = .next { s with engine := { e with window := .none } }) ∧
    (∀ k g, s.engine.window = .scheduled k true → s.engine.state = .locked → s.line = none → n < toTick s → (∀ c, warm c = false) →
      s.frame.pendingGroup = some g → g ≠ 0 → exec .monitorWindowOpen s = .next { s with
        engine := { e with window := .none }
        frame := { s.frame with pendingGroup := none }
        transport := { s.transport with group := some ⟨.line, g⟩ } }) ∧
    ((∀ k line, s.engine.window ≠ .scheduled k line) → exec .monitorWindowOpen s = .next s)

/-- R129, R130: ENGINE_CONFIGURE's range check, its other checks in order, and an accepted request's effect on an engine in each state; the tick
given at once under a shorter millisecond follows log entry 33 and is left out by the last premise. -/
def Obligations.EngineIsConfigured : Prop :=
  (∀ f : EngineFields, engineConfigOf f =
    if 1 ≤ f.nominal.toNat ∧ f.nominal.toNat ≤ 2 ^ 24 - 1 ∧ 1 ≤ f.tolerance.toNat ∧ f.tolerance.toNat ≤ 64 ∧
        1 ≤ f.scanSpan.toNat ∧ f.scanSpan.toNat ≤ 2 ^ 24 - 1 ∧ 1 ≤ f.facetTimeout.toNat ∧ f.facetTimeout.toNat ≤ 1000 ∧
        f.sampleExp.toNat ≤ 7 ∧ 1000 ≤ f.refclkPerMs.toNat ∧ f.refclkPerMs.toNat ≤ 200000 ∧
        f.scanSpan.toNat * 256 < f.nominal.toNat * (256 - f.tolerance.toNat)
    then some ⟨f.nominal.toNat, f.tolerance.toNat, f.scanLead.toNat, f.scanSpan.toNat, f.facetTimeout.toNat, f.sampleExp.toNat,
      f.refclkPerMs.toNat⟩ else none) ∧
  ∀ (s : State) (f : EngineFields),
    (engineConfigOf f = none → exec (.engineConfigure f) s = .next (s.answer (.engineConfigure f) .range)) ∧
    ∀ c, engineConfigOf f = some c →
      (s.inFlight = true → exec (.engineConfigure f) s = .next (s.answer (.engineConfigure f) .busy)) ∧
      (s.inFlight = false → (∃ i, (s.setup i).armed = true ∧ fitsScan (s.setup i).config c.scanLead c.scanSpan = false) →
        exec (.engineConfigure f) s = .next (s.answer (.engineConfigure f) .window)) ∧
      (s.inFlight = false → (∀ i, (s.setup i).armed = true → fitsScan (s.setup i).config c.scanLead c.scanSpan = true) →
        s.engine.msCount < c.refclkPerMs →
        let same := c.nominal = s.engine.config.nominal ∧ c.tolerance = s.engine.config.tolerance
        (same ∨ s.engine.state = .stopped →
          exec (.engineConfigure f) s = .next (State.answer { s with engine := { s.engine with config := c } } (.engineConfigure f) .ok)) ∧
        (¬ same → s.engine.state = .acquiring →
          exec (.engineConfigure f) s = .next (State.answer { s with engine := { s.engine with config := c, good := 0 } } (.engineConfigure f) .ok)) ∧
        (¬ same → s.engine.state = .locked → ∃ t : State, exec (.engineConfigure f) s = .next (t.answer (.engineConfigure f) .ok) ∧
          t.engine = { s.engine with config := c, state := .acquiring, good := 0, window := .none } ∧
          t.events.flags.getLsbD 4 = true ∧ t.drives = ⟨.off, .off, .off⟩ ∧ t.chans = s.chans ∧ t.profiles = s.profiles ∧
          t.setups = s.setups))

/-- Every step keeps the engine's numbering and its window, and the lines and STEP groups in order: while LOCKED the revolution count is at most
F; a window only while LOCKED; a line only in EXPOSING beside no group; pulls and groups never together; one buffer EXPOSING, the line's; every
group with pulses to issue, the settings being in range (R67, R85, R110, R118, R127, R152, R153). -/
def Obligations.EngineAndLinesStayInOrder : Prop :=
  (∀ s t : State, NumberingSound s → step s = .next t → NumberingSound t) ∧
  (∀ s t : State, WindowSound s → step s = .next t → WindowSound t) ∧
  (∀ s t : State, StepSound s → step s = .next t → StepSound t) ∧
  (∀ s t : State, BuffersSound s → step s = .next t → BuffersSound t) ∧
  (∀ s t : State, SettingsSound s → GroupsPositive s → step s = .next t → GroupsPositive t)

/-! ## The laser channels -/

/-- R137, R140 to R143: CHANNEL_ON, CHANNEL_BIAS, CHANNEL_OFF and CHANNEL_CLEAR in each channel state of Table 8-3, no frame being in flight and
no window open for the channels that leave WARMING or READY. -/
def Obligations.ChannelRequestsByState : Prop :=
  ∀ (s : State) (chan : Byte),
    (3 ≤ chan.toNat → exec (.channelOn chan) s = .next (s.answer (.channelOn chan) .range) ∧ exec (.channelBias chan) s = .next (s.answer (.channelBias chan) .range) ∧
      exec (.channelOff chan) s = .next (s.answer (.channelOff chan) .range) ∧ exec (.channelClear chan) s = .next (s.answer (.channelClear chan) .range)) ∧
    ∀ c, chanOf chan = some c →
      let x := s.chan c
      let dropped := if x.capture then { x with capture := false, lastCapture := .dropped } else x
      let dark := { dropped with state := .dark, drift := 0, faultCause := none }
      (x.state = .fault → exec (.channelOn chan) s = .next (s.answer (.channelOn chan) .state) ∧ exec (.channelOff chan) s = .next (s.answer (.channelOff chan) .state)) ∧
      (x.state ≠ .fault → s.transport.safeOpen = true → exec (.channelOn chan) s = .next (s.answer (.channelOn chan) .interlock)) ∧
      (s.transport.safeOpen = false →
        (x.state = .dark ∨ x.state = .biased → exec (.channelOn chan) s = .next (State.answer (s.setChan c { x with
          state := .warming
          target := if x.state = .dark then x.config.settleCount else x.config.rewakeCount
          stableRun := 0, first := true, warmTimer := 0 }) (.channelOn chan) .ok)) ∧
        (x.state = .warming ∨ x.state = .ready → exec (.channelOn chan) s = .next (s.answer (.channelOn chan) .ok))) ∧
      (s.frame.state = .readying ∨ s.frame.state = .exposing → exec (.channelBias chan) s = .next (s.answer (.channelBias chan) .busy)) ∧
      (s.frame.state ≠ .readying → s.frame.state ≠ .exposing →
        (x.state = .dark ∨ x.state = .fault → exec (.channelBias chan) s = .next (s.answer (.channelBias chan) .state)) ∧
        (x.state = .biased → exec (.channelBias chan) s = .next (s.answer (.channelBias chan) .ok)) ∧
        (x.state = .warming ∨ x.state = .ready → s.engine.window.isOpen = false → exec (.channelBias chan) s =
          .next (State.answer ((s.setChan c { dropped with state := .biased }).setDrive c .off) (.channelBias chan) .ok))) ∧
      (x.state = .dark → exec (.channelOff chan) s = .next (s.answer (.channelOff chan) .ok)) ∧
      (x.state ≠ .dark → x.state ≠ .fault → s.inFlight = false → s.engine.window.isOpen = false →
        exec (.channelOff chan) s = .next (State.answer ((s.setChan c dark).setDrive c .off) (.channelOff chan) .ok)) ∧
      (x.state ≠ .fault → exec (.channelClear chan) s = .next (s.answer (.channelClear chan) .state)) ∧
      (x.state = .fault → s.inFlight = false → s.engine.window.isOpen = false →
        exec (.channelClear chan) s = .next (State.answer ((s.setChan c dark).setDrive c .off) (.channelClear chan) .ok))

/-- R134, R144, R145: CHANNEL_CONFIGURE, CHANNEL_SET_REFERENCE and CHANNEL_CAPTURE_REFERENCE: their refusals in order, and what they set. -/
def Obligations.ChannelSettingsAreReplaced : Prop :=
  (∀ f : ChannelFields, channelConfigOf f =
    if 1 ≤ f.settleBand.toNat ∧ f.settleBand.toNat ≤ 31 ∧ 4 ≤ f.settleCount.toNat ∧ f.settleCount.toNat ≤ 64 ∧
        1 ≤ f.rewakeCount.toNat ∧ f.rewakeCount.toNat ≤ 16 ∧ f.warmTimeout ≠ 0 ∧ 16 ≤ f.driftLimit.toNat ∧
        f.driftDivisor.toNat ∈ [1, 2, 4, 8]
    then some ⟨f.settleBand.toNat, f.settleCount.toNat, f.rewakeCount.toNat, f.warmTimeout.toNat, f.driftLimit.toNat,
      f.driftDivisor.toNat⟩ else none) ∧
  ∀ (s : State) (chan : Byte),
    (3 ≤ chan.toNat → (∀ f d, exec (.channelConfigure chan f d) s = .next (s.answer (.channelConfigure chan f d) .range)) ∧
      (∀ v, exec (.channelSetReference chan v) s = .next (s.answer (.channelSetReference chan v) .range)) ∧
      exec (.channelCaptureReference chan) s = .next (s.answer (.channelCaptureReference chan) .range)) ∧
    ∀ c, chanOf chan = some c →
      let x := s.chan c
      (∀ f delay, channelConfigOf f = none → exec (.channelConfigure chan f delay) s = .next (s.answer (.channelConfigure chan f delay) .range)) ∧
      (∀ v : BitVec 16, v.toNat < 1 ∨ 4095 < v.toNat → exec (.channelSetReference chan v) s = .next (s.answer (.channelSetReference chan v) .range)) ∧
      (s.inFlight = true → exec (.channelCaptureReference chan) s = .next (s.answer (.channelCaptureReference chan) .busy) ∧
        (∀ f delay g, channelConfigOf f = some g → exec (.channelConfigure chan f delay) s = .next (s.answer (.channelConfigure chan f delay) .busy)) ∧
        ∀ v : BitVec 16, 1 ≤ v.toNat → v.toNat ≤ 4095 → exec (.channelSetReference chan v) s = .next (s.answer (.channelSetReference chan v) .busy)) ∧
      (s.inFlight = false →
        (∀ f (delay : BitVec 16) g, channelConfigOf f = some g → exec (.channelConfigure chan f delay) s =
          .next (State.answer { s.setChan c { x with config := g, drift := max (-(g.driftLimit : Int)) (min g.driftLimit x.drift) }
            with idle := { s.idle with delay := delay.toNat } } (.channelConfigure chan f delay) .ok)) ∧
        (∀ v : BitVec 16, 1 ≤ v.toNat → v.toNat ≤ 4095 →
          let kept := { x with
            ref := v.toNat
            capture := false
            lastCapture := if x.capture then .dropped else x.lastCapture }
          exec (.channelSetReference chan v) s = .next (State.answer
            (s.setChan c (if x.state = .warming then { kept with stableRun := 0, first := true } else kept)) (.channelSetReference chan v) .ok)) ∧
        (x.state ≠ .ready → exec (.channelCaptureReference chan) s = .next (s.answer (.channelCaptureReference chan) .state)) ∧
        (x.state = .ready →
          exec (.channelCaptureReference chan) s = .next (State.answer (s.setChan c { x with capture := true }) (.channelCaptureReference chan) .ok)))

/-- R41, R135: the log of a reading is 256 n + Lt(i) with n its highest set bit, does not fall as the reading rises, runs from 0 to 3071, and the raw
drift is the difference of two logs. -/
def Obligations.ReadingsAreTakenToStopUnits : Prop :=
  (∀ v n : Nat, 2 ^ n ≤ v → v < 2 ^ (n + 1) → n ≤ 11 →
    (8 ≤ n → logOf v = 256 * n + logEntry (v / 2 ^ (n - 8) - 256) ∧ v / 2 ^ (n - 8) - 256 ≤ 255) ∧
    (n < 8 → logOf v = 256 * n + logEntry (v * 2 ^ (8 - n) - 256) ∧ v * 2 ^ (8 - n) - 256 ≤ 255)) ∧
  (∀ v w : Nat, 1 ≤ v → v ≤ w → w ≤ 4095 → logOf v ≤ logOf w) ∧ logOf 1 = 0 ∧ logOf 4095 = 3071 ∧
  (∀ r m : Nat, 1 ≤ r → r ≤ 4095 → 1 ≤ m → m ≤ 4095 →
    rawDrift r m = (logOf r : Int) - logOf m ∧ -3071 ≤ rawDrift r m ∧ rawDrift r m ≤ 3071)

/-- R85, R87, R94, R127, R136, R137, R140, R148: a reading in 1..4095 delivered to a WARMING channel is judged stable or not, D follows it within
the drift limit, and at the target the channel is READY, with which a READYING frame whose engine and channels are ready enters EXPOSING; a
reading of 0 faults the channel and spoils a frame in flight; one that is not awaited is discarded; the last of a window ends it once it is
handled. That a reading of a channel that is not next in the order R, G, B is discarded is the model's (log entry 15). -/
def Obligations.WarmingAndZeroReadings : Prop :=
  (∀ (s : State) (c : Chan) (reading : BitVec 12) (k : Nat) (line : Bool) (rest : List Chan),
      GroupsPositive s → s.engine.window = .opened k line (c :: rest) → reading ≠ 0 → (s.chan c).state = .warming →
      (s.chan c).capture = false →
      let x := s.chan c
      let raw := rawDrift x.ref reading.toNat
      let stable := x.first = false ∧ reading.toNat < 4095 ∧ ∃ last, x.lastRaw = some last ∧ (raw - last).natAbs ≤ x.config.settleBand
      let limit : Int := x.config.driftLimit
      ∀ run : Nat, (stable → run = min 64 (x.stableRun + 1)) → (¬ stable → run = 0) →
        let y := { x with
          first := false, stableRun := run, lastM := some reading.toNat, lastRaw := some raw, drift := max (-limit) (min limit raw) }
        let read (z : Channel) : State := { (s.setChan c z).setDrive c .off with
          engine := { s.engine with window := .opened k line rest } }
        (run < x.target → exec (.monitorReading c reading) s = .next (afterReading line rest (read y))) ∧
        (x.target ≤ run →
          let u := (read { y with state := .ready, outRun := 0 }).raise .channelReady
          let ready := s.frame.state = .readying ∧ s.engine.state = .locked ∧ ∀ d, d ≠ c → (s.chan d).state = .ready
          (¬ ready → exec (.monitorReading c reading) s = .next (afterReading line rest u)) ∧
          ∀ i, ready → s.frame.slot = some i →
            let pulses := (s.setup i).config.topMargin * (s.setup i).config.stepsPerLine
            let frame := { s.frame with state := .exposing, margin := .underWay, stride := 0, lineWait := 0 }
            (pulses ≠ 0 → exec (.monitorReading c reading) s = .next (afterReading line rest { u with
              frame := frame, transport := { s.transport with group := some ⟨.margin, pulses⟩ } })) ∧
            (pulses = 0 → s.transport.advance = none → exec (.monitorReading c reading) s =
              .next (afterReading line rest { u with frame := { frame with margin := .done } })))) ∧
  (∀ (s : State) (c : Chan) (reading : BitVec 12),
    (∀ k line rest, s.engine.window ≠ .opened k line (c :: rest)) → exec (.monitorReading c reading) s = .next s) ∧
  (∀ (s : State) (c : Chan) (k : Nat) (line : Bool) (rest : List Chan), s.engine.window = .opened k line (c :: rest) →
    let x := s.chan c
    ∃ t : State, exec (.monitorReading c 0) s = .next t ∧
      t.chan c = { x with
        state := .fault, faultCause := some .darkMonitor, lastM := some 0, capture := false
        lastCapture := if x.capture then .dropped else x.lastCapture } ∧
      (∀ d, d ≠ c → t.chan d = s.chan d) ∧ t.events.flags.getLsbD 2 = true ∧ t.drives.get c = .off ∧
      (WindowSound s → s.inFlight = false → t.engine.window = if rest = [] then .none else .opened k line rest) ∧
      (RecordsSound s → StepSound s → s.inFlight = true → Spoiled s t .channel false)) ∧
  (∀ (s : State) (c : Chan) (reading : BitVec 12) (k : Nat) (line : Bool) (t : State),
    s.engine.window = .opened k line [c] → exec (.monitorReading c reading) s = .next t → t.engine.window = .none)

/-- R85, R94, R127, R136, R139, R140, R145: a reading in 1..4095 delivered to a READY channel: a pending capture first, then the sample out of
limit, with D at the limit and a fault at the fourth in a row, which spoils a frame in flight, or in limit, with the filter's step rounded toward
zero; the last of a window ends it once it is handled. That a reading of a channel that is not next in the order R, G, B is discarded is the
model's (log entry 15). -/
def Obligations.DriftSampleIsFiltered : Prop :=
  ∀ (s : State) (c : Chan) (reading : BitVec 12) (k : Nat) (line : Bool) (rest : List Chan),
    GroupsPositive s → s.engine.window = .opened k line (c :: rest) → reading ≠ 0 → (s.chan c).state = .ready →
    (s.chan c).outRun ≤ 3 → 1 ≤ (s.chan c).config.driftDivisor →
    let x := s.chan c
    let m := reading.toNat
    let taken := if x.capture then
        (if m = 4095 then { x with capture := false, lastCapture := .overRange }
          else { x with capture := false, lastCapture := .taken, ref := m })
      else x
    let raw := rawDrift taken.ref m
    let limit : Int := x.config.driftLimit
    let out := m = 4095 ∨ limit < |raw|
    let read (z : Channel) : State := { (s.setChan c z).setDrive c .off with
      engine := { s.engine with window := .opened k line rest } }
    (x.capture = true → m < 4095 → raw = 0) ∧
    (¬ out → ∀ step : Int,
      (x.drift ≤ raw → step = ⌊((raw - x.drift : Int) : ℚ) / x.config.driftDivisor⌋) →
      (raw < x.drift → step = ⌈((raw - x.drift : Int) : ℚ) / x.config.driftDivisor⌉) →
      exec (.monitorReading c reading) s = .next (afterReading line rest (read { taken with
        lastM := some m, lastRaw := some raw, outRun := 0, drift := x.drift + step }))) ∧
    (out →
      let held := if m = 4095 ∨ raw < 0 then -limit else limit
      (x.outRun < 3 → exec (.monitorReading c reading) s = .next (afterReading line rest (read { taken with
        lastM := some m, lastRaw := some raw, outRun := x.outRun + 1, drift := held }))) ∧
      (x.outRun = 3 → ∃ t : State, exec (.monitorReading c reading) s = .next t ∧
        t.chan c = { taken with
          lastM := some m, lastRaw := some raw, outRun := 4, drift := held, state := .fault, faultCause := some .drift } ∧
        t.events.flags.getLsbD 2 = true ∧ t.drives.get c = .off ∧
        (WindowSound s → s.inFlight = false → t.engine.window = if rest = [] then .none else .opened k line rest) ∧
        (RecordsSound s → StepSound s → s.inFlight = true → Spoiled s t .channel false)))

/-- Every step keeps the beams safe: dark while SAFE is open, a modulator driven only in WARMING or READY with SAFE closed, a frame EXPOSING only
with all three channels READY and the engine LOCKED (R87, R94, R126, R133, R148). -/
def Obligations.LaserSafetyIsKept : Prop :=
  ∀ s t : State, LaserSafe s → step s = .next t → LaserSafe t

/-- Every step keeps each channel's D within its drift limit, the roll's accounts (remaining plus pulls is the capacity), the flash region's
canonical form, the link's state and reply, every saturating count, run and idle timer within its maximum, and every setting in its range, with
every ARMED setup fitting the scan (sections 0.4.5 and 9.1, R44, R67, R68, R75, R90, R114, R118, R130, R133, R134, R137, R139, R146, R152, R166). -/
def Obligations.LimitsAndAccountsAreKept : Prop :=
  (∀ s t : State, DriftBounded s → step s = .next t → DriftBounded t) ∧
  (∀ s t : State, RollCounted s.transport → step s = .next t → RollCounted t.transport) ∧
  (∀ s t : State, FlashCanonical s → step s = .next t → FlashCanonical t) ∧
  (∀ s t : State, LinkSound s.link → step s = .next t → LinkSound t.link) ∧
  (∀ s t : State, CountsBounded s → step s = .next t → CountsBounded t) ∧
  (∀ s t : State, SettingsSound s → step s = .next t → SettingsSound t)

/-! ## The film transport and the interlock -/

/-- R157 to R159: ROLL_LOAD, ROLL_UNLOAD and ROLL_ADVANCE with their checks in order; an accepted advance issues its first pull at once, or waits for
the STEP group that is pending or under way.
The count of PULL pulses put out is the model's observation (log entry 41). -/
def Obligations.RollRequests : Prop :=
  ∀ s : State,
    (∀ (tag : Word32) (cap low : BitVec 16),
      (cap = 0 ∨ cap.toNat ≤ low.toNat → exec (.rollLoad tag cap low) s = .next (s.answer (.rollLoad tag cap low) .range)) ∧
      (cap ≠ 0 → low.toNat < cap.toNat →
        (s.transport.roll ≠ none → exec (.rollLoad tag cap low) s = .next (s.answer (.rollLoad tag cap low) .state)) ∧
        (s.transport.roll = none → exec (.rollLoad tag cap low) s = .next (State.answer
          { s with transport := { s.transport with roll := some ⟨tag, cap.toNat, cap.toNat, low.toNat, 0⟩ } } (.rollLoad tag cap low) .ok)))) ∧
    exec (.rollAdvance 0) s = .next (s.answer (.rollAdvance 0) .range) ∧
    (s.transport.roll = none → exec .rollUnload s = .next (s.answer .rollUnload .state)) ∧
    (∀ n : BitVec 16, n ≠ 0 → s.transport.roll = none ∨ s.transport.xportFault = true →
      exec (.rollAdvance n) s = .next (s.answer (.rollAdvance n) .state)) ∧
    ∀ r, s.transport.roll = some r →
      (s.inFlight = true ∨ s.transport.advance ≠ none → exec .rollUnload s = .next (s.answer .rollUnload .busy) ∧
        ∀ n : BitVec 16, n ≠ 0 → s.transport.xportFault = false → exec (.rollAdvance n) s = .next (s.answer (.rollAdvance n) .busy)) ∧
      (s.inFlight = false → s.transport.advance = none →
        exec .rollUnload s = .next (State.answer { s with transport := { s.transport with roll := none } } .rollUnload .ok
          (be32 r.tag ++ be16 (BitVec.ofNat 16 r.capacity) ++ be16 (BitVec.ofNat 16 r.remaining) ++ be16 (BitVec.ofNat 16 r.pulls))) ∧
        ∀ n : BitVec 16, n ≠ 0 → s.transport.xportFault = false →
          (r.remaining < n.toNat → exec (.rollAdvance n) s = .next (s.answer (.rollAdvance n) .roll)) ∧
          (n.toNat ≤ r.remaining → s.groupBusy = true → exec (.rollAdvance n) s = .next (State.answer { s with transport :=
            { s.transport with advance := some ⟨n.toNat, .waitingGroup, s.frame.startTimeout⟩ } } (.rollAdvance n) .ok)) ∧
          (n.toNat ≤ r.remaining → s.groupBusy = false → ∃ t : State, exec (.rollAdvance n) s = .next (t.answer (.rollAdvance n) .ok) ∧
            t.transport = { s.transport with
              roll := some { r with remaining := r.remaining - 1, pulls := r.pulls + 1 }
              advance := some ⟨n.toNat - 1, .seating, s.frame.startTimeout⟩
              pullTimer := 0 } ∧
            t.outputs = { s.outputs with pulls := s.outputs.pulls + 1 } ∧
            (∀ b, t.events.flags.getLsbD b = (s.events.flags.getLsbD b || (decide (b = 10) && decide (r.remaining - 1 = r.lowMark)) ||
              (decide (b = 11) && decide (r.remaining - 1 = 0)))) ∧
            t = { s with transport := t.transport, outputs := t.outputs, events := t.events }))

/-- R86, R154, R155, R156, R160: the changes of SEATED, XPORT_FAULT and SAFE without a frame in flight: the level held, the event raised, the roll
advance ended or gone on with, the channels dark; and the fall of SEATED while a frame is SEATING, which changes the level alone. That a row for a
change of level acts whatever the level held is the model's (log entry 31). -/
def Obligations.InputLinesWithoutAFrame : Prop :=
  ∀ s : State,
    exec .xportFaultDeasserted s = .next { s with transport := { s.transport with xportFault := false } } ∧
    exec .safeClose s = .next { s with
      transport := { s.transport with safeOpen := false }, events := (s.raise .interlockClosed).events } ∧
    (s.frame.state = .seating → exec .seatedFall s = .next { s with transport := { s.transport with seated := false } }) ∧
    (s.inFlight = false →
      exec .seatedFall s = .next { s with transport := { s.transport with seated := false } } ∧
      (s.transport.advance = none → exec .xportFaultAsserted s = .next { s with
        transport := { s.transport with xportFault := true }, events := (s.raise .xportFault).events }) ∧
      (s.transport.advance ≠ none → exec .xportFaultAsserted s = .next { s with
        transport := { s.transport with xportFault := true, advance := none, last := .fault }
        events := (s.raise .xportFault).events }) ∧
      (∀ limit, s.transport.advance = some ⟨0, .seating, limit⟩ → exec .seatedRise s = .next { s with
        transport := { s.transport with seated := true, advance := none, last := .done } }) ∧
      (∀ n limit r, s.transport.advance = some ⟨n + 1, .seating, limit⟩ → s.transport.roll = some r →
        ∃ t : State, exec .seatedRise s = .next t ∧ t.transport = { s.transport with
            seated := true
            roll := some { r with remaining := r.remaining - 1, pulls := r.pulls + 1 }
            advance := some ⟨n, .seating, s.frame.startTimeout⟩
            pullTimer := 0 } ∧
          t = { s with transport := t.transport, outputs := t.outputs, events := t.events }) ∧
      (LaserSafe s → StepSound s → GroupsPositive s → ∃ t : State, exec .safeOpen s = .next t ∧ t.transport.safeOpen = true ∧ t.events.flags.getLsbD 6 = true ∧
        t.drives = ⟨.off, .off, .off⟩ ∧
        (∀ c, (s.chan c).state = .fault ∨ (s.chan c).state = .dark → t.chan c = s.chan c) ∧
        (∀ c, (s.chan c).state.lit = true → (t.chan c).state = .dark ∧ (t.chan c).drift = 0 ∧ (t.chan c).capture = false) ∧
        t.transport.roll = s.transport.roll ∧ t.profiles = s.profiles ∧ t.setups = s.setups ∧ t.frame.state = s.frame.state))

/-! ## The tick and the timeouts -/

/-- R87, R91, R94, R123, R129, R138, R146, R160, R180: a tick completes the millisecond's REFCLK periods. One that passes no limit advances each
timer that runs by 1, leaves each that does not, and changes nothing else; one that finds a timer at its limit or above it takes the passing in
place of the advance. A line's end or a window's opening that falls before the tick comes first (R125, R127). The order of the passings of one
tick, the tick on which the line wait limit passes, the idle timer's top, a timer above a lowered limit and the periods that a tick carries are
the model's (log entries 2, 7, 32, 42, 45, 46). -/
def Obligations.TickAdvancesTheTimers : Prop :=
  (∀ s t : State,
    (∀ x, s.line = some x → toMoment s (x.start + x.width * x.slotLength) < toTick s → exec .lineComplete s = .next t →
      exec .millisecondTick s = exec .millisecondTick t) ∧
    ∀ k line, s.engine.window = .scheduled k line → s.engine.state = .locked → toMoment s s.engine.config.scanSpan < toTick s →
      exec .monitorWindowOpen s = .next t → exec .millisecondTick s = exec .millisecondTick t) ∧
  (∀ s : State, Still s (toTick s) →
    let starting := s.frame.state = .seating ∨ s.frame.state = .readying
    let waiting := s.frame.state = .exposing ∧ ∀ b ∈ [s.port.buf0, s.port.buf1], b.state = .empty ∨ b.state = .filling
    let idleNext : IdleBias :=
      if s.inFlight then s.idle
      else if s.idle.millis < 999 then { s.idle with millis := s.idle.millis + 1 }
      else if s.idle.seconds < 65535 then { s.idle with seconds := s.idle.seconds + 1, millis := 0 } else s.idle
    (s.inFlight = true ∨ s.idle.delay = 0 ∨ idleNext.seconds < s.idle.delay) →
    (starting → s.frame.startTimer < s.frame.startTimeout) → (waiting → s.frame.lineWait < s.port.lineWaitLimit) →
    (s.engine.state ≠ .stopped → s.engine.facetTimer < s.engine.config.facetTimeout) →
    (∀ c, (s.chan c).state = .warming → (s.chan c).warmTimer < (s.chan c).config.warmTimeout) →
    (∀ n l, s.transport.advance = some ⟨n, .seating, l⟩ → s.transport.pullTimer < l) → (s.image.save ≠ none → s.image.timer < 500) →
    ∃ t : State, exec .millisecondTick s = .next t ∧
      t.idle = idleNext ∧
      t.frame = { s.frame with
        startTimer := if starting then s.frame.startTimer + 1 else s.frame.startTimer
        lineWait := @ite _ waiting (Classical.dec _) (s.frame.lineWait + 1) s.frame.lineWait } ∧
      t.engine = { s.engine with
        msCount := 0
        periodCount := min (2 ^ 24 - 1) (s.engine.periodCount + max 1 (s.engine.config.refclkPerMs - s.engine.msCount))
        facetTimer := if s.engine.state = .stopped then s.engine.facetTimer else s.engine.facetTimer + 1 } ∧
      (∀ c, t.chan c = if (s.chan c).state = .warming then { s.chan c with warmTimer := (s.chan c).warmTimer + 1 } else s.chan c) ∧
      t.transport = { s.transport with pullTimer :=
        if (s.transport.advance.any fun a => a.pull = .seating) then s.transport.pullTimer + 1 else s.transport.pullTimer } ∧
      t.image = { s.image with timer := if s.image.save = none then s.image.timer else s.image.timer + 1 } ∧
      t = { s with
        idle := t.idle, frame := t.frame, engine := t.engine, chans := t.chans, transport := t.transport, image := t.image }) ∧
  ∀ s : State, RecordsSound s → StepSound s → Still s (toTick s) → ∃ t : State, exec .millisecondTick s = .next t ∧
    let starting := s.frame.state = .seating ∨ s.frame.state = .readying
    let startPasses := starting ∧ s.frame.startTimeout ≤ s.frame.startTimer
    let waitPasses := s.frame.state = .exposing ∧ (∀ b ∈ [s.port.buf0, s.port.buf1], b.state = .empty ∨ b.state = .filling) ∧
      s.port.lineWaitLimit ≤ s.frame.lineWait
    (startPasses → Spoiled s t .startTimeout false ∧ t.frame.startTimer = s.frame.startTimer) ∧
    (waitPasses → Spoiled s t .starve false ∧ t.frame.lineWait = s.frame.lineWait) ∧
    (s.engine.state ≠ .stopped → s.engine.config.facetTimeout ≤ s.engine.facetTimer →
      t.engine.state = .stopped ∧ t.engine.facetTimer = s.engine.facetTimer ∧ t.engine.revCount = none ∧ t.engine.facet = none ∧
      t.events.flags.getLsbD 4 = (s.events.flags.getLsbD 4 || decide (s.engine.state = .locked)) ∧
      (s.engine.state = .locked → s.frame.state = .exposing → ¬ waitPasses → Spoiled s t .sync false)) ∧
    (∀ c, (s.chan c).state = .warming → (s.chan c).config.warmTimeout ≤ (s.chan c).warmTimer →
      (t.chan c).state = .fault ∧ (t.chan c).faultCause = some .warmTimeout ∧ (t.chan c).warmTimer = (s.chan c).warmTimer ∧
      t.events.flags.getLsbD 2 = true ∧ (starting → ¬ startPasses → Spoiled s t .channel false)) ∧
    (s.inFlight = false → s.idle.delay ≠ 0 →
      s.idle.delay ≤ (if s.idle.millis = 999 ∧ s.idle.seconds < 65535 then s.idle.seconds + 1 else s.idle.seconds) →
      t.idle = ⟨s.idle.delay, 0, 0⟩ ∧ ∀ c, (s.chan c).state = .ready → (t.chan c).state = .biased ∧ t.drives.get c = .off) ∧
    (∀ n l, s.transport.advance = some ⟨n, .seating, l⟩ → l ≤ s.transport.pullTimer →
      t.transport.advance = none ∧ t.transport.last = .timeout ∧ t.transport.pullTimer = s.transport.pullTimer ∧
      t.transport.roll = s.transport.roll ∧ t.events.flags.getLsbD 9 = true) ∧
    (∀ v, s.image.save = some v → 500 ≤ s.image.timer → t.events.flags.getLsbD 14 = true ∧ t.image = { s.image with
      state := .idle, last := .fault, save := none
      failed := some (match v.step with | .erase => .erase | .header => .header | _ => .record) })

/-- R123, R138, R146, R160: the passings of the facet timer, of a warm timer, of the idle bias delay and of an advance's pull timer without a
frame in flight or a window open, each in the states in which its timer runs; in any other state nothing changes (log entry 8). -/
def Obligations.TimersPassTheirLimits : Prop :=
  ∀ s : State,
    (s.engine.state = .stopped → exec .stall s = .next s) ∧
    (s.engine.state = .acquiring → exec .stall s = .next { s with
      engine := { s.engine with state := .stopped, revCount := none, facet := none, mark := .none, good := 0 } }) ∧
    (s.engine.state = .locked → s.frame.state ≠ .exposing → s.engine.window = .none → exec .stall s = .next { s with
      engine := { s.engine with state := .stopped, revCount := none, facet := none, mark := .none, good := 0 }
      events := (s.raise .lockLost).events, drives := ⟨.off, .off, .off⟩ }) ∧
    (∀ c, (s.chan c).state ≠ .warming → exec (.warmTimeout c) s = .next s) ∧
    (∀ c, (s.chan c).state = .warming → s.inFlight = false → s.engine.window.isOpen = false →
      let x := s.chan c
      exec (.warmTimeout c) s = .next (((s.setChan c { x with
        state := .fault, faultCause := some .warmTimeout, capture := false
        lastCapture := if x.capture then .dropped else x.lastCapture }).setDrive c .off).raise .channelFault)) ∧
    (s.inFlight = true ∨ s.idle.delay = 0 → exec .autoBias s = .next s) ∧
    (s.inFlight = false → s.idle.delay ≠ 0 → ∃ t : State, exec .autoBias s = .next t ∧
      t.idle = { s.idle with seconds := 0, millis := 0 } ∧ t.events.flags = s.events.flags ||| t.events.flags ∧
      (∀ c, (s.chan c).state = .ready → (t.chan c).state = .biased ∧ (t.chan c).drift = (s.chan c).drift ∧
        (t.chan c).capture = false ∧ t.drives.get c = .off) ∧
      (∀ c, (s.chan c).state ≠ .ready → t.chan c = s.chan c) ∧ t.frame.state = s.frame.state ∧ t.setups = s.setups) ∧
    (∀ n limit, s.transport.advance = some ⟨n, .seating, limit⟩ → exec .advancePullTimeout s = .next { s with
      transport := { s.transport with advance := none, last := .timeout }, events := (s.raise .xportTimeout).events }) ∧
    ((∀ a, s.transport.advance = some a → a.pull = .waitingGroup) → exec .advancePullTimeout s = .next s) ∧
    (s.frame.state ≠ .seating → s.frame.state ≠ .readying → exec .startTimeout s = .next s) ∧
    (s.frame.state ≠ .exposing → exec .lineWaitLimitPassed s = .next s)

/-! ## The image memory -/

/-- R175, R176, R179, R180: IMAGE_SAVE issues the erase; an operation done is carried out by the flash and the next one of its record issued;
after the erase and after each profile record the next ACTIVE or STALE profile in ascending order of ID is formed, then the optics, channel and
header records; the header's done ends the save with SAVED and IMAGE_DONE; the operation limit ends it with FAULT and IMAGE_FAULT, a record's
program being carried out, the header's bytes not. When the flash changes, that the passing's own command tests no timer, that nothing changes
without a save, what a failed operation leaves, and that a done report is that of the operation in flight is the model's (log entries 8, 16, 17,
18, 36, 51). -/
def Obligations.SaveRunsOnItsOperations : Prop :=
  ∀ s : State,
    (s.image.state ≠ .idle → exec .imageSave s = .next (s.answer .imageSave .busy)) ∧
    (s.image.state = .idle → exec .imageSave s = .next (State.answer { s with image := { s.image with
      state := .saving, failed := none, written := 0, timer := 0, save := some ⟨.erase, 0, 16, 0, .erase, []⟩ } } .imageSave .ok)) ∧
    (s.image.save = none → exec .flashOperationDone s = .next s ∧ exec .imageOperationTimeout s = .next s) ∧
    ∀ v, s.image.save = some v →
      (∀ op later, v.later = op :: later → exec .flashOperationDone s = .next { s with
        flash := s.flash.carryOut v.op
        image := { s.image with timer := 0, save := some { v with op := op, later := later } } }) ∧
      (RecordsSound s → v.step = .erase ∨ v.step = .profile → v.later = [] → ∃ t : State, exec .flashOperationDone s = .next t ∧
        t.flash = s.flash.carryOut v.op ∧ t.image.timer = 0 ∧
        t.image.written = (if v.step = .erase then s.image.written else s.image.written + 1) ∧
        let saved (p : Profile) : Prop := v.lastId < p.id ∧ (p.state = .active ∨ p.state = .stale)
        (∀ p c, p ∈ s.profiles → saved p → (∀ q ∈ s.profiles, saved q → p.id ≤ q.id) → p.activeCal = some c →
          ∃ w, t.image.save = some w ∧ w.step = .profile ∧ w.lastId = p.id ∧ w.count = v.count + 1 ∧
            w.offset = v.offset + (profileRecord p c).length ∧ w.op :: w.later = programsOf v.offset (profileRecord p c)) ∧
        ((∀ p ∈ s.profiles, ¬ saved p) → ∃ w, t.image.save = some w ∧ w.step = .optics ∧ w.count = v.count ∧
          w.offset = v.offset + 227 ∧ w.op :: w.later = programsOf v.offset (opticsRecord s.optics.cur))) ∧
      (v.step = .header → v.later = [] → exec .flashOperationDone s = .next { s with
        flash := s.flash.carryOut v.op
        image := { s.image with state := .idle, last := .saved, failed := none, save := none }
        events := (s.raise .imageDone).events }) ∧
      (v.step = .channel → v.later = [] → ∃ t : State, exec .flashOperationDone s = .next t ∧
        t.flash = s.flash.carryOut v.op ∧ t.image.written = s.image.written + 1 ∧
        ∃ w, t.image.save = some w ∧ w.step = .header ∧ w.op = .program 0 (headerBytes v.count (v.offset - 16)) ∧ w.later = []) ∧
      (v.step = .optics → v.later = [] → ∃ t : State, exec .flashOperationDone s = .next t ∧
        t.image.written = s.image.written + 1 ∧ ∃ w, t.image.save = some w ∧ w.step = .channel ∧ w.offset = v.offset + 11 ∧
        w.op :: w.later = programsOf v.offset (channelRecord ⟨s.chans.red.ref, s.chans.grn.ref, s.chans.blu.ref⟩)) ∧
      ∃ t : State, exec .imageOperationTimeout s = .next t ∧ t.image = { s.image with
          state := .idle, last := .fault, save := none
          failed := some (match v.step with | .erase => .erase | .header => .header | _ => .record) } ∧
        t.events = (s.raise .imageFault).events ∧ t.profiles = s.profiles ∧
        (∀ a bytes, v.op = .program a bytes → t.flash = if v.step = .header then s.flash else s.flash.carryOut v.op)

/-- R175, R178, R179, R181, R182: a record programmed operation by operation, none across a page, is read back byte for byte; what a save writes
for a profile, the optics set, the references and the header, the load reads back whole. That the region is held as cells in one canonical form is
the model's (log entry 16). -/
def Obligations.SavedRecordsLoadBack : Prop :=
  (∀ (f : Flash) (a : Nat) (bytes : List Byte) (b : Nat), f.wf = true → f.left = none →
    ((programsOf a bytes).foldl Flash.carryOut f).read b =
      if a ≤ b ∧ b < a + bytes.length then bytes.getD (b - a) 0 else f.read b) ∧
  (∀ (a : Nat) (bytes : List Byte), ∀ op ∈ programsOf a bytes, ∃ at_ part, op = .program at_ part ∧ 1 ≤ part.length ∧
    at_ / 256 = (at_ + part.length - 1) / 256) ∧
  ∀ (f : Flash) (b : Nat), (f.carryOut .erase).read b = 0xFF ∧
  (∀ (p : Profile) (c : Calibration), idInRange p.id = true → labelInRange p.label = true → p.activeCal = some c → c.complete →
    p.frames ≤ 65535 → c.life ≤ 65535 → (∀ ch, -1024 ≤ c.trims.get ch ∧ c.trims.get ch ≤ 1023) →
    (∀ ch, c.darks.get ch ≤ 4095) →
    readProfile (profileRecord p c) = some
      ⟨p.id, p.label, if c.life ≠ 0 ∧ c.life ≤ p.frames then .stale else .active, some .a, none, some c, none, p.frames, 0, none⟩ ∧
    (profileRecord p c).length = 41 + 4 * ((c.curve .red).length + (c.curve .grn).length + (c.curve .blu).length)) ∧
  (∀ (c : Corrections) (n : Nat), CorrectionsSound c → c.revision = some n → n ≤ 65535 → readOptics (opticsRecord c) = some c ∧
    (opticsRecord c).length = 227) ∧
  (∀ r : Rgb Nat, (∀ ch, 1 ≤ r.get ch ∧ r.get ch ≤ 4095) → readChannels (channelRecord r) = some r ∧ (channelRecord r).length = 11) ∧
  ∀ n length : Nat, n ≤ 24 → 238 ≤ length → length ≤ 65520 → readHeader (headerBytes n length) = some (n, length) ∧
    (headerBytes n length).length = 16

/-- R181, R182: IMAGE_LOAD's checks in order, a load that finds no valid header, and one that begins; IMAGE_RECORD_READ passes a profile record or
the optics record into the load set or counts it skipped. That a load starts with records written at 0, and that IMAGE_RECORD_READ without a load
changes nothing, is the model's (log entries 36, 43). -/
def Obligations.LoadReadsItsRecords : Prop :=
  ∀ s : State,
    let cleared := { s.image with
      written := 0, loaded := 0, skipped := 0, opticsLoaded := false, channelsLoaded := false, save := none, load := none }
    (s.image.state ≠ .idle → exec .imageLoad s = .next (s.answer .imageLoad .busy)) ∧
    (s.image.state = .idle → s.profiles ≠ [] ∨ s.optics.staging = true ∨ s.inFlight = true →
      exec .imageLoad s = .next (s.answer .imageLoad .state)) ∧
    (s.image.state = .idle → s.profiles = [] → s.optics.staging = false → s.inFlight = false →
      (s.flash.header = none → exec .imageLoad s = .next (State.answer { s with image :=
        { cleared with state := .idle, last := .noImage, failed := none } } .imageLoad .noImage)) ∧
      ∀ n length, s.flash.header = some (n, length) → exec .imageLoad s = .next (State.answer { s with image := { cleared with
        state := .loading
        load := some ⟨if n = 0 then .optics else .profile, n, 16, 16 + length - 238, ⟨[], none, none⟩⟩ } } .imageLoad .ok
        [BitVec.ofNat 8 n])) ∧
    (s.image.load = none → exec .imageRecordRead s = .next s) ∧
    ∀ l, s.image.load = some l →
      (l.step = .profile →
        let length := s.flash.lengthAt l.offset
        let next := { l with step := if l.left ≤ 1 then .optics else .profile, left := l.left - 1, offset := l.offset + length }
        (length < 65 ∨ 437 < length ∨ l.opticsAt < l.offset + length → exec .imageRecordRead s = .next { s with image :=
          { s.image with skipped := s.image.skipped + l.left, load := some { l with step := .optics, left := 0 } } }) ∧
        (65 ≤ length → length ≤ 437 → l.offset + length ≤ l.opticsAt →
          (∀ p, readProfile (s.flash.bytes l.offset length) = some p → (∀ q ∈ l.set.profiles, q.id ≠ p.id) →
            let set := { l.set with profiles := l.set.profiles ++ [p] }
            exec .imageRecordRead s = .next { s with image := { s.image with
              loaded := s.image.loaded + 1, load := some { next with set := set } } }) ∧
          ((∀ p, readProfile (s.flash.bytes l.offset length) = some p → ∃ q ∈ l.set.profiles, q.id = p.id) →
            exec .imageRecordRead s = .next { s with image := { s.image with
              skipped := s.image.skipped + 1, load := some next } }))) ∧
      (l.step = .optics →
        let set := { l.set with optics := readOptics (s.flash.bytes l.opticsAt 227) }
        exec .imageRecordRead s = .next { s with image := { s.image with load := some { l with step := .channel, set := set } } })

/-- R24, R59, R64, R144, R182: the channel record ends the reading and the load set is placed in one step: every profile of the set in the table,
a good optics record current in bank A with bank B empty, its F told to the engine in each of its states, good references as CHANNEL_SET_REFERENCE
sets them, LOADED and IMAGE_DONE. That the channel record places the set, and that the engine's counters and last exposed facet stand over a
change of F, is the model's (log entries 19, 44). -/
def Obligations.LoadSetIsPlaced : Prop :=
  ∀ (s : State) (l : Load), RecordsSound s → s.image.load = some l → l.step = .channel →
    let refs := readChannels (s.flash.bytes (l.opticsAt + 227) 11)
    ∃ t : State, exec .imageRecordRead s = .next t ∧
      (∀ p, p ∈ t.profiles ↔ p ∈ l.set.profiles) ∧ idsAscend t.profiles ∧
      (l.set.optics = none → t.optics = s.optics ∧ t.engine = s.engine) ∧
      (∀ c, l.set.optics = some c → t.optics = ⟨.a, c, none, false, none⟩ ∧
        (c.facets = s.optics.cur.facets → t.engine = s.engine) ∧
        (c.facets ≠ s.optics.cur.facets → s.engine.state = .locked →
          t.engine = { s.engine with state := .acquiring, good := 0, window := .none } ∧ t.events.flags.getLsbD 4 = true) ∧
        (c.facets ≠ s.optics.cur.facets → s.engine.state = .acquiring → t.engine = { s.engine with good := 0 }) ∧
        (c.facets ≠ s.optics.cur.facets → s.engine.state = .stopped → t.engine = s.engine)) ∧
      (refs = none → t.chans = s.chans) ∧
      (∀ r, refs = some r → ∀ c, t.chan c =
        let kept := { s.chan c with
          ref := r.get c, capture := false, lastCapture := if (s.chan c).capture then .dropped else (s.chan c).lastCapture }
        if (s.chan c).state = .warming then { kept with stableRun := 0, first := true } else kept) ∧
      t.image.state = .idle ∧ t.image.last = .loaded ∧ t.image.load = none ∧ t.image.loaded = s.image.loaded ∧
      t.image.opticsLoaded = (s.image.opticsLoaded || l.set.optics.isSome) ∧
      t.image.channelsLoaded = (s.image.channelsLoaded || refs.isSome) ∧ t.events.flags.getLsbD 13 = true
end

