-- ==== Sys2Proof/Laws/Flash.lean ====
section
/-! SUPPORT. The image region of the serial flash: a read after a write, and the canonical form, which every operation keeps. -/

namespace Sys2Proof.Machine

open Sys2Proof

/-- The canonical form above a bound is the canonical form above a lower one. -/
theorem cellsFrom_mono {m : List Host.Cell} {x y : Nat} (h : cellsFrom (some y) m = true) (hxy : x ≤ y) :
    cellsFrom (some x) m = true := by
  cases m with
  | nil => rfl
  | cons c t =>
    simp only [cellsFrom, Bool.and_eq_true, decide_eq_true_eq] at h ⊢
    exact ⟨⟨by omega, h.1.2⟩, h.2⟩

theorem cellsFrom_none {m : List Host.Cell} {x : Nat} (h : cellsFrom (some x) m = true) : cellsFrom none m = true := by
  cases m with
  | nil => rfl
  | cons c t =>
    simp only [cellsFrom, Bool.and_eq_true] at h ⊢
    exact ⟨⟨trivial, h.1.2⟩, h.2⟩

/-- A write above a bound keeps the canonical form above it. -/
theorem writeCell_from {m : List Host.Cell} {x a : Nat} (v : Byte) (h : cellsFrom (some x) m = true) (ha : x < a) :
    cellsFrom (some x) (writeCell m a v) = true := by
  induction m generalizing x with
  | nil =>
    unfold writeCell
    split <;> simp_all [cellsFrom]
  | cons c t ih =>
    simp only [cellsFrom, Bool.and_eq_true, decide_eq_true_eq] at h
    unfold writeCell
    split
    · split
      · simp_all [cellsFrom]
      · next hlt hv => simp [cellsFrom, hv, ha, hlt, h.1.2, h.2]
    · split
      · split
        · exact cellsFrom_mono h.2 (Nat.le_of_lt h.1.1)
        · next he hv => subst he; simp [cellsFrom, hv, ha, h.2]
      · next h1 h2 =>
        have := ih h.2 (by omega)
        simp [cellsFrom, h.1.1, h.1.2, this]

/-- A write keeps the canonical form. -/
theorem writeCell_wf {m : List Host.Cell} (a : Nat) (v : Byte) (h : cellsWf m = true) : cellsWf (writeCell m a v) = true := by
  unfold cellsWf at *
  cases m with
  | nil => unfold writeCell; split <;> simp_all [cellsFrom]
  | cons c t =>
    simp only [cellsFrom, Bool.and_eq_true] at h
    unfold writeCell
    split
    · split
      · simp [cellsFrom, h.1.2, h.2]
      · next hlt hv => simp [cellsFrom, hv, hlt, h.1.2, h.2]
    · split
      · split
        · exact cellsFrom_none h.2
        · next he hv => subst he; simp [cellsFrom, hv, h.2]
      · next h1 h2 =>
        have := writeCell_from v h.2 (show c.1 < a by omega)
        simp [cellsFrom, h.1.2, this]

theorem writeCells_wf {m : List Host.Cell} (a : Nat) (bytes : List Byte) (h : cellsWf m = true) :
    cellsWf (writeCells m a bytes) = true := by
  induction bytes generalizing m a with
  | nil => exact h
  | cons v t ih => exact ih _ (writeCell_wf a v h)

/-- Every flash operation keeps the canonical form (R175). -/
theorem carryOut_wf {f : Flash} (op : FlashOp) (h : f.wf = true) : (f.carryOut op).wf = true := by
  cases op with
  | erase => rfl
  | program a bytes => exact writeCells_wf a bytes h

theorem completeIssued_wf {f : Flash} (v : Option Save) (h : f.wf = true) : (completeIssued f v).wf = true := by
  cases v with
  | none => exact h
  | some v => exact carryOut_wf v.op h

theorem reset_flash_wf : State.reset.flash.wf = true := rfl

/-- Below every listed address the region reads as erased. -/
theorem readCell_below {m : List Host.Cell} {x a : Nat} (h : cellsFrom (some x) m = true) (ha : a ≤ x) :
    readCell m a = erasedByte := by
  induction m generalizing x with
  | nil => rfl
  | cons c t ih =>
    simp only [cellsFrom, Bool.and_eq_true, decide_eq_true_eq] at h
    unfold readCell
    split
    · omega
    · exact ih h.2 (by omega)

/-- A read after a write in a region in canonical form: the byte written at its address, every other byte as before. -/
theorem readCell_writeCell {m : List Host.Cell} (h : cellsWf m = true) (a b : Nat) (v : Byte) :
    readCell (writeCell m a v) b = if b = a then v else readCell m b := by
  suffices H : ∀ (m : List Host.Cell) (o : Option Nat), cellsFrom o m = true →
      readCell (writeCell m a v) b = if b = a then v else readCell m b from H m none h
  intro m
  induction m with
  | nil =>
    intro o _
    by_cases hv : v = erasedByte <;> by_cases hb : b = a
    · simp [writeCell, hv, readCell]
    · simp [writeCell, hv, readCell]
    · simp [writeCell, hv, readCell, hb]
    · simp [writeCell, hv, readCell, hb, Ne.symm hb]
  | cons c t ih =>
    intro o h
    simp only [cellsFrom, Bool.and_eq_true] at h
    have ht : cellsFrom (some c.1) t = true := h.2
    unfold writeCell
    split
    · next hlt =>
      split
      · next hv =>
        split
        · next hb =>
          subst hb hv
          have hc : c.1 ≠ b := by omega
          simp only [readCell, if_neg hc]
          exact readCell_below ht (by omega)
        · rfl
      · by_cases hb : b = a
        · simp [readCell, hb]
        · simp [readCell, hb, Ne.symm hb]
    · split
      · next he =>
        by_cases hb : b = a
        · by_cases hv : v = erasedByte
          · simp only [hv, if_true, hb]
            exact readCell_below ht (by omega)
          · simp [hv, readCell, hb]
        · have hc : c.1 ≠ b := by omega
          by_cases hv : v = erasedByte
          · simp [hv, readCell, hb, hc]
          · simp [hv, readCell, hb, hc, Ne.symm hb]
      · next h1 h2 =>
        simp only [readCell, ih _ ht]
        split
        · next hb => split <;> first | rfl | omega
        · rfl

end Sys2Proof.Machine
end

