-- ==== Sys2Proof/Laws/State.lean ====
section
/-! SUPPORT. One lemma per field for each named update of State, and the lemmas of the accessors. -/

namespace Sys2Proof.Machine

open Sys2Proof

/-! ## State.raise -/

@[simp] theorem State.raise_profiles (s : State) (e : Event) : (s.raise e).profiles = s.profiles := rfl
@[simp] theorem State.raise_optics (s : State) (e : Event) : (s.raise e).optics = s.optics := rfl
@[simp] theorem State.raise_setups (s : State) (e : Event) : (s.raise e).setups = s.setups := rfl
@[simp] theorem State.raise_frame (s : State) (e : Event) : (s.raise e).frame = s.frame := rfl
@[simp] theorem State.raise_port (s : State) (e : Event) : (s.raise e).port = s.port := rfl
@[simp] theorem State.raise_engine (s : State) (e : Event) : (s.raise e).engine = s.engine := rfl
@[simp] theorem State.raise_line (s : State) (e : Event) : (s.raise e).line = s.line := rfl
@[simp] theorem State.raise_drives (s : State) (e : Event) : (s.raise e).drives = s.drives := rfl
@[simp] theorem State.raise_chans (s : State) (e : Event) : (s.raise e).chans = s.chans := rfl
@[simp] theorem State.raise_idle (s : State) (e : Event) : (s.raise e).idle = s.idle := rfl
@[simp] theorem State.raise_transport (s : State) (e : Event) : (s.raise e).transport = s.transport := rfl
@[simp] theorem State.raise_link (s : State) (e : Event) : (s.raise e).link = s.link := rfl
@[simp] theorem State.raise_events (s : State) (e : Event) : (s.raise e).events = s.events.raise e := rfl
@[simp] theorem State.raise_image (s : State) (e : Event) : (s.raise e).image = s.image := rfl
@[simp] theorem State.raise_flash (s : State) (e : Event) : (s.raise e).flash = s.flash := rfl
@[simp] theorem State.raise_outputs (s : State) (e : Event) : (s.raise e).outputs = s.outputs := rfl
@[simp] theorem State.raise_free (s : State) (e : Event) : (s.raise e).free = s.free := rfl
@[simp] theorem State.raise_pending (s : State) (e : Event) : (s.raise e).pending = s.pending := rfl

/-! ## State.answer -/

@[simp] theorem State.answer_profiles (s : State) (c : Instr) (st : Status) (b : List Byte) : (s.answer c st b).profiles = s.profiles := rfl
@[simp] theorem State.answer_optics (s : State) (c : Instr) (st : Status) (b : List Byte) : (s.answer c st b).optics = s.optics := rfl
@[simp] theorem State.answer_setups (s : State) (c : Instr) (st : Status) (b : List Byte) : (s.answer c st b).setups = s.setups := rfl
@[simp] theorem State.answer_frame (s : State) (c : Instr) (st : Status) (b : List Byte) : (s.answer c st b).frame = s.frame := rfl
@[simp] theorem State.answer_port (s : State) (c : Instr) (st : Status) (b : List Byte) : (s.answer c st b).port = s.port := rfl
@[simp] theorem State.answer_engine (s : State) (c : Instr) (st : Status) (b : List Byte) : (s.answer c st b).engine = s.engine := rfl
@[simp] theorem State.answer_line (s : State) (c : Instr) (st : Status) (b : List Byte) : (s.answer c st b).line = s.line := rfl
@[simp] theorem State.answer_drives (s : State) (c : Instr) (st : Status) (b : List Byte) : (s.answer c st b).drives = s.drives := rfl
@[simp] theorem State.answer_chans (s : State) (c : Instr) (st : Status) (b : List Byte) : (s.answer c st b).chans = s.chans := rfl
@[simp] theorem State.answer_idle (s : State) (c : Instr) (st : Status) (b : List Byte) : (s.answer c st b).idle = s.idle := rfl
@[simp] theorem State.answer_transport (s : State) (c : Instr) (st : Status) (b : List Byte) : (s.answer c st b).transport = s.transport := rfl
@[simp] theorem State.answer_link (s : State) (c : Instr) (st : Status) (b : List Byte) : (s.answer c st b).link = { s.link with answer := if s.link.awaits c then some ⟨st, b⟩ else s.link.answer } := rfl
@[simp] theorem State.answer_events (s : State) (c : Instr) (st : Status) (b : List Byte) : (s.answer c st b).events = s.events := rfl
@[simp] theorem State.answer_image (s : State) (c : Instr) (st : Status) (b : List Byte) : (s.answer c st b).image = s.image := rfl
@[simp] theorem State.answer_flash (s : State) (c : Instr) (st : Status) (b : List Byte) : (s.answer c st b).flash = s.flash := rfl
@[simp] theorem State.answer_outputs (s : State) (c : Instr) (st : Status) (b : List Byte) : (s.answer c st b).outputs = s.outputs := rfl
@[simp] theorem State.answer_free (s : State) (c : Instr) (st : Status) (b : List Byte) : (s.answer c st b).free = s.free := rfl
@[simp] theorem State.answer_pending (s : State) (c : Instr) (st : Status) (b : List Byte) : (s.answer c st b).pending = s.pending := rfl

/-- The owner's answer to the request in process waits for REQUEST_ANSWERED (R166). -/
theorem State.answer_awaited {s : State} {c : Instr} (h : s.link.awaits c = true) (st : Status) (b : List Byte) :
    s.answer c st b = { s with link := { s.link with answer := some ⟨st, b⟩ } } := by simp [State.answer, h]

/-- A request's row that the link does not await has no reply (R166). -/
theorem State.answer_unasked {s : State} {c : Instr} (h : s.link.awaits c = false) (st : Status) (b : List Byte) :
    s.answer c st b = s := by simp [State.answer, h]

/-! ## State.modProfile -/

@[simp] theorem State.modProfile_profiles (s : State) (id : Nat) (f : Profile → Profile) : (s.modProfile id f).profiles = Machine.modProfile s.profiles id f := rfl
@[simp] theorem State.modProfile_optics (s : State) (id : Nat) (f : Profile → Profile) : (s.modProfile id f).optics = s.optics := rfl
@[simp] theorem State.modProfile_setups (s : State) (id : Nat) (f : Profile → Profile) : (s.modProfile id f).setups = s.setups := rfl
@[simp] theorem State.modProfile_frame (s : State) (id : Nat) (f : Profile → Profile) : (s.modProfile id f).frame = s.frame := rfl
@[simp] theorem State.modProfile_port (s : State) (id : Nat) (f : Profile → Profile) : (s.modProfile id f).port = s.port := rfl
@[simp] theorem State.modProfile_engine (s : State) (id : Nat) (f : Profile → Profile) : (s.modProfile id f).engine = s.engine := rfl
@[simp] theorem State.modProfile_line (s : State) (id : Nat) (f : Profile → Profile) : (s.modProfile id f).line = s.line := rfl
@[simp] theorem State.modProfile_drives (s : State) (id : Nat) (f : Profile → Profile) : (s.modProfile id f).drives = s.drives := rfl
@[simp] theorem State.modProfile_chans (s : State) (id : Nat) (f : Profile → Profile) : (s.modProfile id f).chans = s.chans := rfl
@[simp] theorem State.modProfile_idle (s : State) (id : Nat) (f : Profile → Profile) : (s.modProfile id f).idle = s.idle := rfl
@[simp] theorem State.modProfile_transport (s : State) (id : Nat) (f : Profile → Profile) : (s.modProfile id f).transport = s.transport := rfl
@[simp] theorem State.modProfile_link (s : State) (id : Nat) (f : Profile → Profile) : (s.modProfile id f).link = s.link := rfl
@[simp] theorem State.modProfile_events (s : State) (id : Nat) (f : Profile → Profile) : (s.modProfile id f).events = s.events := rfl
@[simp] theorem State.modProfile_image (s : State) (id : Nat) (f : Profile → Profile) : (s.modProfile id f).image = s.image := rfl
@[simp] theorem State.modProfile_flash (s : State) (id : Nat) (f : Profile → Profile) : (s.modProfile id f).flash = s.flash := rfl
@[simp] theorem State.modProfile_outputs (s : State) (id : Nat) (f : Profile → Profile) : (s.modProfile id f).outputs = s.outputs := rfl
@[simp] theorem State.modProfile_free (s : State) (id : Nat) (f : Profile → Profile) : (s.modProfile id f).free = s.free := rfl
@[simp] theorem State.modProfile_pending (s : State) (id : Nat) (f : Profile → Profile) : (s.modProfile id f).pending = s.pending := rfl

/-! ## State.setSetup -/

@[simp] theorem State.setSetup_profiles (s : State) (i : Fin 8) (x : Setup) : (s.setSetup i x).profiles = s.profiles := rfl
@[simp] theorem State.setSetup_optics (s : State) (i : Fin 8) (x : Setup) : (s.setSetup i x).optics = s.optics := rfl
@[simp] theorem State.setSetup_setups (s : State) (i : Fin 8) (x : Setup) : (s.setSetup i x).setups = s.setups.set i x := rfl
@[simp] theorem State.setSetup_frame (s : State) (i : Fin 8) (x : Setup) : (s.setSetup i x).frame = s.frame := rfl
@[simp] theorem State.setSetup_port (s : State) (i : Fin 8) (x : Setup) : (s.setSetup i x).port = s.port := rfl
@[simp] theorem State.setSetup_engine (s : State) (i : Fin 8) (x : Setup) : (s.setSetup i x).engine = s.engine := rfl
@[simp] theorem State.setSetup_line (s : State) (i : Fin 8) (x : Setup) : (s.setSetup i x).line = s.line := rfl
@[simp] theorem State.setSetup_drives (s : State) (i : Fin 8) (x : Setup) : (s.setSetup i x).drives = s.drives := rfl
@[simp] theorem State.setSetup_chans (s : State) (i : Fin 8) (x : Setup) : (s.setSetup i x).chans = s.chans := rfl
@[simp] theorem State.setSetup_idle (s : State) (i : Fin 8) (x : Setup) : (s.setSetup i x).idle = s.idle := rfl
@[simp] theorem State.setSetup_transport (s : State) (i : Fin 8) (x : Setup) : (s.setSetup i x).transport = s.transport := rfl
@[simp] theorem State.setSetup_link (s : State) (i : Fin 8) (x : Setup) : (s.setSetup i x).link = s.link := rfl
@[simp] theorem State.setSetup_events (s : State) (i : Fin 8) (x : Setup) : (s.setSetup i x).events = s.events := rfl
@[simp] theorem State.setSetup_image (s : State) (i : Fin 8) (x : Setup) : (s.setSetup i x).image = s.image := rfl
@[simp] theorem State.setSetup_flash (s : State) (i : Fin 8) (x : Setup) : (s.setSetup i x).flash = s.flash := rfl
@[simp] theorem State.setSetup_outputs (s : State) (i : Fin 8) (x : Setup) : (s.setSetup i x).outputs = s.outputs := rfl
@[simp] theorem State.setSetup_free (s : State) (i : Fin 8) (x : Setup) : (s.setSetup i x).free = s.free := rfl
@[simp] theorem State.setSetup_pending (s : State) (i : Fin 8) (x : Setup) : (s.setSetup i x).pending = s.pending := rfl

/-! ## State.setChan -/

@[simp] theorem State.setChan_profiles (s : State) (c : Chan) (x : Channel) : (s.setChan c x).profiles = s.profiles := rfl
@[simp] theorem State.setChan_optics (s : State) (c : Chan) (x : Channel) : (s.setChan c x).optics = s.optics := rfl
@[simp] theorem State.setChan_setups (s : State) (c : Chan) (x : Channel) : (s.setChan c x).setups = s.setups := rfl
@[simp] theorem State.setChan_frame (s : State) (c : Chan) (x : Channel) : (s.setChan c x).frame = s.frame := rfl
@[simp] theorem State.setChan_port (s : State) (c : Chan) (x : Channel) : (s.setChan c x).port = s.port := rfl
@[simp] theorem State.setChan_engine (s : State) (c : Chan) (x : Channel) : (s.setChan c x).engine = s.engine := rfl
@[simp] theorem State.setChan_line (s : State) (c : Chan) (x : Channel) : (s.setChan c x).line = s.line := rfl
@[simp] theorem State.setChan_drives (s : State) (c : Chan) (x : Channel) : (s.setChan c x).drives = s.drives := rfl
@[simp] theorem State.setChan_chans (s : State) (c : Chan) (x : Channel) : (s.setChan c x).chans = s.chans.set c x := rfl
@[simp] theorem State.setChan_idle (s : State) (c : Chan) (x : Channel) : (s.setChan c x).idle = s.idle := rfl
@[simp] theorem State.setChan_transport (s : State) (c : Chan) (x : Channel) : (s.setChan c x).transport = s.transport := rfl
@[simp] theorem State.setChan_link (s : State) (c : Chan) (x : Channel) : (s.setChan c x).link = s.link := rfl
@[simp] theorem State.setChan_events (s : State) (c : Chan) (x : Channel) : (s.setChan c x).events = s.events := rfl
@[simp] theorem State.setChan_image (s : State) (c : Chan) (x : Channel) : (s.setChan c x).image = s.image := rfl
@[simp] theorem State.setChan_flash (s : State) (c : Chan) (x : Channel) : (s.setChan c x).flash = s.flash := rfl
@[simp] theorem State.setChan_outputs (s : State) (c : Chan) (x : Channel) : (s.setChan c x).outputs = s.outputs := rfl
@[simp] theorem State.setChan_free (s : State) (c : Chan) (x : Channel) : (s.setChan c x).free = s.free := rfl
@[simp] theorem State.setChan_pending (s : State) (c : Chan) (x : Channel) : (s.setChan c x).pending = s.pending := rfl

/-! ## State.setDrive -/

@[simp] theorem State.setDrive_profiles (s : State) (c : Chan) (d : Drive) : (s.setDrive c d).profiles = s.profiles := rfl
@[simp] theorem State.setDrive_optics (s : State) (c : Chan) (d : Drive) : (s.setDrive c d).optics = s.optics := rfl
@[simp] theorem State.setDrive_setups (s : State) (c : Chan) (d : Drive) : (s.setDrive c d).setups = s.setups := rfl
@[simp] theorem State.setDrive_frame (s : State) (c : Chan) (d : Drive) : (s.setDrive c d).frame = s.frame := rfl
@[simp] theorem State.setDrive_port (s : State) (c : Chan) (d : Drive) : (s.setDrive c d).port = s.port := rfl
@[simp] theorem State.setDrive_engine (s : State) (c : Chan) (d : Drive) : (s.setDrive c d).engine = s.engine := rfl
@[simp] theorem State.setDrive_line (s : State) (c : Chan) (d : Drive) : (s.setDrive c d).line = s.line := rfl
@[simp] theorem State.setDrive_drives (s : State) (c : Chan) (d : Drive) : (s.setDrive c d).drives = s.drives.set c d := rfl
@[simp] theorem State.setDrive_chans (s : State) (c : Chan) (d : Drive) : (s.setDrive c d).chans = s.chans := rfl
@[simp] theorem State.setDrive_idle (s : State) (c : Chan) (d : Drive) : (s.setDrive c d).idle = s.idle := rfl
@[simp] theorem State.setDrive_transport (s : State) (c : Chan) (d : Drive) : (s.setDrive c d).transport = s.transport := rfl
@[simp] theorem State.setDrive_link (s : State) (c : Chan) (d : Drive) : (s.setDrive c d).link = s.link := rfl
@[simp] theorem State.setDrive_events (s : State) (c : Chan) (d : Drive) : (s.setDrive c d).events = s.events := rfl
@[simp] theorem State.setDrive_image (s : State) (c : Chan) (d : Drive) : (s.setDrive c d).image = s.image := rfl
@[simp] theorem State.setDrive_flash (s : State) (c : Chan) (d : Drive) : (s.setDrive c d).flash = s.flash := rfl
@[simp] theorem State.setDrive_outputs (s : State) (c : Chan) (d : Drive) : (s.setDrive c d).outputs = s.outputs := rfl
@[simp] theorem State.setDrive_free (s : State) (c : Chan) (d : Drive) : (s.setDrive c d).free = s.free := rfl
@[simp] theorem State.setDrive_pending (s : State) (c : Chan) (d : Drive) : (s.setDrive c d).pending = s.pending := rfl

/-! ## State.drivesOff -/

@[simp] theorem State.drivesOff_profiles (s : State) : (s.drivesOff).profiles = s.profiles := rfl
@[simp] theorem State.drivesOff_optics (s : State) : (s.drivesOff).optics = s.optics := rfl
@[simp] theorem State.drivesOff_setups (s : State) : (s.drivesOff).setups = s.setups := rfl
@[simp] theorem State.drivesOff_frame (s : State) : (s.drivesOff).frame = s.frame := rfl
@[simp] theorem State.drivesOff_port (s : State) : (s.drivesOff).port = s.port := rfl
@[simp] theorem State.drivesOff_engine (s : State) : (s.drivesOff).engine = s.engine := rfl
@[simp] theorem State.drivesOff_line (s : State) : (s.drivesOff).line = s.line := rfl
@[simp] theorem State.drivesOff_drives (s : State) : (s.drivesOff).drives = ⟨.off, .off, .off⟩ := rfl
@[simp] theorem State.drivesOff_chans (s : State) : (s.drivesOff).chans = s.chans := rfl
@[simp] theorem State.drivesOff_idle (s : State) : (s.drivesOff).idle = s.idle := rfl
@[simp] theorem State.drivesOff_transport (s : State) : (s.drivesOff).transport = s.transport := rfl
@[simp] theorem State.drivesOff_link (s : State) : (s.drivesOff).link = s.link := rfl
@[simp] theorem State.drivesOff_events (s : State) : (s.drivesOff).events = s.events := rfl
@[simp] theorem State.drivesOff_image (s : State) : (s.drivesOff).image = s.image := rfl
@[simp] theorem State.drivesOff_flash (s : State) : (s.drivesOff).flash = s.flash := rfl
@[simp] theorem State.drivesOff_outputs (s : State) : (s.drivesOff).outputs = s.outputs := rfl
@[simp] theorem State.drivesOff_free (s : State) : (s.drivesOff).free = s.free := rfl
@[simp] theorem State.drivesOff_pending (s : State) : (s.drivesOff).pending = s.pending := rfl

/-! ## State.shiftOut -/

@[simp] theorem State.shiftOut_profiles (s : State) (b : List Byte) : (s.shiftOut b).profiles = s.profiles := rfl
@[simp] theorem State.shiftOut_optics (s : State) (b : List Byte) : (s.shiftOut b).optics = s.optics := rfl
@[simp] theorem State.shiftOut_setups (s : State) (b : List Byte) : (s.shiftOut b).setups = s.setups := rfl
@[simp] theorem State.shiftOut_frame (s : State) (b : List Byte) : (s.shiftOut b).frame = s.frame := rfl
@[simp] theorem State.shiftOut_port (s : State) (b : List Byte) : (s.shiftOut b).port = s.port := rfl
@[simp] theorem State.shiftOut_engine (s : State) (b : List Byte) : (s.shiftOut b).engine = s.engine := rfl
@[simp] theorem State.shiftOut_line (s : State) (b : List Byte) : (s.shiftOut b).line = s.line := rfl
@[simp] theorem State.shiftOut_drives (s : State) (b : List Byte) : (s.shiftOut b).drives = s.drives := rfl
@[simp] theorem State.shiftOut_chans (s : State) (b : List Byte) : (s.shiftOut b).chans = s.chans := rfl
@[simp] theorem State.shiftOut_idle (s : State) (b : List Byte) : (s.shiftOut b).idle = s.idle := rfl
@[simp] theorem State.shiftOut_transport (s : State) (b : List Byte) : (s.shiftOut b).transport = s.transport := rfl
@[simp] theorem State.shiftOut_link (s : State) (b : List Byte) : (s.shiftOut b).link = s.link := rfl
@[simp] theorem State.shiftOut_events (s : State) (b : List Byte) : (s.shiftOut b).events = s.events := rfl
@[simp] theorem State.shiftOut_image (s : State) (b : List Byte) : (s.shiftOut b).image = s.image := rfl
@[simp] theorem State.shiftOut_flash (s : State) (b : List Byte) : (s.shiftOut b).flash = s.flash := rfl
@[simp] theorem State.shiftOut_outputs (s : State) (b : List Byte) : (s.shiftOut b).outputs = { s.outputs with sdo := b } := rfl
@[simp] theorem State.shiftOut_free (s : State) (b : List Byte) : (s.shiftOut b).free = s.free := rfl
@[simp] theorem State.shiftOut_pending (s : State) (b : List Byte) : (s.shiftOut b).pending = s.pending := rfl

/-! ## State.modImage -/

@[simp] theorem State.modImage_profiles (s : State) (f : Image → Image) : (s.modImage f).profiles = s.profiles := rfl
@[simp] theorem State.modImage_optics (s : State) (f : Image → Image) : (s.modImage f).optics = s.optics := rfl
@[simp] theorem State.modImage_setups (s : State) (f : Image → Image) : (s.modImage f).setups = s.setups := rfl
@[simp] theorem State.modImage_frame (s : State) (f : Image → Image) : (s.modImage f).frame = s.frame := rfl
@[simp] theorem State.modImage_port (s : State) (f : Image → Image) : (s.modImage f).port = s.port := rfl
@[simp] theorem State.modImage_engine (s : State) (f : Image → Image) : (s.modImage f).engine = s.engine := rfl
@[simp] theorem State.modImage_line (s : State) (f : Image → Image) : (s.modImage f).line = s.line := rfl
@[simp] theorem State.modImage_drives (s : State) (f : Image → Image) : (s.modImage f).drives = s.drives := rfl
@[simp] theorem State.modImage_chans (s : State) (f : Image → Image) : (s.modImage f).chans = s.chans := rfl
@[simp] theorem State.modImage_idle (s : State) (f : Image → Image) : (s.modImage f).idle = s.idle := rfl
@[simp] theorem State.modImage_transport (s : State) (f : Image → Image) : (s.modImage f).transport = s.transport := rfl
@[simp] theorem State.modImage_link (s : State) (f : Image → Image) : (s.modImage f).link = s.link := rfl
@[simp] theorem State.modImage_events (s : State) (f : Image → Image) : (s.modImage f).events = s.events := rfl
@[simp] theorem State.modImage_image (s : State) (f : Image → Image) : (s.modImage f).image = f s.image := rfl
@[simp] theorem State.modImage_flash (s : State) (f : Image → Image) : (s.modImage f).flash = s.flash := rfl
@[simp] theorem State.modImage_outputs (s : State) (f : Image → Image) : (s.modImage f).outputs = s.outputs := rfl
@[simp] theorem State.modImage_free (s : State) (f : Image → Image) : (s.modImage f).free = s.free := rfl
@[simp] theorem State.modImage_pending (s : State) (f : Image → Image) : (s.modImage f).pending = s.pending := rfl

/-! ## Accessors -/

@[simp] theorem State.raise_inFlight (s : State) (e : Event) : (s.raise e).inFlight = s.inFlight := rfl
@[simp] theorem State.setChan_inFlight (s : State) (c : Chan) (x : Channel) : (s.setChan c x).inFlight = s.inFlight := rfl
@[simp] theorem State.setDrive_inFlight (s : State) (c : Chan) (d : Drive) : (s.setDrive c d).inFlight = s.inFlight := rfl
@[simp] theorem State.drivesOff_inFlight (s : State) : s.drivesOff.inFlight = s.inFlight := rfl
@[simp] theorem State.answer_inFlight (s : State) (c : Instr) (st : Status) (b : List Byte) : (s.answer c st b).inFlight = s.inFlight := rfl
@[simp] theorem State.raise_chan (s : State) (e : Event) (c : Chan) : (s.raise e).chan c = s.chan c := rfl
@[simp] theorem State.raise_setup (s : State) (e : Event) (i : Fin 8) : (s.raise e).setup i = s.setup i := rfl
@[simp] theorem State.raise_groupBusy (s : State) (e : Event) : (s.raise e).groupBusy = s.groupBusy := rfl

@[simp] theorem Rgb.get_set_self {α : Type} (x : Rgb α) (c : Chan) (v : α) : (x.set c v).get c = v := by cases c <;> rfl

theorem Rgb.get_set_of_ne {α : Type} (x : Rgb α) {c d : Chan} (v : α) (h : d ≠ c) : (x.set c v).get d = x.get d := by
  cases c <;> cases d <;> first | rfl | exact absurd rfl h

theorem Rgb.get_set {α : Type} (x : Rgb α) (c d : Chan) (v : α) : (x.set c v).get d = if d = c then v else x.get d := by
  cases c <;> cases d <;> rfl

@[simp] theorem Rgb.get_map {α β : Type} (x : Rgb α) (f : α → β) (c : Chan) : (x.map f).get c = f (x.get c) := by cases c <;> rfl

theorem Rgb.all_iff {α : Type} (p : α → Bool) (x : Rgb α) : x.all p = true ↔ ∀ c, p (x.get c) = true := by
  constructor
  · intro h c
    simp only [Rgb.all, Bool.and_eq_true] at h
    cases c <;> simp [Rgb.get, h]
  · intro h
    simp only [Rgb.all, Bool.and_eq_true]
    exact ⟨⟨h .red, h .grn⟩, h .blu⟩

theorem Rgb.ext_get {α : Type} {x y : Rgb α} (h : ∀ c, x.get c = y.get c) : x = y := by
  cases x; cases y
  have r := h .red
  have g := h .grn
  have b := h .blu
  simp_all [Rgb.get]

@[simp] theorem State.setChan_chan_self (s : State) (c : Chan) (x : Channel) : (s.setChan c x).chan c = x := by
  simp [State.chan]

theorem State.setChan_chan (s : State) (c d : Chan) (x : Channel) : (s.setChan c x).chan d = if d = c then x else s.chan d := by
  simp [State.chan, Rgb.get_set]

@[simp] theorem State.setSetup_setup_self (s : State) (i : Fin 8) (x : Setup) : (s.setSetup i x).setup i = x := by
  simp [State.setup]

theorem State.setSetup_setup (s : State) (i j : Fin 8) (x : Setup) : (s.setSetup i x).setup j = if j = i then x else s.setup j := by
  by_cases h : j = i
  · subst h; simp [State.setup]
  · have h' : (i : Nat) ≠ j := fun e => h (Fin.ext e.symm)
    simp [State.setup, h, h']

/-- A buffer replaced is read back at its parity; the other buffer is as it was (R110). -/
theorem Port.buf_setBuf (p : Port) (m n : Nat) (b : LineBuffer) :
    (p.setBuf n b).buf m = if m % 2 = n % 2 then b else p.buf m := by
  have hm := Nat.mod_two_eq_zero_or_one m
  have hn := Nat.mod_two_eq_zero_or_one n
  rcases hm with hm | hm <;> rcases hn with hn | hn <;> simp [Port.buf, Port.setBuf, hm, hn]

@[simp] theorem Port.flush_buf (p : Port) (n : Nat) : p.flush.buf n = .cleared := by
  unfold Port.buf Port.flush; split <;> rfl

end Sys2Proof.Machine
end

