-- ==== Sys2Proof/Laws/Ops.lean ====
section
/-! SUPPORT. For each shared operation of Machine/FrameOps.lean, the fields of State that it leaves as they are, one lemma per field. -/

namespace Sys2Proof.Machine

open Sys2Proof

/-! ## issuePull -/

@[simp] theorem issuePull_profiles (s : State) : (issuePull s).profiles = s.profiles := by
  unfold issuePull
  repeat (first | rfl | split | simp)
@[simp] theorem issuePull_optics (s : State) : (issuePull s).optics = s.optics := by
  unfold issuePull
  repeat (first | rfl | split | simp)
@[simp] theorem issuePull_setups (s : State) : (issuePull s).setups = s.setups := by
  unfold issuePull
  repeat (first | rfl | split | simp)
@[simp] theorem issuePull_frame (s : State) : (issuePull s).frame = s.frame := by
  unfold issuePull
  repeat (first | rfl | split | simp)
@[simp] theorem issuePull_port (s : State) : (issuePull s).port = s.port := by
  unfold issuePull
  repeat (first | rfl | split | simp)
@[simp] theorem issuePull_engine (s : State) : (issuePull s).engine = s.engine := by
  unfold issuePull
  repeat (first | rfl | split | simp)
@[simp] theorem issuePull_line (s : State) : (issuePull s).line = s.line := by
  unfold issuePull
  repeat (first | rfl | split | simp)
@[simp] theorem issuePull_drives (s : State) : (issuePull s).drives = s.drives := by
  unfold issuePull
  repeat (first | rfl | split | simp)
@[simp] theorem issuePull_chans (s : State) : (issuePull s).chans = s.chans := by
  unfold issuePull
  repeat (first | rfl | split | simp)
@[simp] theorem issuePull_idle (s : State) : (issuePull s).idle = s.idle := by
  unfold issuePull
  repeat (first | rfl | split | simp)
@[simp] theorem issuePull_link (s : State) : (issuePull s).link = s.link := by
  unfold issuePull
  repeat (first | rfl | split | simp)
@[simp] theorem issuePull_image (s : State) : (issuePull s).image = s.image := by
  unfold issuePull
  repeat (first | rfl | split | simp)
@[simp] theorem issuePull_flash (s : State) : (issuePull s).flash = s.flash := by
  unfold issuePull
  repeat (first | rfl | split | simp)
@[simp] theorem issuePull_free (s : State) : (issuePull s).free = s.free := by
  unfold issuePull
  repeat (first | rfl | split | simp)
@[simp] theorem issuePull_pending (s : State) : (issuePull s).pending = s.pending := by
  unfold issuePull
  repeat (first | rfl | split | simp)

/-! ## advancePull -/

@[simp] theorem advancePull_profiles (s : State) : (advancePull s).profiles = s.profiles := by
  unfold advancePull
  repeat (first | rfl | split | simp)
@[simp] theorem advancePull_optics (s : State) : (advancePull s).optics = s.optics := by
  unfold advancePull
  repeat (first | rfl | split | simp)
@[simp] theorem advancePull_setups (s : State) : (advancePull s).setups = s.setups := by
  unfold advancePull
  repeat (first | rfl | split | simp)
@[simp] theorem advancePull_frame (s : State) : (advancePull s).frame = s.frame := by
  unfold advancePull
  repeat (first | rfl | split | simp)
@[simp] theorem advancePull_port (s : State) : (advancePull s).port = s.port := by
  unfold advancePull
  repeat (first | rfl | split | simp)
@[simp] theorem advancePull_engine (s : State) : (advancePull s).engine = s.engine := by
  unfold advancePull
  repeat (first | rfl | split | simp)
@[simp] theorem advancePull_line (s : State) : (advancePull s).line = s.line := by
  unfold advancePull
  repeat (first | rfl | split | simp)
@[simp] theorem advancePull_drives (s : State) : (advancePull s).drives = s.drives := by
  unfold advancePull
  repeat (first | rfl | split | simp)
@[simp] theorem advancePull_chans (s : State) : (advancePull s).chans = s.chans := by
  unfold advancePull
  repeat (first | rfl | split | simp)
@[simp] theorem advancePull_idle (s : State) : (advancePull s).idle = s.idle := by
  unfold advancePull
  repeat (first | rfl | split | simp)
@[simp] theorem advancePull_link (s : State) : (advancePull s).link = s.link := by
  unfold advancePull
  repeat (first | rfl | split | simp)
@[simp] theorem advancePull_image (s : State) : (advancePull s).image = s.image := by
  unfold advancePull
  repeat (first | rfl | split | simp)
@[simp] theorem advancePull_flash (s : State) : (advancePull s).flash = s.flash := by
  unfold advancePull
  repeat (first | rfl | split | simp)
@[simp] theorem advancePull_free (s : State) : (advancePull s).free = s.free := by
  unfold advancePull
  repeat (first | rfl | split | simp)
@[simp] theorem advancePull_pending (s : State) : (advancePull s).pending = s.pending := by
  unfold advancePull
  repeat (first | rfl | split | simp)

/-! ## endAdvance -/

@[simp] theorem endAdvance_profiles (s : State) (l : LastAdvance) : (endAdvance s l).profiles = s.profiles := by
  unfold endAdvance
  repeat (first | rfl | split | simp)
@[simp] theorem endAdvance_optics (s : State) (l : LastAdvance) : (endAdvance s l).optics = s.optics := by
  unfold endAdvance
  repeat (first | rfl | split | simp)
@[simp] theorem endAdvance_setups (s : State) (l : LastAdvance) : (endAdvance s l).setups = s.setups := by
  unfold endAdvance
  repeat (first | rfl | split | simp)
@[simp] theorem endAdvance_frame (s : State) (l : LastAdvance) : (endAdvance s l).frame = s.frame := by
  unfold endAdvance
  repeat (first | rfl | split | simp)
@[simp] theorem endAdvance_port (s : State) (l : LastAdvance) : (endAdvance s l).port = s.port := by
  unfold endAdvance
  repeat (first | rfl | split | simp)
@[simp] theorem endAdvance_engine (s : State) (l : LastAdvance) : (endAdvance s l).engine = s.engine := by
  unfold endAdvance
  repeat (first | rfl | split | simp)
@[simp] theorem endAdvance_line (s : State) (l : LastAdvance) : (endAdvance s l).line = s.line := by
  unfold endAdvance
  repeat (first | rfl | split | simp)
@[simp] theorem endAdvance_drives (s : State) (l : LastAdvance) : (endAdvance s l).drives = s.drives := by
  unfold endAdvance
  repeat (first | rfl | split | simp)
@[simp] theorem endAdvance_chans (s : State) (l : LastAdvance) : (endAdvance s l).chans = s.chans := by
  unfold endAdvance
  repeat (first | rfl | split | simp)
@[simp] theorem endAdvance_idle (s : State) (l : LastAdvance) : (endAdvance s l).idle = s.idle := by
  unfold endAdvance
  repeat (first | rfl | split | simp)
@[simp] theorem endAdvance_link (s : State) (l : LastAdvance) : (endAdvance s l).link = s.link := by
  unfold endAdvance
  repeat (first | rfl | split | simp)
@[simp] theorem endAdvance_events (s : State) (l : LastAdvance) : (endAdvance s l).events = s.events := by
  unfold endAdvance
  repeat (first | rfl | split | simp)
@[simp] theorem endAdvance_image (s : State) (l : LastAdvance) : (endAdvance s l).image = s.image := by
  unfold endAdvance
  repeat (first | rfl | split | simp)
@[simp] theorem endAdvance_flash (s : State) (l : LastAdvance) : (endAdvance s l).flash = s.flash := by
  unfold endAdvance
  repeat (first | rfl | split | simp)
@[simp] theorem endAdvance_outputs (s : State) (l : LastAdvance) : (endAdvance s l).outputs = s.outputs := by
  unfold endAdvance
  repeat (first | rfl | split | simp)
@[simp] theorem endAdvance_free (s : State) (l : LastAdvance) : (endAdvance s l).free = s.free := by
  unfold endAdvance
  repeat (first | rfl | split | simp)
@[simp] theorem endAdvance_pending (s : State) (l : LastAdvance) : (endAdvance s l).pending = s.pending := by
  unfold endAdvance
  repeat (first | rfl | split | simp)

/-! ## resumeAdvance -/

@[simp] theorem resumeAdvance_profiles (s : State) : (resumeAdvance s).profiles = s.profiles := by
  unfold resumeAdvance
  repeat (first | rfl | split | simp)
@[simp] theorem resumeAdvance_optics (s : State) : (resumeAdvance s).optics = s.optics := by
  unfold resumeAdvance
  repeat (first | rfl | split | simp)
@[simp] theorem resumeAdvance_setups (s : State) : (resumeAdvance s).setups = s.setups := by
  unfold resumeAdvance
  repeat (first | rfl | split | simp)
@[simp] theorem resumeAdvance_frame (s : State) : (resumeAdvance s).frame = s.frame := by
  unfold resumeAdvance
  repeat (first | rfl | split | simp)
@[simp] theorem resumeAdvance_port (s : State) : (resumeAdvance s).port = s.port := by
  unfold resumeAdvance
  repeat (first | rfl | split | simp)
@[simp] theorem resumeAdvance_engine (s : State) : (resumeAdvance s).engine = s.engine := by
  unfold resumeAdvance
  repeat (first | rfl | split | simp)
@[simp] theorem resumeAdvance_line (s : State) : (resumeAdvance s).line = s.line := by
  unfold resumeAdvance
  repeat (first | rfl | split | simp)
@[simp] theorem resumeAdvance_drives (s : State) : (resumeAdvance s).drives = s.drives := by
  unfold resumeAdvance
  repeat (first | rfl | split | simp)
@[simp] theorem resumeAdvance_chans (s : State) : (resumeAdvance s).chans = s.chans := by
  unfold resumeAdvance
  repeat (first | rfl | split | simp)
@[simp] theorem resumeAdvance_idle (s : State) : (resumeAdvance s).idle = s.idle := by
  unfold resumeAdvance
  repeat (first | rfl | split | simp)
@[simp] theorem resumeAdvance_link (s : State) : (resumeAdvance s).link = s.link := by
  unfold resumeAdvance
  repeat (first | rfl | split | simp)
@[simp] theorem resumeAdvance_image (s : State) : (resumeAdvance s).image = s.image := by
  unfold resumeAdvance
  repeat (first | rfl | split | simp)
@[simp] theorem resumeAdvance_flash (s : State) : (resumeAdvance s).flash = s.flash := by
  unfold resumeAdvance
  repeat (first | rfl | split | simp)
@[simp] theorem resumeAdvance_free (s : State) : (resumeAdvance s).free = s.free := by
  unfold resumeAdvance
  repeat (first | rfl | split | simp)
@[simp] theorem resumeAdvance_pending (s : State) : (resumeAdvance s).pending = s.pending := by
  unfold resumeAdvance
  repeat (first | rfl | split | simp)

/-! ## groupEnded -/

@[simp] theorem groupEnded_profiles (s : State) (k : GroupKind) : (groupEnded s k).profiles = s.profiles := by
  unfold groupEnded
  repeat (first | rfl | split | simp)
@[simp] theorem groupEnded_optics (s : State) (k : GroupKind) : (groupEnded s k).optics = s.optics := by
  unfold groupEnded
  repeat (first | rfl | split | simp)
@[simp] theorem groupEnded_setups (s : State) (k : GroupKind) : (groupEnded s k).setups = s.setups := by
  unfold groupEnded
  repeat (first | rfl | split | simp)
@[simp] theorem groupEnded_port (s : State) (k : GroupKind) : (groupEnded s k).port = s.port := by
  unfold groupEnded
  repeat (first | rfl | split | simp)
@[simp] theorem groupEnded_engine (s : State) (k : GroupKind) : (groupEnded s k).engine = s.engine := by
  unfold groupEnded
  repeat (first | rfl | split | simp)
@[simp] theorem groupEnded_line (s : State) (k : GroupKind) : (groupEnded s k).line = s.line := by
  unfold groupEnded
  repeat (first | rfl | split | simp)
@[simp] theorem groupEnded_drives (s : State) (k : GroupKind) : (groupEnded s k).drives = s.drives := by
  unfold groupEnded
  repeat (first | rfl | split | simp)
@[simp] theorem groupEnded_chans (s : State) (k : GroupKind) : (groupEnded s k).chans = s.chans := by
  unfold groupEnded
  repeat (first | rfl | split | simp)
@[simp] theorem groupEnded_idle (s : State) (k : GroupKind) : (groupEnded s k).idle = s.idle := by
  unfold groupEnded
  repeat (first | rfl | split | simp)
@[simp] theorem groupEnded_link (s : State) (k : GroupKind) : (groupEnded s k).link = s.link := by
  unfold groupEnded
  repeat (first | rfl | split | simp)
@[simp] theorem groupEnded_image (s : State) (k : GroupKind) : (groupEnded s k).image = s.image := by
  unfold groupEnded
  repeat (first | rfl | split | simp)
@[simp] theorem groupEnded_flash (s : State) (k : GroupKind) : (groupEnded s k).flash = s.flash := by
  unfold groupEnded
  repeat (first | rfl | split | simp)
@[simp] theorem groupEnded_free (s : State) (k : GroupKind) : (groupEnded s k).free = s.free := by
  unfold groupEnded
  repeat (first | rfl | split | simp)
@[simp] theorem groupEnded_pending (s : State) (k : GroupKind) : (groupEnded s k).pending = s.pending := by
  unfold groupEnded
  repeat (first | rfl | split | simp)

/-! ## beginGroup -/

@[simp] theorem beginGroup_profiles (s : State) (k : GroupKind) (n : Nat) : (beginGroup s k n).profiles = s.profiles := by
  unfold beginGroup
  repeat (first | rfl | split | simp)
@[simp] theorem beginGroup_optics (s : State) (k : GroupKind) (n : Nat) : (beginGroup s k n).optics = s.optics := by
  unfold beginGroup
  repeat (first | rfl | split | simp)
@[simp] theorem beginGroup_setups (s : State) (k : GroupKind) (n : Nat) : (beginGroup s k n).setups = s.setups := by
  unfold beginGroup
  repeat (first | rfl | split | simp)
@[simp] theorem beginGroup_port (s : State) (k : GroupKind) (n : Nat) : (beginGroup s k n).port = s.port := by
  unfold beginGroup
  repeat (first | rfl | split | simp)
@[simp] theorem beginGroup_engine (s : State) (k : GroupKind) (n : Nat) : (beginGroup s k n).engine = s.engine := by
  unfold beginGroup
  repeat (first | rfl | split | simp)
@[simp] theorem beginGroup_line (s : State) (k : GroupKind) (n : Nat) : (beginGroup s k n).line = s.line := by
  unfold beginGroup
  repeat (first | rfl | split | simp)
@[simp] theorem beginGroup_drives (s : State) (k : GroupKind) (n : Nat) : (beginGroup s k n).drives = s.drives := by
  unfold beginGroup
  repeat (first | rfl | split | simp)
@[simp] theorem beginGroup_chans (s : State) (k : GroupKind) (n : Nat) : (beginGroup s k n).chans = s.chans := by
  unfold beginGroup
  repeat (first | rfl | split | simp)
@[simp] theorem beginGroup_idle (s : State) (k : GroupKind) (n : Nat) : (beginGroup s k n).idle = s.idle := by
  unfold beginGroup
  repeat (first | rfl | split | simp)
@[simp] theorem beginGroup_link (s : State) (k : GroupKind) (n : Nat) : (beginGroup s k n).link = s.link := by
  unfold beginGroup
  repeat (first | rfl | split | simp)
@[simp] theorem beginGroup_image (s : State) (k : GroupKind) (n : Nat) : (beginGroup s k n).image = s.image := by
  unfold beginGroup
  repeat (first | rfl | split | simp)
@[simp] theorem beginGroup_flash (s : State) (k : GroupKind) (n : Nat) : (beginGroup s k n).flash = s.flash := by
  unfold beginGroup
  repeat (first | rfl | split | simp)
@[simp] theorem beginGroup_free (s : State) (k : GroupKind) (n : Nat) : (beginGroup s k n).free = s.free := by
  unfold beginGroup
  repeat (first | rfl | split | simp)
@[simp] theorem beginGroup_pending (s : State) (k : GroupKind) (n : Nat) : (beginGroup s k n).pending = s.pending := by
  unfold beginGroup
  repeat (first | rfl | split | simp)

/-! ## windowPassed -/

@[simp] theorem windowPassed_profiles (s : State) : (windowPassed s).profiles = s.profiles := by
  unfold windowPassed
  repeat (first | rfl | split | simp)
@[simp] theorem windowPassed_optics (s : State) : (windowPassed s).optics = s.optics := by
  unfold windowPassed
  repeat (first | rfl | split | simp)
@[simp] theorem windowPassed_setups (s : State) : (windowPassed s).setups = s.setups := by
  unfold windowPassed
  repeat (first | rfl | split | simp)
@[simp] theorem windowPassed_port (s : State) : (windowPassed s).port = s.port := by
  unfold windowPassed
  repeat (first | rfl | split | simp)
@[simp] theorem windowPassed_engine (s : State) : (windowPassed s).engine = s.engine := by
  unfold windowPassed
  repeat (first | rfl | split | simp)
@[simp] theorem windowPassed_line (s : State) : (windowPassed s).line = s.line := by
  unfold windowPassed
  repeat (first | rfl | split | simp)
@[simp] theorem windowPassed_drives (s : State) : (windowPassed s).drives = s.drives := by
  unfold windowPassed
  repeat (first | rfl | split | simp)
@[simp] theorem windowPassed_chans (s : State) : (windowPassed s).chans = s.chans := by
  unfold windowPassed
  repeat (first | rfl | split | simp)
@[simp] theorem windowPassed_idle (s : State) : (windowPassed s).idle = s.idle := by
  unfold windowPassed
  repeat (first | rfl | split | simp)
@[simp] theorem windowPassed_link (s : State) : (windowPassed s).link = s.link := by
  unfold windowPassed
  repeat (first | rfl | split | simp)
@[simp] theorem windowPassed_image (s : State) : (windowPassed s).image = s.image := by
  unfold windowPassed
  repeat (first | rfl | split | simp)
@[simp] theorem windowPassed_flash (s : State) : (windowPassed s).flash = s.flash := by
  unfold windowPassed
  repeat (first | rfl | split | simp)
@[simp] theorem windowPassed_free (s : State) : (windowPassed s).free = s.free := by
  unfold windowPassed
  repeat (first | rfl | split | simp)
@[simp] theorem windowPassed_pending (s : State) : (windowPassed s).pending = s.pending := by
  unfold windowPassed
  repeat (first | rfl | split | simp)

/-! ## endWindow -/

@[simp] theorem endWindow_profiles (s : State) : (endWindow s).profiles = s.profiles := by
  unfold endWindow
  repeat (first | rfl | split | simp)
@[simp] theorem endWindow_optics (s : State) : (endWindow s).optics = s.optics := by
  unfold endWindow
  repeat (first | rfl | split | simp)
@[simp] theorem endWindow_setups (s : State) : (endWindow s).setups = s.setups := by
  unfold endWindow
  repeat (first | rfl | split | simp)
@[simp] theorem endWindow_port (s : State) : (endWindow s).port = s.port := by
  unfold endWindow
  repeat (first | rfl | split | simp)
@[simp] theorem endWindow_line (s : State) : (endWindow s).line = s.line := by
  unfold endWindow
  repeat (first | rfl | split | simp)
@[simp] theorem endWindow_chans (s : State) : (endWindow s).chans = s.chans := by
  unfold endWindow
  repeat (first | rfl | split | simp)
@[simp] theorem endWindow_idle (s : State) : (endWindow s).idle = s.idle := by
  unfold endWindow
  repeat (first | rfl | split | simp)
@[simp] theorem endWindow_link (s : State) : (endWindow s).link = s.link := by
  unfold endWindow
  repeat (first | rfl | split | simp)
@[simp] theorem endWindow_image (s : State) : (endWindow s).image = s.image := by
  unfold endWindow
  repeat (first | rfl | split | simp)
@[simp] theorem endWindow_flash (s : State) : (endWindow s).flash = s.flash := by
  unfold endWindow
  repeat (first | rfl | split | simp)
@[simp] theorem endWindow_free (s : State) : (endWindow s).free = s.free := by
  unfold endWindow
  repeat (first | rfl | split | simp)
@[simp] theorem endWindow_pending (s : State) : (endWindow s).pending = s.pending := by
  unfold endWindow
  repeat (first | rfl | split | simp)

/-! ## dropSample -/

@[simp] theorem dropSample_profiles (s : State) (c : Chan) : (dropSample s c).profiles = s.profiles := by
  unfold dropSample
  repeat (first | rfl | split | simp)
@[simp] theorem dropSample_optics (s : State) (c : Chan) : (dropSample s c).optics = s.optics := by
  unfold dropSample
  repeat (first | rfl | split | simp)
@[simp] theorem dropSample_setups (s : State) (c : Chan) : (dropSample s c).setups = s.setups := by
  unfold dropSample
  repeat (first | rfl | split | simp)
@[simp] theorem dropSample_port (s : State) (c : Chan) : (dropSample s c).port = s.port := by
  unfold dropSample
  repeat (first | rfl | split | simp)
@[simp] theorem dropSample_line (s : State) (c : Chan) : (dropSample s c).line = s.line := by
  unfold dropSample
  repeat (first | rfl | split | simp)
@[simp] theorem dropSample_chans (s : State) (c : Chan) : (dropSample s c).chans = s.chans := by
  unfold dropSample
  repeat (first | rfl | split | simp)
@[simp] theorem dropSample_idle (s : State) (c : Chan) : (dropSample s c).idle = s.idle := by
  unfold dropSample
  repeat (first | rfl | split | simp)
@[simp] theorem dropSample_link (s : State) (c : Chan) : (dropSample s c).link = s.link := by
  unfold dropSample
  repeat (first | rfl | split | simp)
@[simp] theorem dropSample_image (s : State) (c : Chan) : (dropSample s c).image = s.image := by
  unfold dropSample
  repeat (first | rfl | split | simp)
@[simp] theorem dropSample_flash (s : State) (c : Chan) : (dropSample s c).flash = s.flash := by
  unfold dropSample
  repeat (first | rfl | split | simp)
@[simp] theorem dropSample_free (s : State) (c : Chan) : (dropSample s c).free = s.free := by
  unfold dropSample
  repeat (first | rfl | split | simp)
@[simp] theorem dropSample_pending (s : State) (c : Chan) : (dropSample s c).pending = s.pending := by
  unfold dropSample
  repeat (first | rfl | split | simp)

/-! ## returnPins -/

@[simp] theorem returnPins_setups (s : State) (x : Bool) : (returnPins s x).setups = s.setups := by
  unfold returnPins
  repeat (first | rfl | split | simp)
@[simp] theorem returnPins_frame (s : State) (x : Bool) : (returnPins s x).frame = s.frame := by
  unfold returnPins
  repeat (first | rfl | split | simp)
@[simp] theorem returnPins_port (s : State) (x : Bool) : (returnPins s x).port = s.port := by
  unfold returnPins
  repeat (first | rfl | split | simp)
@[simp] theorem returnPins_engine (s : State) (x : Bool) : (returnPins s x).engine = s.engine := by
  unfold returnPins
  repeat (first | rfl | split | simp)
@[simp] theorem returnPins_line (s : State) (x : Bool) : (returnPins s x).line = s.line := by
  unfold returnPins
  repeat (first | rfl | split | simp)
@[simp] theorem returnPins_drives (s : State) (x : Bool) : (returnPins s x).drives = s.drives := by
  unfold returnPins
  repeat (first | rfl | split | simp)
@[simp] theorem returnPins_chans (s : State) (x : Bool) : (returnPins s x).chans = s.chans := by
  unfold returnPins
  repeat (first | rfl | split | simp)
@[simp] theorem returnPins_idle (s : State) (x : Bool) : (returnPins s x).idle = s.idle := by
  unfold returnPins
  repeat (first | rfl | split | simp)
@[simp] theorem returnPins_transport (s : State) (x : Bool) : (returnPins s x).transport = s.transport := by
  unfold returnPins
  repeat (first | rfl | split | simp)
@[simp] theorem returnPins_link (s : State) (x : Bool) : (returnPins s x).link = s.link := by
  unfold returnPins
  repeat (first | rfl | split | simp)
@[simp] theorem returnPins_image (s : State) (x : Bool) : (returnPins s x).image = s.image := by
  unfold returnPins
  repeat (first | rfl | split | simp)
@[simp] theorem returnPins_flash (s : State) (x : Bool) : (returnPins s x).flash = s.flash := by
  unfold returnPins
  repeat (first | rfl | split | simp)
@[simp] theorem returnPins_outputs (s : State) (x : Bool) : (returnPins s x).outputs = s.outputs := by
  unfold returnPins
  repeat (first | rfl | split | simp)
@[simp] theorem returnPins_free (s : State) (x : Bool) : (returnPins s x).free = s.free := by
  unfold returnPins
  repeat (first | rfl | split | simp)
@[simp] theorem returnPins_pending (s : State) (x : Bool) : (returnPins s x).pending = s.pending := by
  unfold returnPins
  repeat (first | rfl | split | simp)

/-! ## chargeFrame -/

@[simp] theorem chargeFrame_profiles (s : State) (r : Result) (c : Option Cause) : (chargeFrame s r c).profiles = s.profiles := by
  unfold chargeFrame
  repeat (first | rfl | split | simp)
@[simp] theorem chargeFrame_optics (s : State) (r : Result) (c : Option Cause) : (chargeFrame s r c).optics = s.optics := by
  unfold chargeFrame
  repeat (first | rfl | split | simp)
@[simp] theorem chargeFrame_frame (s : State) (r : Result) (c : Option Cause) : (chargeFrame s r c).frame = s.frame := by
  unfold chargeFrame
  repeat (first | rfl | split | simp)
@[simp] theorem chargeFrame_port (s : State) (r : Result) (c : Option Cause) : (chargeFrame s r c).port = s.port := by
  unfold chargeFrame
  repeat (first | rfl | split | simp)
@[simp] theorem chargeFrame_engine (s : State) (r : Result) (c : Option Cause) : (chargeFrame s r c).engine = s.engine := by
  unfold chargeFrame
  repeat (first | rfl | split | simp)
@[simp] theorem chargeFrame_line (s : State) (r : Result) (c : Option Cause) : (chargeFrame s r c).line = s.line := by
  unfold chargeFrame
  repeat (first | rfl | split | simp)
@[simp] theorem chargeFrame_drives (s : State) (r : Result) (c : Option Cause) : (chargeFrame s r c).drives = s.drives := by
  unfold chargeFrame
  repeat (first | rfl | split | simp)
@[simp] theorem chargeFrame_chans (s : State) (r : Result) (c : Option Cause) : (chargeFrame s r c).chans = s.chans := by
  unfold chargeFrame
  repeat (first | rfl | split | simp)
@[simp] theorem chargeFrame_idle (s : State) (r : Result) (c : Option Cause) : (chargeFrame s r c).idle = s.idle := by
  unfold chargeFrame
  repeat (first | rfl | split | simp)
@[simp] theorem chargeFrame_transport (s : State) (r : Result) (c : Option Cause) : (chargeFrame s r c).transport = s.transport := by
  unfold chargeFrame
  repeat (first | rfl | split | simp)
@[simp] theorem chargeFrame_link (s : State) (r : Result) (c : Option Cause) : (chargeFrame s r c).link = s.link := by
  unfold chargeFrame
  repeat (first | rfl | split | simp)
@[simp] theorem chargeFrame_events (s : State) (r : Result) (c : Option Cause) : (chargeFrame s r c).events = s.events := by
  unfold chargeFrame
  repeat (first | rfl | split | simp)
@[simp] theorem chargeFrame_image (s : State) (r : Result) (c : Option Cause) : (chargeFrame s r c).image = s.image := by
  unfold chargeFrame
  repeat (first | rfl | split | simp)
@[simp] theorem chargeFrame_flash (s : State) (r : Result) (c : Option Cause) : (chargeFrame s r c).flash = s.flash := by
  unfold chargeFrame
  repeat (first | rfl | split | simp)
@[simp] theorem chargeFrame_outputs (s : State) (r : Result) (c : Option Cause) : (chargeFrame s r c).outputs = s.outputs := by
  unfold chargeFrame
  repeat (first | rfl | split | simp)
@[simp] theorem chargeFrame_free (s : State) (r : Result) (c : Option Cause) : (chargeFrame s r c).free = s.free := by
  unfold chargeFrame
  repeat (first | rfl | split | simp)
@[simp] theorem chargeFrame_pending (s : State) (r : Result) (c : Option Cause) : (chargeFrame s r c).pending = s.pending := by
  unfold chargeFrame
  repeat (first | rfl | split | simp)

/-! ## leaveFlight -/

@[simp] theorem leaveFlight_profiles (s : State) (r : Result) (c : Option Cause) : (leaveFlight s r c).profiles = s.profiles := by
  unfold leaveFlight
  repeat (first | rfl | split | simp)
@[simp] theorem leaveFlight_optics (s : State) (r : Result) (c : Option Cause) : (leaveFlight s r c).optics = s.optics := by
  unfold leaveFlight
  repeat (first | rfl | split | simp)
@[simp] theorem leaveFlight_setups (s : State) (r : Result) (c : Option Cause) : (leaveFlight s r c).setups = s.setups := by
  unfold leaveFlight
  repeat (first | rfl | split | simp)
@[simp] theorem leaveFlight_port (s : State) (r : Result) (c : Option Cause) : (leaveFlight s r c).port = s.port := by
  unfold leaveFlight
  repeat (first | rfl | split | simp)
@[simp] theorem leaveFlight_engine (s : State) (r : Result) (c : Option Cause) : (leaveFlight s r c).engine = s.engine := by
  unfold leaveFlight
  repeat (first | rfl | split | simp)
@[simp] theorem leaveFlight_line (s : State) (r : Result) (c : Option Cause) : (leaveFlight s r c).line = s.line := by
  unfold leaveFlight
  repeat (first | rfl | split | simp)
@[simp] theorem leaveFlight_drives (s : State) (r : Result) (c : Option Cause) : (leaveFlight s r c).drives = s.drives := by
  unfold leaveFlight
  repeat (first | rfl | split | simp)
@[simp] theorem leaveFlight_chans (s : State) (r : Result) (c : Option Cause) : (leaveFlight s r c).chans = s.chans := by
  unfold leaveFlight
  repeat (first | rfl | split | simp)
@[simp] theorem leaveFlight_transport (s : State) (r : Result) (c : Option Cause) : (leaveFlight s r c).transport = s.transport := by
  unfold leaveFlight
  repeat (first | rfl | split | simp)
@[simp] theorem leaveFlight_link (s : State) (r : Result) (c : Option Cause) : (leaveFlight s r c).link = s.link := by
  unfold leaveFlight
  repeat (first | rfl | split | simp)
@[simp] theorem leaveFlight_events (s : State) (r : Result) (c : Option Cause) : (leaveFlight s r c).events = s.events := by
  unfold leaveFlight
  repeat (first | rfl | split | simp)
@[simp] theorem leaveFlight_image (s : State) (r : Result) (c : Option Cause) : (leaveFlight s r c).image = s.image := by
  unfold leaveFlight
  repeat (first | rfl | split | simp)
@[simp] theorem leaveFlight_flash (s : State) (r : Result) (c : Option Cause) : (leaveFlight s r c).flash = s.flash := by
  unfold leaveFlight
  repeat (first | rfl | split | simp)
@[simp] theorem leaveFlight_outputs (s : State) (r : Result) (c : Option Cause) : (leaveFlight s r c).outputs = s.outputs := by
  unfold leaveFlight
  repeat (first | rfl | split | simp)
@[simp] theorem leaveFlight_free (s : State) (r : Result) (c : Option Cause) : (leaveFlight s r c).free = s.free := by
  unfold leaveFlight
  repeat (first | rfl | split | simp)
@[simp] theorem leaveFlight_pending (s : State) (r : Result) (c : Option Cause) : (leaveFlight s r c).pending = s.pending := by
  unfold leaveFlight
  repeat (first | rfl | split | simp)

/-! ## spoil -/

@[simp] theorem spoil_chans (s : State) (c : Cause) : (spoil s c).chans = s.chans := by
  unfold spoil
  repeat (first | rfl | split | simp)
@[simp] theorem spoil_link (s : State) (c : Cause) : (spoil s c).link = s.link := by
  unfold spoil
  repeat (first | rfl | split | simp)
@[simp] theorem spoil_image (s : State) (c : Cause) : (spoil s c).image = s.image := by
  unfold spoil
  repeat (first | rfl | split | simp)
@[simp] theorem spoil_flash (s : State) (c : Cause) : (spoil s c).flash = s.flash := by
  unfold spoil
  repeat (first | rfl | split | simp)
@[simp] theorem spoil_free (s : State) (c : Cause) : (spoil s c).free = s.free := by
  unfold spoil
  repeat (first | rfl | split | simp)
@[simp] theorem spoil_pending (s : State) (c : Cause) : (spoil s c).pending = s.pending := by
  unfold spoil
  repeat (first | rfl | split | simp)

/-! ## settle -/

@[simp] theorem settle_engine (s : State) : (settle s).engine = s.engine := by
  unfold settle
  repeat (first | rfl | split | simp)
@[simp] theorem settle_line (s : State) : (settle s).line = s.line := by
  unfold settle
  repeat (first | rfl | split | simp)
@[simp] theorem settle_drives (s : State) : (settle s).drives = s.drives := by
  unfold settle
  repeat (first | rfl | split | simp)
@[simp] theorem settle_chans (s : State) : (settle s).chans = s.chans := by
  unfold settle
  repeat (first | rfl | split | simp)
@[simp] theorem settle_transport (s : State) : (settle s).transport = s.transport := by
  unfold settle
  repeat (first | rfl | split | simp)
@[simp] theorem settle_link (s : State) : (settle s).link = s.link := by
  unfold settle
  repeat (first | rfl | split | simp)
@[simp] theorem settle_image (s : State) : (settle s).image = s.image := by
  unfold settle
  repeat (first | rfl | split | simp)
@[simp] theorem settle_flash (s : State) : (settle s).flash = s.flash := by
  unfold settle
  repeat (first | rfl | split | simp)
@[simp] theorem settle_outputs (s : State) : (settle s).outputs = s.outputs := by
  unfold settle
  repeat (first | rfl | split | simp)
@[simp] theorem settle_free (s : State) : (settle s).free = s.free := by
  unfold settle
  repeat (first | rfl | split | simp)
@[simp] theorem settle_pending (s : State) : (settle s).pending = s.pending := by
  unfold settle
  repeat (first | rfl | split | simp)

/-! ## enterExposing -/

@[simp] theorem enterExposing_profiles (s : State) : (enterExposing s).profiles = s.profiles := by
  unfold enterExposing
  repeat (first | rfl | split | simp)
@[simp] theorem enterExposing_optics (s : State) : (enterExposing s).optics = s.optics := by
  unfold enterExposing
  repeat (first | rfl | split | simp)
@[simp] theorem enterExposing_setups (s : State) : (enterExposing s).setups = s.setups := by
  unfold enterExposing
  repeat (first | rfl | split | simp)
@[simp] theorem enterExposing_port (s : State) : (enterExposing s).port = s.port := by
  unfold enterExposing
  repeat (first | rfl | split | simp)
@[simp] theorem enterExposing_engine (s : State) : (enterExposing s).engine = s.engine := by
  unfold enterExposing
  repeat (first | rfl | split | simp)
@[simp] theorem enterExposing_line (s : State) : (enterExposing s).line = s.line := by
  unfold enterExposing
  repeat (first | rfl | split | simp)
@[simp] theorem enterExposing_drives (s : State) : (enterExposing s).drives = s.drives := by
  unfold enterExposing
  repeat (first | rfl | split | simp)
@[simp] theorem enterExposing_chans (s : State) : (enterExposing s).chans = s.chans := by
  unfold enterExposing
  repeat (first | rfl | split | simp)
@[simp] theorem enterExposing_idle (s : State) : (enterExposing s).idle = s.idle := by
  unfold enterExposing
  repeat (first | rfl | split | simp)
@[simp] theorem enterExposing_link (s : State) : (enterExposing s).link = s.link := by
  unfold enterExposing
  repeat (first | rfl | split | simp)
@[simp] theorem enterExposing_image (s : State) : (enterExposing s).image = s.image := by
  unfold enterExposing
  repeat (first | rfl | split | simp)
@[simp] theorem enterExposing_flash (s : State) : (enterExposing s).flash = s.flash := by
  unfold enterExposing
  repeat (first | rfl | split | simp)
@[simp] theorem enterExposing_free (s : State) : (enterExposing s).free = s.free := by
  unfold enterExposing
  repeat (first | rfl | split | simp)
@[simp] theorem enterExposing_pending (s : State) : (enterExposing s).pending = s.pending := by
  unfold enterExposing
  repeat (first | rfl | split | simp)

/-! ## testReady -/

@[simp] theorem testReady_profiles (s : State) : (testReady s).profiles = s.profiles := by
  unfold testReady
  repeat (first | rfl | split | simp)
@[simp] theorem testReady_optics (s : State) : (testReady s).optics = s.optics := by
  unfold testReady
  repeat (first | rfl | split | simp)
@[simp] theorem testReady_setups (s : State) : (testReady s).setups = s.setups := by
  unfold testReady
  repeat (first | rfl | split | simp)
@[simp] theorem testReady_port (s : State) : (testReady s).port = s.port := by
  unfold testReady
  repeat (first | rfl | split | simp)
@[simp] theorem testReady_engine (s : State) : (testReady s).engine = s.engine := by
  unfold testReady
  repeat (first | rfl | split | simp)
@[simp] theorem testReady_line (s : State) : (testReady s).line = s.line := by
  unfold testReady
  repeat (first | rfl | split | simp)
@[simp] theorem testReady_drives (s : State) : (testReady s).drives = s.drives := by
  unfold testReady
  repeat (first | rfl | split | simp)
@[simp] theorem testReady_chans (s : State) : (testReady s).chans = s.chans := by
  unfold testReady
  repeat (first | rfl | split | simp)
@[simp] theorem testReady_idle (s : State) : (testReady s).idle = s.idle := by
  unfold testReady
  repeat (first | rfl | split | simp)
@[simp] theorem testReady_link (s : State) : (testReady s).link = s.link := by
  unfold testReady
  repeat (first | rfl | split | simp)
@[simp] theorem testReady_image (s : State) : (testReady s).image = s.image := by
  unfold testReady
  repeat (first | rfl | split | simp)
@[simp] theorem testReady_flash (s : State) : (testReady s).flash = s.flash := by
  unfold testReady
  repeat (first | rfl | split | simp)
@[simp] theorem testReady_free (s : State) : (testReady s).free = s.free := by
  unfold testReady
  repeat (first | rfl | split | simp)
@[simp] theorem testReady_pending (s : State) : (testReady s).pending = s.pending := by
  unfold testReady
  repeat (first | rfl | split | simp)

/-! ## darken -/

@[simp] theorem darken_profiles (s : State) (c : Chan) : (darken s c).profiles = s.profiles := by
  unfold darken
  repeat (first | rfl | split | simp)
@[simp] theorem darken_optics (s : State) (c : Chan) : (darken s c).optics = s.optics := by
  unfold darken
  repeat (first | rfl | split | simp)
@[simp] theorem darken_setups (s : State) (c : Chan) : (darken s c).setups = s.setups := by
  unfold darken
  repeat (first | rfl | split | simp)
@[simp] theorem darken_port (s : State) (c : Chan) : (darken s c).port = s.port := by
  unfold darken
  repeat (first | rfl | split | simp)
@[simp] theorem darken_line (s : State) (c : Chan) : (darken s c).line = s.line := by
  unfold darken
  repeat (first | rfl | split | simp)
@[simp] theorem darken_idle (s : State) (c : Chan) : (darken s c).idle = s.idle := by
  unfold darken
  repeat (first | rfl | split | simp)
@[simp] theorem darken_link (s : State) (c : Chan) : (darken s c).link = s.link := by
  unfold darken
  repeat (first | rfl | split | simp)
@[simp] theorem darken_image (s : State) (c : Chan) : (darken s c).image = s.image := by
  unfold darken
  repeat (first | rfl | split | simp)
@[simp] theorem darken_flash (s : State) (c : Chan) : (darken s c).flash = s.flash := by
  unfold darken
  repeat (first | rfl | split | simp)
@[simp] theorem darken_free (s : State) (c : Chan) : (darken s c).free = s.free := by
  unfold darken
  repeat (first | rfl | split | simp)
@[simp] theorem darken_pending (s : State) (c : Chan) : (darken s c).pending = s.pending := by
  unfold darken
  repeat (first | rfl | split | simp)

/-! ## enterDark -/

@[simp] theorem enterDark_link (s : State) (c : Chan) : (enterDark s c).link = s.link := by
  unfold enterDark
  repeat (first | rfl | split | simp)
@[simp] theorem enterDark_image (s : State) (c : Chan) : (enterDark s c).image = s.image := by
  unfold enterDark
  repeat (first | rfl | split | simp)
@[simp] theorem enterDark_flash (s : State) (c : Chan) : (enterDark s c).flash = s.flash := by
  unfold enterDark
  repeat (first | rfl | split | simp)
@[simp] theorem enterDark_free (s : State) (c : Chan) : (enterDark s c).free = s.free := by
  unfold enterDark
  repeat (first | rfl | split | simp)
@[simp] theorem enterDark_pending (s : State) (c : Chan) : (enterDark s c).pending = s.pending := by
  unfold enterDark
  repeat (first | rfl | split | simp)

/-! ## enterBiased -/

@[simp] theorem enterBiased_profiles (s : State) (c : Chan) : (enterBiased s c).profiles = s.profiles := by
  unfold enterBiased
  repeat (first | rfl | split | simp)
@[simp] theorem enterBiased_optics (s : State) (c : Chan) : (enterBiased s c).optics = s.optics := by
  unfold enterBiased
  repeat (first | rfl | split | simp)
@[simp] theorem enterBiased_setups (s : State) (c : Chan) : (enterBiased s c).setups = s.setups := by
  unfold enterBiased
  repeat (first | rfl | split | simp)
@[simp] theorem enterBiased_port (s : State) (c : Chan) : (enterBiased s c).port = s.port := by
  unfold enterBiased
  repeat (first | rfl | split | simp)
@[simp] theorem enterBiased_line (s : State) (c : Chan) : (enterBiased s c).line = s.line := by
  unfold enterBiased
  repeat (first | rfl | split | simp)
@[simp] theorem enterBiased_idle (s : State) (c : Chan) : (enterBiased s c).idle = s.idle := by
  unfold enterBiased
  repeat (first | rfl | split | simp)
@[simp] theorem enterBiased_link (s : State) (c : Chan) : (enterBiased s c).link = s.link := by
  unfold enterBiased
  repeat (first | rfl | split | simp)
@[simp] theorem enterBiased_image (s : State) (c : Chan) : (enterBiased s c).image = s.image := by
  unfold enterBiased
  repeat (first | rfl | split | simp)
@[simp] theorem enterBiased_flash (s : State) (c : Chan) : (enterBiased s c).flash = s.flash := by
  unfold enterBiased
  repeat (first | rfl | split | simp)
@[simp] theorem enterBiased_free (s : State) (c : Chan) : (enterBiased s c).free = s.free := by
  unfold enterBiased
  repeat (first | rfl | split | simp)
@[simp] theorem enterBiased_pending (s : State) (c : Chan) : (enterBiased s c).pending = s.pending := by
  unfold enterBiased
  repeat (first | rfl | split | simp)

/-! ## enterFault -/

@[simp] theorem enterFault_link (s : State) (c : Chan) (f : FaultCause) : (enterFault s c f).link = s.link := by
  unfold enterFault
  repeat (first | rfl | split | simp)
@[simp] theorem enterFault_image (s : State) (c : Chan) (f : FaultCause) : (enterFault s c f).image = s.image := by
  unfold enterFault
  repeat (first | rfl | split | simp)
@[simp] theorem enterFault_flash (s : State) (c : Chan) (f : FaultCause) : (enterFault s c f).flash = s.flash := by
  unfold enterFault
  repeat (first | rfl | split | simp)
@[simp] theorem enterFault_free (s : State) (c : Chan) (f : FaultCause) : (enterFault s c f).free = s.free := by
  unfold enterFault
  repeat (first | rfl | split | simp)
@[simp] theorem enterFault_pending (s : State) (c : Chan) (f : FaultCause) : (enterFault s c f).pending = s.pending := by
  unfold enterFault
  repeat (first | rfl | split | simp)

/-! ## enterReady -/

@[simp] theorem enterReady_profiles (s : State) (c : Chan) : (enterReady s c).profiles = s.profiles := by
  unfold enterReady
  repeat (first | rfl | split | simp)
@[simp] theorem enterReady_optics (s : State) (c : Chan) : (enterReady s c).optics = s.optics := by
  unfold enterReady
  repeat (first | rfl | split | simp)
@[simp] theorem enterReady_setups (s : State) (c : Chan) : (enterReady s c).setups = s.setups := by
  unfold enterReady
  repeat (first | rfl | split | simp)
@[simp] theorem enterReady_port (s : State) (c : Chan) : (enterReady s c).port = s.port := by
  unfold enterReady
  repeat (first | rfl | split | simp)
@[simp] theorem enterReady_engine (s : State) (c : Chan) : (enterReady s c).engine = s.engine := by
  unfold enterReady
  repeat (first | rfl | split | simp)
@[simp] theorem enterReady_line (s : State) (c : Chan) : (enterReady s c).line = s.line := by
  unfold enterReady
  repeat (first | rfl | split | simp)
@[simp] theorem enterReady_drives (s : State) (c : Chan) : (enterReady s c).drives = s.drives := by
  unfold enterReady
  repeat (first | rfl | split | simp)
@[simp] theorem enterReady_idle (s : State) (c : Chan) : (enterReady s c).idle = s.idle := by
  unfold enterReady
  repeat (first | rfl | split | simp)
@[simp] theorem enterReady_link (s : State) (c : Chan) : (enterReady s c).link = s.link := by
  unfold enterReady
  repeat (first | rfl | split | simp)
@[simp] theorem enterReady_image (s : State) (c : Chan) : (enterReady s c).image = s.image := by
  unfold enterReady
  repeat (first | rfl | split | simp)
@[simp] theorem enterReady_flash (s : State) (c : Chan) : (enterReady s c).flash = s.flash := by
  unfold enterReady
  repeat (first | rfl | split | simp)
@[simp] theorem enterReady_free (s : State) (c : Chan) : (enterReady s c).free = s.free := by
  unfold enterReady
  repeat (first | rfl | split | simp)
@[simp] theorem enterReady_pending (s : State) (c : Chan) : (enterReady s c).pending = s.pending := by
  unfold enterReady
  repeat (first | rfl | split | simp)

/-! ## leaveLocked -/

@[simp] theorem leaveLocked_chans (s : State) (t : EngineState) : (leaveLocked s t).chans = s.chans := by
  unfold leaveLocked
  by_cases h : s.frame.state = .exposing <;> simp [h]
@[simp] theorem leaveLocked_link (s : State) (t : EngineState) : (leaveLocked s t).link = s.link := by
  unfold leaveLocked
  by_cases h : s.frame.state = .exposing <;> simp [h]
@[simp] theorem leaveLocked_image (s : State) (t : EngineState) : (leaveLocked s t).image = s.image := by
  unfold leaveLocked
  by_cases h : s.frame.state = .exposing <;> simp [h]
@[simp] theorem leaveLocked_flash (s : State) (t : EngineState) : (leaveLocked s t).flash = s.flash := by
  unfold leaveLocked
  by_cases h : s.frame.state = .exposing <;> simp [h]
@[simp] theorem leaveLocked_free (s : State) (t : EngineState) : (leaveLocked s t).free = s.free := by
  unfold leaveLocked
  by_cases h : s.frame.state = .exposing <;> simp [h]
@[simp] theorem leaveLocked_pending (s : State) (t : EngineState) : (leaveLocked s t).pending = s.pending := by
  unfold leaveLocked
  by_cases h : s.frame.state = .exposing <;> simp [h]

/-! ## facetsChanged -/

@[simp] theorem facetsChanged_chans (s : State) : (facetsChanged s).chans = s.chans := by
  unfold facetsChanged
  repeat (first | rfl | split | simp)
@[simp] theorem facetsChanged_link (s : State) : (facetsChanged s).link = s.link := by
  unfold facetsChanged
  repeat (first | rfl | split | simp)
@[simp] theorem facetsChanged_image (s : State) : (facetsChanged s).image = s.image := by
  unfold facetsChanged
  repeat (first | rfl | split | simp)
@[simp] theorem facetsChanged_flash (s : State) : (facetsChanged s).flash = s.flash := by
  unfold facetsChanged
  repeat (first | rfl | split | simp)
@[simp] theorem facetsChanged_free (s : State) : (facetsChanged s).free = s.free := by
  unfold facetsChanged
  repeat (first | rfl | split | simp)
@[simp] theorem facetsChanged_pending (s : State) : (facetsChanged s).pending = s.pending := by
  unfold facetsChanged
  repeat (first | rfl | split | simp)

end Sys2Proof.Machine
end

