-- ==== Sys2Proof/Laws/Frame.lean ====
section
/-! SUPPORT. What the shared operations of Machine/FrameOps.lean can do, said once each: the end of a window, a group's beginning and
end, a PULL, the spoil, the settlement, and the entries of a channel. -/

namespace Sys2Proof.Machine

open Sys2Proof

/-! ## Groups and pulls -/

theorem groupNotice_cases (f : FrameCycle) (k : GroupKind) :
    groupNotice f k = f ∨ ∃ m, groupNotice f k = { f with margin := m, stride := 0 } := by
  unfold groupNotice
  split
  · cases k
    · exact .inr ⟨.done, rfl⟩
    · exact .inr ⟨f.margin, rfl⟩
  · exact .inl rfl

@[simp] theorem groupEnded_frame (s : State) (k : GroupKind) : (groupEnded s k).frame = groupNotice s.frame k := by
  simp [groupEnded]

/-- The frame cycle's fields that a STEP group's beginning or end never changes. -/
structure FrameKept (f g : FrameCycle) : Prop where
  state : g.state = f.state
  slot : g.slot = f.slot
  tag : g.tag = f.tag
  result : g.result = f.result
  cause : g.cause = f.cause
  latched : g.latched = f.latched
  startTimer : g.startTimer = f.startTimer
  lineWait : g.lineWait = f.lineWait
  endSeen : g.endSeen = f.endSeen
  startTimeout : g.startTimeout = f.startTimeout
  failures : g.failures = f.failures

theorem FrameKept.rfl' (f : FrameCycle) : FrameKept f f := ⟨rfl, rfl, rfl, rfl, rfl, rfl, rfl, rfl, rfl, rfl, rfl⟩

theorem FrameKept.trans {f g h : FrameCycle} (a : FrameKept f g) (b : FrameKept g h) : FrameKept f h := by
  obtain ⟨a1, a2, a3, a4, a5, a6, a7, a8, a9, a10, a11⟩ := a
  obtain ⟨b1, b2, b3, b4, b5, b6, b7, b8, b9, b10, b11⟩ := b
  constructor <;> simp [*]

theorem groupNotice_kept (f : FrameCycle) (k : GroupKind) : FrameKept f (groupNotice f k) := by
  rcases groupNotice_cases f k with h | ⟨m, h⟩ <;> rw [h] <;> constructor <;> rfl

theorem beginGroup_kept (s : State) (k : GroupKind) (n : Nat) : FrameKept s.frame (beginGroup s k n).frame := by
  unfold beginGroup
  split
  · simpa using groupNotice_kept s.frame k
  · exact FrameKept.rfl' _

theorem windowPassed_kept (s : State) : FrameKept s.frame (windowPassed s).frame := by
  unfold windowPassed
  split
  · exact FrameKept.rfl' _
  · next n _ =>
    have h := beginGroup_kept { s with frame := { s.frame with pendingGroup := none } } .line n
    exact ⟨h.1, h.2, h.3, h.4, h.5, h.6, h.7, h.8, h.9, h.10, h.11⟩

/-- After the notice no group is pending (R85). -/
theorem windowPassed_pendingGroup (s : State) : (windowPassed s).frame.pendingGroup = none := by
  unfold windowPassed
  split
  · assumption
  · unfold beginGroup
    split
    · rw [groupEnded_frame]
      rcases groupNotice_cases ({ s.frame with pendingGroup := none }) .line with h | ⟨m, h⟩ <;> simp [h]
    · rfl

/-- One PULL with film to pull: remaining falls by 1 and pulls issued rises by 1 (R152). -/
theorem issuePull_roll {s : State} {r : Roll} (h : s.transport.roll = some r) :
    (issuePull s).transport = { s.transport with roll := some { r with remaining := r.remaining - 1, pulls := r.pulls + 1 } } := by
  unfold issuePull
  rw [h]
  simp only
  repeat' split
  all_goals rfl

theorem issuePull_none {s : State} (h : s.transport.roll = none) : issuePull s = s := by
  unfold issuePull
  rw [h]

@[simp] theorem issuePull_advance (s : State) : (issuePull s).transport.advance = s.transport.advance := by
  cases h : s.transport.roll with
  | none => rw [issuePull_none h]
  | some r => rw [issuePull_roll h]

@[simp] theorem issuePull_group (s : State) : (issuePull s).transport.group = s.transport.group := by
  cases h : s.transport.roll with
  | none => rw [issuePull_none h]
  | some r => rw [issuePull_roll h]

/-- What a pull of a roll advance does to the transport (R159). -/
theorem advancePull_transport {s : State} {a : Advance} {r : Roll} (ha : s.transport.advance = some a)
    (hr : s.transport.roll = some r) :
    (advancePull s).transport =
      { s.transport with
        roll := some { r with remaining := r.remaining - 1, pulls := r.pulls + 1 }
        advance := some ⟨a.toIssue - 1, .seating, s.frame.startTimeout⟩
        pullTimer := 0 } := by
  simp [advancePull, ha, issuePull_roll hr]

/-- What a group's end does: an advance that waited for it pulls, and nothing else changes in the transport (R153). -/
theorem resumeAdvance_cases (s : State) :
    resumeAdvance s = s ∨
      ∃ n l, s.transport.advance = some ⟨n, .waitingGroup, l⟩ ∧ resumeAdvance s = advancePull s := by
  unfold resumeAdvance
  split
  · exact .inr ⟨_, _, ‹_›, rfl⟩
  · exact .inl rfl

/-! ## The end of a window -/

theorem endWindow_of_none {s : State} (h : s.engine.window = .none) : endWindow s = s := by
  unfold endWindow
  rw [h]

@[simp] theorem endWindow_engine (s : State) : (endWindow s).engine = { s.engine with window := .none } := by
  cases h : s.engine.window with
  | none => rw [endWindow_of_none h, ← h]
  | scheduled k line => simp only [endWindow, h]; split <;> simp
  | opened k line toRead => simp only [endWindow, h]; split <;> simp

theorem endWindow_kept (s : State) : FrameKept s.frame (endWindow s).frame := by
  cases h : s.engine.window with
  | none => rw [endWindow_of_none h]; exact FrameKept.rfl' _
  | scheduled k line =>
    simp only [endWindow, h]
    split
    · exact windowPassed_kept { s with engine := { s.engine with window := .none } }
    · exact FrameKept.rfl' _
  | opened k line toRead =>
    simp only [endWindow, h]
    split
    · exact windowPassed_kept
        { s with
          engine := { s.engine with window := .none }
          drives := toRead.foldl (fun d c => d.set c .off) s.drives }
    · exact FrameKept.rfl' _

@[simp] theorem endWindow_state (s : State) : (endWindow s).frame.state = s.frame.state := (endWindow_kept s).state

@[simp] theorem endWindow_inFlight (s : State) : (endWindow s).inFlight = s.inFlight := by simp [State.inFlight]

theorem foldl_off_get (l : List Chan) (d : Rgb Drive) (c : Chan) :
    (l.foldl (fun d c => d.set c .off) d).get c = if c ∈ l then .off else d.get c := by
  induction l generalizing d with
  | nil => simp
  | cons x l ih =>
    rw [List.foldl_cons, ih, Rgb.get_set]
    by_cases hx : c = x <;> by_cases hl : c ∈ l <;> simp [hx, hl]

/-- The end of a window only turns drives off (R126, R128). -/
theorem endWindow_drive (s : State) (c : Chan) :
    (endWindow s).drives.get c = s.drives.get c ∨ (endWindow s).drives.get c = .off := by
  cases h : s.engine.window with
  | none => rw [endWindow_of_none h]; exact .inl rfl
  | scheduled k line =>
    simp only [endWindow, h]
    split <;> simp
  | opened k line toRead =>
    have key : ((toRead.foldl (fun d c => d.set c .off) s.drives).get c = s.drives.get c) ∨
        ((toRead.foldl (fun d c => d.set c .off) s.drives).get c = .off) := by
      rw [foldl_off_get]
      split
      · exact .inr rfl
      · exact .inl rfl
    simp only [endWindow, h]
    split
    · simpa using key
    · exact key

/-! ## A channel's leaving of WARMING and READY -/

/-- The drive of a channel that leaves WARMING and READY is off, and no drive is turned on (R126). -/
theorem dropSample_drive_self (s : State) (c : Chan) : (dropSample s c).drives.get c = .off := by
  unfold dropSample
  simp only [State.setDrive_engine]
  split
  · split
    · split
      · rcases endWindow_drive
          { s.setDrive c .off with engine := { s.engine with window := .opened _ _ _ } } c with h | h
        · rw [h]; simp
        · exact h
      · simp
    · simp
  · simp

@[simp] theorem dropSample_state (s : State) (c : Chan) : (dropSample s c).frame.state = s.frame.state := by
  unfold dropSample
  simp only [State.setDrive_engine]
  split
  · split
    · split
      · rw [endWindow_state]; rfl
      · rfl
    · rfl
  · rfl

@[simp] theorem dropSample_inFlight (s : State) (c : Chan) : (dropSample s c).inFlight = s.inFlight := by simp [State.inFlight]

/-! ## The spoil and the settlement -/

theorem spoil_of_idle {s : State} {c : Cause} (h : s.inFlight = false) : spoil s c = s := by
  unfold spoil
  simp [h]

/-- A spoil ends the flight (R94, R95): no frame is in flight after it. -/
@[simp] theorem spoil_inFlight (s : State) (c : Cause) : (spoil s c).inFlight = false := by
  cases h : s.inFlight with
  | false => rw [spoil_of_idle h, h]
  | true =>
    simp only [spoil, h, if_true, leaveFlight]
    simp only [State.inFlight]
    split <;> rfl

theorem spoil_state {s : State} {c : Cause} (h : s.inFlight = true) :
    (spoil s c).frame.state = if s.frame.endSeen then .idle else .draining := by
  simp only [spoil, h, if_true, leaveFlight]
  simp [(endWindow_kept _).endSeen]

theorem spoil_result {s : State} {c : Cause} (h : s.inFlight = true) :
    (spoil s c).frame.result = some .spoiled ∧ (spoil s c).frame.cause = some c := by
  simp [spoil, h, leaveFlight]

theorem spoil_line {s : State} {c : Cause} (h : s.inFlight = true) : (spoil s c).line = none := by
  simp [spoil, h]

theorem spoil_engine {s : State} {c : Cause} (h : s.inFlight = true) :
    (spoil s c).engine = { s.engine with window := .none } := by
  simp [spoil, h]

theorem spoil_engine_state (s : State) (c : Cause) : (spoil s c).engine.state = s.engine.state := by
  cases h : s.inFlight with
  | false => rw [spoil_of_idle h]
  | true => rw [spoil_engine h]

theorem spoil_drive (s : State) (c : Cause) (d : Chan) :
    (spoil s c).drives.get d = s.drives.get d ∨ (spoil s c).drives.get d = .off := by
  cases h : s.inFlight with
  | false => rw [spoil_of_idle h]; exact .inl rfl
  | true =>
    right
    have hoff : ∀ t : State, t.drives.get d = .off → (endWindow t).drives.get d = .off := by
      intro t ht
      rcases endWindow_drive t d with e | e
      · rw [e, ht]
      · exact e
    simp only [spoil, h, if_true, leaveFlight]
    simpa using hoff _ (by cases d <;> rfl)

/-- A settlement ends the flight (R92). -/
@[simp] theorem settle_inFlight (s : State) : (settle s).inFlight = false := by
  simp only [settle, leaveFlight, State.inFlight]
  split <;> rfl

/-! ## Readiness -/

theorem testReady_state (s : State) :
    (testReady s).frame.state = s.frame.state ∨
      (s.frame.state = .readying ∧ s.isReady = true ∧ (testReady s).frame.state = .exposing) := by
  unfold testReady
  split
  · next h =>
    refine .inr ⟨h.1, h.2, ?_⟩
    simp only [enterExposing]
    rw [(beginGroup_kept _ _ _).state]
  · exact .inl rfl

/-! ## The profile table -/

theorem modProfile_map_id (t : List Profile) (id : Nat) (f : Profile → Profile) (hf : ∀ p, (f p).id = p.id) :
    (modProfile t id f).map Profile.id = t.map Profile.id := by
  simp only [modProfile, List.map_map]
  apply List.map_congr_left
  intro p _
  simp only [Function.comp]
  split <;> simp [hf]

theorem mem_modProfile {t : List Profile} {id : Nat} {f : Profile → Profile} {p : Profile} (h : p ∈ modProfile t id f) :
    (p ∈ t ∧ p.id ≠ id) ∨ ∃ q ∈ t, q.id = id ∧ p = f q := by
  simp only [modProfile, List.mem_map] at h
  obtain ⟨q, hq, rfl⟩ := h
  split
  · exact .inr ⟨q, hq, ‹_›, rfl⟩
  · exact .inl ⟨hq, ‹_›⟩

theorem mem_insertProfile (p q : Profile) (t : List Profile) : q ∈ insertProfile p t ↔ q = p ∨ q ∈ t := by
  induction t with
  | nil => simp [insertProfile]
  | cons r t ih =>
    simp only [insertProfile]
    split
    · simp
    · simp only [List.mem_cons, ih]
      constructor
      · rintro (h | h | h) <;> simp [h]
      · rintro (h | h | h) <;> simp [h]

@[simp] theorem insertProfile_length (p : Profile) (t : List Profile) : (insertProfile p t).length = t.length + 1 := by
  induction t with
  | nil => rfl
  | cons r t ih => simp only [insertProfile]; split <;> simp [ih]

/-- A record inserted under a new ID keeps the table in ascending order of ID (R1). -/
theorem insertProfile_ascend {p : Profile} {t : List Profile} (h : idsAscend t) (hp : ∀ q ∈ t, q.id ≠ p.id) :
    idsAscend (insertProfile p t) := by
  induction t with
  | nil => exact List.pairwise_singleton _ _
  | cons r t ih =>
    simp only [insertProfile]
    have hr := hp r List.mem_cons_self
    have ⟨h1, h2⟩ := List.pairwise_cons.mp h
    split
    · next hlt =>
      refine List.pairwise_cons.mpr ⟨?_, h⟩
      intro q hq
      rcases List.mem_cons.mp hq with rfl | hq
      · exact hlt
      · exact Nat.lt_trans hlt (h1 q hq)
    · next hlt =>
      refine List.pairwise_cons.mpr ⟨?_, ih h2 fun q hq => hp q (List.mem_cons_of_mem _ hq)⟩
      intro q hq
      rcases (mem_insertProfile p q t).mp hq with rfl | hq
      · omega
      · exact h1 q hq

end Sys2Proof.Machine
end

