-- ==== Sys2Proof/Laws/Tables.lean ====
section
/-! SUPPORT. The two stop tables as inequalities between whole numbers: what an entry's rounding says once the power or the logarithm is
cleared. -/

namespace Sys2Proof.Machine

set_option exponentiation.threshold 100000 in
/-- Each entry `a` of the antilog table lies within one half of 2048 times 2 to the power f/256 (R40), raised to the power 256. -/
theorem antilog_bounds : ∀ f ≤ 255, (2 * antilog f - 1) ^ 256 ≤ 2 ^ (3072 + f) ∧ 2 ^ (3072 + f) < (2 * antilog f + 1) ^ 256 := by
  decide +kernel

set_option exponentiation.threshold 100000 in
/-- Each entry `n` of the log table lies within one half of 256 times the base-2 logarithm of (256 + i)/256 (R41), as powers of 2. -/
theorem logEntry_bounds : ∀ i ≤ 255, 2 ^ (2 * logEntry i) * 256 ^ 512 ≤ 2 * (256 + i) ^ 512 ∧
    (256 + i) ^ 512 < 2 ^ (2 * logEntry i + 1) * 256 ^ 512 := by
  decide +kernel

/-- Consecutive entries of the antilog table rise. -/
theorem antilog_step : ∀ f ≤ 254, antilog f < antilog (f + 1) := by
  decide +kernel

/-- Consecutive entries of the log table do not fall. -/
theorem logEntry_step : ∀ i ≤ 254, logEntry i ≤ logEntry (i + 1) := by
  decide +kernel

/-- The levels of the antilog table lie in 2048..4085 (R40). -/
theorem antilog_range : ∀ f ≤ 255, 2048 ≤ antilog f ∧ antilog f ≤ 4085 := by
  decide +kernel

end Sys2Proof.Machine
end

