-- ==== Sys2Proof/Laws/Time.lean ====
section
/-! SUPPORT. What the passing of REFCLK periods, the delivery of a header, a failed flash operation, and the bits of the lanes and the link
can do: one lemma for each. -/

namespace Sys2Proof.Machine

open Sys2Proof

/-! ## REFCLK periods -/

@[simp] theorem countPeriods_msCount (s : State) (n : Nat) : (countPeriods s n).engine.msCount = s.engine.msCount + n := rfl

@[simp] theorem countPeriods_periodCount (s : State) (n : Nat) :
    (countPeriods s n).engine.periodCount = min Config.maxPeriod (s.engine.periodCount + n) := rfl

/-- Counting periods changes the two counts and nothing else (R119, R129). -/
theorem countPeriods_eq (s : State) (n : Nat) :
    countPeriods s n = { s with engine := { s.engine with
      periodCount := (countPeriods s n).engine.periodCount, msCount := s.engine.msCount + n } } := rfl

/-- Counting in two parts is counting at once. -/
theorem countPeriods_add (s : State) (a b : Nat) : countPeriods (countPeriods s a) b = countPeriods s (a + b) := by
  have h : satAdd Config.maxPeriod (satAdd Config.maxPeriod s.engine.periodCount a) b = satAdd Config.maxPeriod s.engine.periodCount (a + b) := by
    simp only [satAdd]; omega
  simp only [countPeriods, h, Nat.add_assoc]

/-- At least one period is missing from a millisecond in progress (R129). -/
theorem Engine.toTick_pos (e : Engine) : 1 ≤ e.toTick := Nat.le_max_left ..

/-- At least one period lies before a moment to come. -/
theorem Engine.periodsTo_pos (e : Engine) (t : Nat) : 1 ≤ e.periodsTo t := Nat.le_max_left ..

theorem State.toLineEnd_pos {s : State} {n : Nat} (h : s.toLineEnd = some n) : 1 ≤ n := by
  obtain ⟨x, -, rfl⟩ := Option.map_eq_some_iff.1 h
  exact s.engine.periodsTo_pos _

theorem State.toWindow_pos {s : State} {n : Nat} (h : s.toWindow = some n) : 1 ≤ n := by
  unfold State.toWindow at h
  split at h
  · cases h; exact s.engine.periodsTo_pos _
  · cases h

/-- What `toEvent` is the least of. -/
theorem State.lt_toEvent {s : State} {n : Nat} :
    n < s.toEvent ↔ n < s.engine.toTick ∧ (∀ m, s.toLineEnd = some m → n < m) ∧ ∀ m, s.toWindow = some m → n < m := by
  simp only [State.toEvent, Nat.lt_min]
  cases s.toLineEnd <;> cases s.toWindow <;> simp <;> omega

theorem State.toEvent_pos (s : State) : 1 ≤ s.toEvent :=
  State.lt_toEvent.2 ⟨s.engine.toTick_pos, fun _ h => State.toLineEnd_pos h, fun _ h => State.toWindow_pos h⟩

/-- The periods to a moment, after some of them have been counted. -/
theorem Engine.periodsTo_count {s : State} {a : Nat} (t : Nat) (h : a < s.engine.periodsTo t) :
    (countPeriods s a).engine.periodsTo t = s.engine.periodsTo t - a := by
  simp only [Engine.periodsTo, countPeriods_periodCount] at *
  omega

theorem State.toEvent_count {s : State} {a : Nat} (h : a < s.toEvent) : (countPeriods s a).toEvent = s.toEvent - a := by
  obtain ⟨h1, h2, h3⟩ := State.lt_toEvent.1 h
  have e1 : (countPeriods s a).engine.toTick = s.engine.toTick - a := by
    have : (countPeriods s a).engine.config = s.engine.config := rfl
    simp only [Engine.toTick, countPeriods_msCount, this] at *
    omega
  have e2 : (countPeriods s a).toLineEnd = s.toLineEnd.map (· - a) := by
    show s.line.map (fun x => (countPeriods s a).engine.periodsTo x.ends) = _
    unfold State.toLineEnd at h2 ⊢
    cases hx : s.line with
    | none => rfl
    | some x => exact congrArg some (Engine.periodsTo_count x.ends (h2 _ (by rw [hx]; rfl)))
  have e3 : (countPeriods s a).toWindow = s.toWindow.map (· - a) := by
    show (if s.windowWaits then some ((countPeriods s a).engine.periodsTo s.engine.config.scanSpan) else none) = _
    unfold State.toWindow at h3 ⊢
    split
    · rename_i k
      exact congrArg some (Engine.periodsTo_count _ (h3 _ (if_pos k)))
    · rfl
  simp only [State.toEvent, e1, e2, e3]
  cases hl : s.toLineEnd <;> cases hw : s.toWindow <;> simp only [Option.map_some, Option.map_none, Option.getD_some, Option.getD_none] <;> omega

/-- Periods on which nothing falls are counted and nothing more (R119, R129). -/
theorem elapse_short {s : State} {n : Nat} (h : n < s.toEvent) (fuel : Nat) : elapse fuel n s = countPeriods s n := by
  cases fuel with
  | zero => rfl
  | succ fuel => simp [elapse, h]

/-- Periods up to the first on which something falls, what falls on it, and then the periods left. -/
theorem elapse_event {s : State} {n : Nat} (h : s.toEvent ≤ n) (fuel : Nat) :
    elapse (fuel + 1) n s = elapse fuel (n - s.toEvent) (periodEvents (countPeriods s s.toEvent)) := by
  simp [elapse, Nat.not_lt.mpr h]

/-- As much fuel as periods suffices: more changes nothing. -/
theorem elapse_fuel : ∀ (fuel n : Nat) (s : State), n ≤ fuel → elapse fuel n s = pass n s := by
  intro fuel
  induction fuel using Nat.strongRecOn with
  | _ fuel ih =>
    intro n s h
    unfold pass
    by_cases hn : n < s.toEvent
    · rw [elapse_short hn, elapse_short hn]
    · have hp := s.toEvent_pos
      have hn := Nat.le_of_not_lt hn
      obtain ⟨f, rfl⟩ : ∃ f, fuel = f + 1 := ⟨fuel - 1, by omega⟩
      obtain ⟨m, rfl⟩ : ∃ m, n = m + 1 := ⟨n - 1, by omega⟩
      rw [elapse_event hn, elapse_event hn, ih f (by omega) _ _ (by omega), ih m (by omega) _ _ (by omega)]

/-- What the passing of `n` periods does: they are counted, or the first on which something falls comes among them. -/
theorem pass_short {s : State} {n : Nat} (h : n < s.toEvent) : pass n s = countPeriods s n := elapse_short h n

theorem pass_event {s : State} {n : Nat} (h : s.toEvent ≤ n) :
    pass n s = pass (n - s.toEvent) (periodEvents (countPeriods s s.toEvent)) := by
  have hp := s.toEvent_pos
  obtain ⟨m, rfl⟩ : ∃ m, n = m + 1 := ⟨n - 1, by omega⟩
  rw [pass, elapse_event h, elapse_fuel _ _ _ (by omega)]

/-- Periods that pass in two parts pass as they do at once. -/
theorem pass_add (a b : Nat) (s : State) : pass (a + b) s = pass b (pass a s) := by
  induction a using Nat.strongRecOn generalizing s with
  | _ a ih =>
    by_cases ha : a < s.toEvent
    · rw [pass_short ha]
      by_cases hb : a + b < s.toEvent
      · rw [pass_short hb, pass_short (by rw [State.toEvent_count ha]; omega), countPeriods_add]
      · rw [pass_event (by omega), pass_event (s := countPeriods s a) (by rw [State.toEvent_count ha]; omega), State.toEvent_count ha,
          countPeriods_add, show a + (s.toEvent - a) = s.toEvent by omega, show a + b - s.toEvent = b - (s.toEvent - a) by omega]
    · have hp := s.toEvent_pos
      rw [pass_event (by omega), pass_event (n := a) (by omega), show a + b - s.toEvent = a - s.toEvent + b by omega, ih _ (by omega)]

/-- A FACET after some of its periods is a FACET of the periods left (log entry 2). -/
theorem execFacet_pass {s : State} {n periods : Nat} (h : n ≤ periods) : execFacet periods s = execFacet (periods - n) (pass n s) := by
  simp only [execFacet, ← pass_add, Nat.add_sub_of_le h]

/-- A FACET among whose periods nothing falls (R119, R129). -/
theorem execFacet_short {s : State} {periods : Nat} (h : periods < s.toEvent) :
    execFacet periods s = .next (takeFacet (countPeriods s periods)) := by
  simp only [execFacet, pass_short h]

/-! ## The delivery of a header -/

/-- What the delivery of a header does: it ends the drain, or nothing (R83). -/
theorem deliver_cases (s : State) :
    deliver s = s ∨
      s.port.waiting.isSome = true ∧ s.frame.failures = [] ∧ s.frame.state = .draining ∧
        deliver s = { s with frame := { s.frame with state := .idle, endSeen := false } } := by
  unfold deliver
  split
  · rename_i h
    simp only [Bool.and_eq_true, List.isEmpty_iff, beq_iff_eq] at h
    exact .inr ⟨h.1.1, h.1.2, h.2, rfl⟩
  · exact .inl rfl

/-! ## A failed flash operation -/

/-- A failed operation touches the flash and the count of free values alone (R180). -/
theorem failFlash_eq (s : State) (v : Save) :
    failFlash s v = { s with flash := (failFlash s v).flash, free := (failFlash s v).free } := by
  unfold failFlash
  split <;> rfl

/-! ## The bits of the lanes and the link -/

/-- A transaction received is queued, and nothing else changes. -/
theorem State.csRise_eq (s : State) (bits : List Bool) :
    s.csRise bits = { s with
      link := { s.link with begun := none }
      pending := s.pending ++ [transactionOf (s.link.begun.getD s.link.processing) bits] } := rfl

theorem State.csFall_eq (s : State) : s.csFall = { s with link := { s.link with begun := some s.link.processing } } := rfl

/-- What taking the bits of one PX_CLK period does: the word goes on, or it is complete and its command, if any, is queued (R100). -/
theorem takeBits_cases (s : State) (w : WordUnderWay) (period : BitVec 4) :
    let bits := w.bits ++ periodBits w.lanes period
    (bits.length < 36 ∧ takeBits s w period = { s with port := { s.port with underWay := some { w with bits := bits } } }) ∨
    (36 ≤ bits.length ∧ takeBits s w period = { s with
      port := { s.port with underWay := none, awaitLow := w.start == .beforeReset }
      pending := s.pending ++ (commandOfWord w.start (wordOfBits bits)).toList }) := by
  intro bits
  by_cases h : bits.length < 36
  · exact .inl ⟨h, if_pos h⟩
  · exact .inr ⟨Nat.le_of_not_lt h, if_neg h⟩

/-- The lanes in use are low: each of them is (R100). -/
theorem lanesLow_iff (lanes : Nat) (period : BitVec 4) :
    lanesLow lanes period = true ↔ ∀ k, k < lanes → period.getLsbD k = false := by
  simp [lanesLow, periodBits]

/-- Everything a PX_CLK period can do (R100, R117): the word under way goes on; or, between words, the port waits for the lanes to be low
and finds them low or not; or a word begins; or nothing changes. -/
theorem State.pxPeriod_cases (s : State) (period : BitVec 4) :
    (∃ w, s.port.underWay = some w ∧ s.pxPeriod period = takeBits s w period) ∨
    (s.port.underWay = none ∧ s.port.awaitLow = true ∧ lanesLow s.port.lanes period = true ∧
      s.pxPeriod period = { s with port := { s.port with awaitLow := false } }) ∨
    (s.port.underWay = none ∧ s.port.awaitLow = true ∧ lanesLow s.port.lanes period = false ∧ s.pxPeriod period = s) ∨
    (s.port.underWay = none ∧ s.port.awaitLow = false ∧ period.getLsbD 0 = true ∧
      s.pxPeriod period = takeBits s ⟨if s.ready then .ready else .notReady, s.port.lanes, []⟩ period) ∨
    (s.port.underWay = none ∧ s.port.awaitLow = false ∧ period.getLsbD 0 = false ∧ s.pxPeriod period = s) := by
  unfold State.pxPeriod
  cases s.port.underWay <;> cases s.port.awaitLow <;> cases lanesLow s.port.lanes period <;> cases period.getLsbD 0 <;> simp

/-- A period with PX_LANE0 low between words, the lanes having been low, changes nothing (R100). -/
theorem State.pxPeriod_low {s : State} {period : BitVec 4} (h : s.port.underWay = none) (hw : s.port.awaitLow = false)
    (h0 : period.getLsbD 0 = false) : s.pxPeriod period = s := by
  simp only [State.pxPeriod, h, hw, h0, Bool.false_eq_true, if_false]

end Sys2Proof.Machine
end

