-- ==== Sys2Proof/Tests/Slice0.lean ====
section
/-! SUPPORT. The model's own tests: the ill-formed commands that WellFormed refuses, the worked figures of the spec, and states that
meet the hypotheses of the statements, each clause's at a boundary value. The expected values are the spec's, its table or section named. -/

namespace Sys2Proof.Tests

-- one theorem after another: a checker's memory limit leaves no room for many threads at once
set_option Elab.async false

open Sys2Proof Sys2Proof.Machine

/-! ## Small states -/

/-- The curve of two knots (Table 1-9, first row). -/
def ramp : Curve := [⟨0, 0⟩, ⟨4095, 4095⟩]

/-- A calibration of revision 1 with a life of one frame. -/
def cal : Calibration := ⟨some 1, ⟨some ramp, some ramp, some ramp⟩, ⟨0, 0, 0⟩, ⟨0, 0, 0⟩, 1⟩

/-- The same calibration staged. -/
def staged : Calibration := { cal with revision := none }

/-- An ACTIVE profile, ID 1, bound once. -/
def stock : Profile := ⟨1, [0x4E], .active, some .a, none, some cal, none, 0, 1, none⟩

/-- A two by two window in L10, one STEP per line. -/
def config : SetupConfig := ⟨1, .l10, 2, 2, 0, 1, 0, 1, false, 1, 1, 0, 0, 1, 1, .expose⟩

/-- The engine configuration of section 7.7. -/
def engineConfig : EngineConfig := ⟨50000, 8, 3000, 46000, 100, 4, 100000⟩

/-- An engine in a state, after an INDEX and one FACET. -/
def engine (st : EngineState) : Engine := ⟨st, some 1, some 0, .good, 2, 50000, 0, 0, 1, none, .none, engineConfig, 0⟩

/-- A channel in a state. -/
def channel (st : ChannelState) : Channel := { Channel.powerOn with state := st, target := 4, first := true }

/-- The roll of Table 9-2. -/
def roll : Roll := ⟨0xA1, 5, 5, 2, 0⟩

/-- Ready to print: one profile, setup 0 ARMED, the engine LOCKED, the channels READY, a roll, SEATED asserted. -/
def idle : State :=
  { State.reset with
    profiles := [stock], setups := State.reset.setups.set 0 ⟨true, config, 0, 0, 0, none⟩, engine := engine .locked
    chans := ⟨channel .ready, channel .ready, channel .ready⟩
    transport := { State.reset.transport with roll := some roll, seated := true } }

/-- A frame of setup 0 in flight in a state, its margin done. -/
def flight (st : FrameState) : State :=
  { idle with
    profiles := [{ stock with pinned := some .a }], optics := { idle.optics with pinned := some .a }
    frame := { FrameCycle.powerOn with
      state := st, slot := some 0, tag := some 7, latched := some ⟨1, 1, 0, false, 0, 0, 0, 0⟩, margin := .done }
    port := { Port.powerOn with state := .betweenLines, srcWidth := 2, srcHeight := 2 } }

/-- A frame EXPOSING with its first line in progress. -/
def exposing : State :=
  { flight .exposing with
    engine := { engine .locked with window := .scheduled 0 true }, drives := ⟨.slots, .slots, .slots⟩
    line := some ⟨1, .a, .a, 0, 0, ⟨0, 0, 0⟩, 0, 2, 0, 3000, 1, 0, 0⟩
    port := { (flight .exposing).port with buf0 := ⟨.exposing, 0, [⟨1, 2, 3⟩, ⟨4, 5, 4095⟩]⟩ } }

/-- A monitor window open for the three channels. -/
def sampling : State := { idle with engine := { engine .locked with window := .opened 0 false [.red, .grn, .blu] } }

/-- The same window with red's reading taken: green's is next. -/
def samplingGreen : State := { idle with engine := { engine .locked with window := .opened 0 false [.grn, .blu] } }

/-- A complete header for setup 0. -/
def header : Header := ⟨0, 1, 2, 2, 9, 0⟩

/-- A header waiting with nothing in its way. -/
def waiting : State := { idle with port := { Port.powerOn with state := .header, waiting := some header } }

/-- Staging open on the profile, in bank B. -/
def restaged : Profile := { stock with staging := some ⟨.b, [0x4F]⟩, bankB := some staged }

/-- A DRAFT profile with a bank to stage. -/
def draft : Profile := ⟨1, [], .draft, none, none, none, none, 0, 0, none⟩

def withProfile (p : Profile) : State := { idle with profiles := [p] }

def withStaged (c : Corrections) : State :=
  { idle with optics := { idle.optics with staging := true, other := some { c with revision := none } } }

/-- The result of a command that answers a next state. -/
def after (c : Instr) (s : State) : State := match exec c s with | .next t => t | _ => s

/-- A request in process, not yet answered. -/
def asked (c : Instr) (s : State) : State := { s with link := ⟨true, some c, none, none, false, false, none⟩ }

/-- The reply of a request's command while it is in process. -/
def replyTo (c : Instr) (s : State) : Option Reply := (after c (asked c s)).link.answer

/-! ## Well-formed commands -/

theorem test_wf_refuses_byte_zero : (Instr.requestTransaction [0, 1]).wf = false := by decide

theorem test_wf_refuses_empty_read : (Instr.readTransaction ⟨false, 0⟩).wf = false ∧ (Instr.readTransaction ⟨true, 1⟩).wf = true := by decide

theorem test_wf_refuses_long_label : (Instr.profileCreate 1 (List.replicate 248 0x41)).wf = false ∧
    (Instr.profileCreate 1 (List.replicate 247 0x41)).wf = true := by decide +kernel

theorem test_wf_refuses_long_terms_label : (Instr.profilePutTerms 1 ⟨0, 0, 0⟩ ⟨0, 0, 0⟩ 0 (List.replicate 234 0x41)).wf = false := by
  decide +kernel

theorem test_wf_refuses_many_knots : (Instr.profilePutCurve 1 0 (List.replicate 62 (0, 0))).wf = false ∧
    (Instr.profilePutCurve 1 0 (List.replicate 61 (0, 0))).wf = true := by decide +kernel

theorem test_wf_refuses_many_facets : (Instr.opticsPutFacets (List.replicate 125 (0, 0))).wf = false := by decide +kernel

theorem test_no_row_has_bits : decodeTableWord 0 0 = none ∧ State.withFetchWord State.reset 16 5 = State.reset := by decide +kernel

/-! ## The exposure arithmetic (Chapter 2) -/

/-- Table 2-2. -/
theorem test_widening : [0, 1, 255, 256, 445, 511, 512, 767, 768].map widen = [0, 4, 1020, 1025, 1781, 2045, 2050, 3070, 3075] := by
  decide

/-- Table 2-4. -/
theorem test_curve_rounding : [1000, 1001, 1002].map (segmentAt ⟨1000, 500⟩ ⟨1003, 501⟩) = [500, 500, 501] := by decide

/-- Table 2-5: each row's pair of knots at positions 0 and 128. -/
theorem test_shading :
    let at_ (a b : Int) (t : Nat) := shadingAt ((Vector.replicate 65 a).set 1 b) t
    [at_ (-20) (-4) 72, at_ 40 (-10) 127, at_ 10 11 64, at_ 10 9 64, at_ 10 9 65] = [-11, -10, 11, 10, 9] := by decide +kernel

/-- Table 2-11: T = 4095, 1, 256, 768, 1023, 1024, 3072. -/
theorem test_drive_limits : [4095, 1, 256, 768, 1023, 1024, 3072].map driveOf =
    [(3, 4085), (0, 257), (0, 512), (0, 2048), (0, 4085), (1, 256), (3, 256)] := by decide +kernel

/-- Section 2.11.1: green at mid-scale gives E 2245, T 2211, tier 2, level 398. -/
theorem test_green_mid_scale :
    compute [⟨0, 0⟩, ⟨1536, 1900⟩, ⟨2048, 2620⟩, ⟨4095, 4095⟩] (-40) 64 12 ((Vector.replicate 65 (-20)).set 9 (-4)) 5 (widen 445) 1096 =
      ⟨.none, 2245, 2211, -11, 2, 398⟩ := by decide +kernel

/-- Section 2.11.2: red at the shoulder gives E 4009, T 4142, a high clamp, tier 3, level 4085. -/
theorem test_red_shoulder :
    compute [⟨0, 0⟩, ⟨3584, 3700⟩, ⟨4095, 4080⟩] 120 0 30 ((Vector.replicate 65 40).set 64 (-10)) (-7) 4000 8191 =
      ⟨.high, 4009, 4142, -10, 3, 4085⟩ := by decide +kernel

/-- Section 2.11.3: blue near the toe is dark, a low clamp, and tier 0, level 292. -/
theorem test_blue_toe :
    let at_ (v : Nat) := compute [⟨0, 0⟩, ⟨256, 180⟩, ⟨4095, 4095⟩] (-60) 64 (-5) (Vector.replicate 65 3) (-2) (widen v) 0
    ((at_ 15).result, (at_ 16).result, (at_ 16).sum, at_ 40) = (.dark, .low, -19, ⟨.none, 113, 49, 3, 0, 292⟩) := by decide +kernel

/-- Section 8.11: L(3000) = 2957, L(2850) = 2938, and L of 1408..1411 is 2678. -/
theorem test_logs : [3000, 2850, 1408, 1411].map logOf = [2957, 2938, 2678, 2678] := by decide +kernel

/-! ## Profiles, setups and optics -/

/-- Table 1-9: the lists accepted, and those answered INVALID_CURVE. -/
theorem test_curve_checks :
    ([[⟨0, 0⟩, ⟨4095, 4095⟩], [⟨0, 800⟩, ⟨4095, 800⟩], [⟨0, 0⟩, ⟨1, 2000⟩, ⟨4095, 2000⟩]].all validCurve) = true ∧
    ([[⟨0, 100⟩, ⟨2048, 90⟩, ⟨4095, 3000⟩], [⟨0, 0⟩, ⟨1024, 500⟩, ⟨1024, 600⟩, ⟨4095, 4000⟩], [⟨10, 0⟩, ⟨4095, 4000⟩],
      [⟨0, 0⟩, ⟨4000, 3900⟩], [⟨0, 0⟩]].any validCurve) = false := by decide +kernel

/-- Table 1-9, last row: a code above 4095 is answered RANGE before the curve is looked at. -/
theorem test_curve_range : replyTo (.profilePutCurve 1 0 [(0, 0), (5000, 100), (4095, 200)]) (withProfile restaged) = some ⟨.range, []⟩ := by decide +kernel

/-- Table 1-8, step 12: a commit beside a pinned bank A makes B active with revision 2 and leaves A pinned. -/
theorem test_commit_beside_a_pin :
    let t := after (.profileCommit 1) (asked (.profileCommit 1) (withProfile { restaged with pinned := some .a }))
    (t.link.answer, t.profiles.map fun p => (p.active, p.pinned, p.frames, p.bankB.bind Calibration.revision)) =
      (some ⟨.ok, [0, 2, 1]⟩, [(some .b, some .a, 0, some 2)]) := by decide +kernel

/-- Table 1-8, step 13: staging into a pinned bank is answered BUSY. -/
theorem test_stage_into_a_pin :
    replyTo (.profileStage 1 1) (withProfile { stock with active := some .b, bankB := some cal, pinned := some .a }) = some ⟨.busy, []⟩ := by decide +kernel

/-- Section 4.3.2: setup 3 fits a span of 46000 and of 45048 and not one of 45000; setup 6 does not fit 46000. -/
theorem test_fitting_the_scan :
    let c : SetupConfig := { config with x1 := 4095, prescale := 2, scaler := 5, leftMargin := 96 }
    (fitsScan c 3000 46000, fitsScan c 3000 45048, fitsScan c 3000 45000, fitsScan { c with leftMargin := 200 } 3000 46000) =
      (true, true, false, false) := by decide

/-! ## The frame cycle and the port -/

/-- Table 6-3, step 2: the third header word makes the waiting header, and READY is deasserted (R101, R113). -/
theorem test_header_word :
    let t := after (.dataWord .ready 55) { idle with port := { Port.powerOn with state := .header, words := [0x00060004, 0x02010000] } }
    (t.port.waiting, t.ready) = (some ⟨2, 1, 6, 4, 55, 0⟩, false) := by decide +kernel

/-- Table 6-3, step 6: source column 1 of window columns 1..3, mirrored, goes to j = 2 (R111). -/
theorem test_mirrored_column :
    let c : SetupConfig := { config with srcWidth := 6, srcHeight := 4, x0 := 1, x1 := 3, y0 := 1, y1 := 2, mirror := true }
    let s : State := { flight .seating with
      setups := idle.setups.set 0 ⟨true, c, 0, 0, 0, none⟩
      port := { Port.powerOn with state := .inLine, srcWidth := 6, srcHeight := 4, expected := 1, received := 1, wordCount := 3,
                                  buf0 := ⟨.filling, 1, [⟨2, 2, 2⟩, ⟨1, 1, 1⟩]⟩ } }
    (after (.dataWord .ready 0x00C00000) s).port.buf0 = ⟨.filling, 1, [⟨12, 0, 0⟩, ⟨2, 2, 2⟩, ⟨1, 1, 1⟩]⟩ := by decide +kernel

/-- Section 6.6, last note: a word that begins while READY is deasserted is an overrun, and the frame is spoiled (R114). -/
theorem test_overrun :
    let t := after (.lineStart .notReady 0) (flight .seating)
    (t.port.errors, t.port.state, t.frame.result, t.frame.cause) = (1, .drain, some .spoiled, some .format) := by decide +kernel

/-- R84, R152: a header that passes is latched and the pull issued. -/
theorem test_latch :
    let t := after .headerTaken waiting
    (t.frame.state, t.optics.pinned, t.transport.roll.map fun r => (r.remaining, r.pulls)) = (.seating, some .a, some (4, 1)) := by
  decide +kernel

/-- R76, R92: the last line's completion settles the frame EXPOSED and ages the profile, whose life is 1, to STALE. -/
theorem test_settlement :
    let s : State := { exposing with frame := { exposing.frame with latched := some ⟨1, 1, 0, false, 1, 0, 0, 0⟩ } }
    let t := after .lineComplete s
    t.frame.state = .draining ∧ t.frame.result = some .exposed ∧ t.profiles = [{ stock with state := .stale, frames := 1 }] ∧
      (t.setup 0).exposed = 1 := by decide +kernel

/-! ## The scan engine (Table 7-4) -/

/-- Section 7.7: 51562 is within tolerance, 51563 is not, 48438 is and 48437 is not. -/
theorem test_tolerance : [51562, 51563, 48438, 48437].map engineConfig.within = [true, false, true, false] := by decide

/-- Table 7-4, step 9: the INDEX after a second good revolution gains lock. -/
theorem test_lock_gained :
    let s : State := { idle with engine := { engine .acquiring with revCount := some 8, facet := some 7, good := 1 } }
    let t := after .index s
    (t.engine.state, t.engine.revCount, t.engine.good, t.events.flags.getLsbD 5) = (.locked, some 0, 2, true) := by decide +kernel

/-- Table 7-4, step 12: a ninth FACET in LOCKED loses lock with m = 9, k unknown, mark BAD. -/
theorem test_missed_index :
    let s : State := { idle with engine := { engine .locked with revCount := some 8, facet := some 7 } }
    let t := after (.facet 50000) s
    (t.engine.state, t.engine.revCount, t.engine.facet, t.engine.mark, t.engine.good, t.events.flags.getLsbD 4) =
      (.acquiring, some 9, none, .bad, 0, true) := by decide +kernel

/-- Table 7-5: a delay of -40 starts the line at 3920, a delay of +127 at 4087. -/
theorem test_line_placement : (lineStart 3000 (-40) 96 10, lineStart 3000 127 96 10) = (3920, 4087) := by decide

/-- R125, R127: the line of `exposing`, with O = 3000 and two slots of one period, is complete 3002 periods after its FACET, and its window
opens after 46000; both come as the periods pass, before a later FACET. -/
theorem test_moments_come_with_time :
    let at_ (n : Nat) : State := { exposing with engine := { exposing.engine with periodCount := n } }
    let done : State := { exposing with engine := { exposing.engine with periodCount := 45999 }, line := none, drives := ⟨.off, .off, .off⟩ }
    ((refclk (at_ 3000)).line.isSome, (refclk (at_ 3001)).line.isSome) = (true, false) ∧
    ((refclk done).engine.window, (refclk done).drives.get .red) = (.opened 0 true [.red, .grn, .blu], .reference) ∧
    ((after .lineComplete exposing).engine.periodCount, (after .monitorWindowOpen exposing).engine.periodCount) = (3002, 46000) ∧
    (pass 46000 exposing).line = none ∧ (pass 46000 exposing).engine.window = .opened 0 true [.red, .grn, .blu] := by decide +kernel

/-! ## The laser channels -/

def warming (run : Nat) (last : Int) : State :=
  { samplingGreen with
    chans := { samplingGreen.chans with
      grn := { channel .warming with first := false, stableRun := run, lastRaw := some last, ref := 3000 } } }

/-- Table 8-4, sample 7's rule with the figures of section 8.11: D_raw 19 against 22 is stable, and the fourth in a row is READY. -/
theorem test_warming_ready :
    let t := after (.monitorReading .grn 2850) (warming 3 22)
    ((t.chan .grn).state, (t.chan .grn).drift, (t.chan .grn).stableRun, t.events.flags.getLsbD 3) = (.ready, 19, 4, true) := by
  decide +kernel

/-- Section 8.11 and Table 8-5: with R_ref 3000 and a reading of 2850, D goes from 12 to 13 and from 16 to 16. -/
theorem test_drift_filter :
    let at_ (d : Int) := after (.monitorReading .grn 2850) { samplingGreen with
      chans := { samplingGreen.chans with grn := { channel .ready with ref := 3000, drift := d } } }
    (((at_ 12).chan .grn).drift, ((at_ 16).chan .grn).drift, ((at_ 12).chan .grn).lastRaw) = (13, 16, some 19) := by decide +kernel

/-- Section 8.11, samples 8 and 9: the fourth reading out of limit in a row faults the channel with D held at +64. -/
theorem test_drift_fault :
    let at_ (n : Nat) := after (.monitorReading .grn 1408) { samplingGreen with
      chans := { samplingGreen.chans with grn := { channel .ready with ref := 3000, outRun := n } } }
    (((at_ 2).chan .grn).state, ((at_ 3).chan .grn).state, ((at_ 3).chan .grn).drift, ((at_ 3).chan .grn).faultCause) =
      (.ready, .fault, 64, some .drift) := by decide +kernel

/-! ## The transport, the link and the image -/

/-- Table 9-2, step 2: ROLL_ADVANCE(2) issues its first pull. -/
theorem test_roll_advance :
    let t := after (.rollAdvance 2) idle
    (t.transport.roll.map fun r => (r.remaining, r.pulls), t.transport.advance.map (·.toIssue)) = (some (4, 1), some 1) := by
  decide +kernel

/-- Table 9-2, step 11: the last pull raises ROLL_END. -/
theorem test_roll_end :
    let s : State := { idle with transport := { idle.transport with roll := some { roll with remaining := 1, pulls := 4 } } }
    ((after (.rollAdvance 1) s).events.flags.getLsbD 11, replyTo (.rollAdvance 2) s) = (true, some ⟨.roll, []⟩) := by
  decide +kernel

/-- Table 10-5, steps 1 to 4 and 6: PROCESSING, NOT_DONE, a dropped request, and the status byte 0x80. A row beside the request in process
has no reply (R166). -/
theorem test_dropped_request :
    let s1 := after (.requestTransaction [0x31, 1, 3]) { idle with setups := idle.setups.set 3 ⟨false, config, 0, 0, 0, none⟩ }
    let s2 := after (.readTransaction ⟨true, 3⟩) s1
    let s3 := after (.requestTransaction [0x33, 1, 3]) s2
    let s4 := after (.setupArm 3) (after .identify s3)
    let s6 := after (.readTransaction ⟨false, 3⟩) (after .requestAnswered s4)
    (s1.link.request, s2.outputs.sdo.drop 1, s3.link.dropped, s6.outputs.sdo.drop 1) = (some (.setupArm 3), [1, 0], true, [0x80, 0]) := by
  decide +kernel

/-- R168: a read that begins in PROCESSING shifts out NOT_DONE although the reply is held when CL_CS rises. -/
theorem test_read_begun_in_processing :
    let s := (asked .identify idle).csFall
    let t := after .requestAnswered (after .identify s)
    (t.link.held.isSome, (t.csRise (List.replicate 24 false)).pending) = (true, [.readTransaction ⟨true, 3⟩]) ∧
      (after (.readTransaction ⟨true, 3⟩) t).outputs.sdo.drop 1 = [1, 0] := by decide +kernel

/-- Table 10-5, steps 9 and 12: a flag without a seen mark is kept, a seen one is cleared. -/
theorem test_events_clear :
    ((after (.eventsClear 9) { idle with events := ⟨8, 9, 0⟩ }).events, (after (.eventsClear 9) { idle with events := ⟨9, 9, 9⟩ }).events) =
      (⟨8, 9, 0⟩, ⟨0, 9, 0⟩) := by decide +kernel

/-- R178: the check value of the nine bytes "123456789" under this CRC is 0x29B1. -/
theorem test_crc : crc16 [0x31, 0x32, 0x33, 0x34, 0x35, 0x36, 0x37, 0x38, 0x39] = 0x29B1 := by decide +kernel

/-- Section 11.5: a profile record of K = 10 knots has 81 bytes, and the header's records length is 756 for two profiles. -/
theorem test_record_lengths :
    let knots (n : Nat) : Option Curve := some ((List.range n).map fun i => ⟨i, 0⟩)
    ((profileRecord stock { cal with curves := ⟨knots 2, knots 3, knots 5⟩ }).length,
      (profileRecord stock { cal with curves := ⟨knots 33, knots 33, knots 33⟩ }).length, (opticsRecord .default).length,
      (channelRecord ⟨1, 1, 1⟩).length) = (81, 437, 227, 11) := by decide +kernel

/-! ## The invariants at the small states -/

/-- What the profile table, the image record and the pins need, as one decidable question. -/
abbrev recordsCheck (s : State) (l : Latched) : Prop :=
  (s.image.save = none ∧ s.image.load = none) ∧
  (s.profiles.Pairwise (fun p q => p.id < q.id) ∧ (∀ p ∈ s.profiles, idInRange p.id = true) ∧ s.profiles.length ≤ 24 ∧
    (∀ p ∈ s.profiles, p.bound = armedNaming s.setups p.id) ∧
    ∀ i, (s.setup i).armed = true → ∃ p ∈ s.profiles, p.id = (s.setup i).config.profileId ∧ (p.state = .active ∨ p.state = .stale)) ∧
  (s.inFlight = false → s.optics.pinned = none ∧ ∀ p ∈ s.profiles, p.pinned = none) ∧
  (s.inFlight = true → s.frame.slot.isSome = true ∧ s.frame.tag.isSome = true ∧ s.frame.latched = some l ∧
    ∀ p ∈ s.profiles, p.pinned ≠ none → p.id = l.profileId)

theorem records_of {s : State} {l : Latched} (h : recordsCheck s l) : RecordsSound s where
  table := ⟨h.2.1.1, h.2.1.2.1, h.2.1.2.2.1, h.2.1.2.2.2.1, h.2.1.2.2.2.2⟩
  image := ⟨by rw [h.1.1]; simp, by rw [h.1.2]; simp⟩
  pins := ⟨h.2.2.1, fun k => ⟨(h.2.2.2 k).1, (h.2.2.2 k).2.1, l, (h.2.2.2 k).2.2⟩⟩

/-- What the STEP groups and pulls need where no roll advance is in progress. -/
abbrev stepsCheck (s : State) : Prop :=
  s.transport.advance = none ∧
  (s.frame.pendingGroup.isSome = true → s.engine.window.carriesLine = true ∧ s.transport.group = none ∧ s.line = none) ∧
  (s.line.isSome = true → s.frame.state = .exposing ∧ s.groupBusy = false) ∧
  (s.frame.state = .seating ∨ s.frame.state = .readying → s.groupBusy = false) ∧ (s.inFlight = true → s.transport.roll.isSome = true)

theorem steps_of {s : State} (h : stepsCheck s) : StepSound s where
  pending := h.2.1
  line := h.2.2.1
  seating := h.2.2.2.1
  alone := fun k => ⟨h.1, h.2.2.2.2 k⟩
  waits := by rw [h.1]; simp

/-- What the laser safety needs, channel by channel. -/
abbrev laserCheck (s : State) : Prop :=
  (∀ c ∈ [Chan.red, .grn, .blu], (s.transport.safeOpen = true → (s.chan c).state.lit = false) ∧
    (s.drives.get c ≠ .off → (s.chan c).state.warm = true ∧ s.transport.safeOpen = false) ∧
    (s.frame.state = .exposing → (s.chan c).state = .ready)) ∧
  (s.frame.state = .exposing → s.engine.state = .locked)

theorem laser_of {s : State} (h : laserCheck s) : LaserSafe s where
  dark := fun k c => (h.1 c (by cases c <;> simp)).1 k
  guarded := fun c => (h.1 c (by cases c <;> simp)).2.1
  exposing := fun k => ⟨fun c => (h.1 c (by cases c <;> simp)).2.2 k, h.2 k⟩

/-- What GroupsPositive asks, as one decidable question. -/
abbrev groupsCheck (s : State) : Prop := s.frame.pendingGroup ≠ some 0 ∧ s.transport.group.map StepGroup.pulses ≠ some 0

theorem groups_of {s : State} (h : groupsCheck s) : GroupsPositive s where
  pending := fun n k => Nat.one_le_iff_ne_zero.2 fun z => h.1 (by rw [k, z])
  group := fun g k => Nat.one_le_iff_ne_zero.2 fun z => h.2 (by rw [k, Option.map_some, z])

/-- What Still asks, as one decidable question. -/
abbrev stillCheck (s : State) (n : Nat) : Prop :=
  (s.line.all fun x => n < toMoment s (x.start + x.width * x.slotLength)) = true ∧
  (match s.engine.window with
    | .scheduled _ _ => decide (n < toMoment s s.engine.config.scanSpan)
    | _ => true) = true

theorem still_of {s : State} {n : Nat} (h : stillCheck s n) : Still s n where
  left := by
    intro x k
    have := h.1
    rw [k] at this
    simpa using this
  right := by
    intro k line e
    have := h.2
    rw [e] at this
    simpa using this

/-- What WindowSound asks of an open window, channel by channel. -/
theorem window_of {s : State} {k : Nat} {line : Bool} {l : List Chan} (h : s.engine.window = .opened k line l)
    (c : s.engine.state = .locked ∧ l ≠ [] ∧ l.Sublist [.red, .grn, .blu] ∧ ∀ x ∈ l, (s.chan x).state.warm = true) : WindowSound s where
  locked := fun _ => c.1
  reads := by
    intro k' line' l' e
    rw [h] at e; cases e
    exact c.2

/-- The frame record's latched fields of `flight`. -/
def latched : Latched := ⟨1, 1, 0, false, 0, 0, 0, 0⟩

theorem ramp_valid : validCurve ramp = true := by decide

/-- A save in progress, with its operation timer. -/
def saving (v : Save) (timer : Nat) : State :=
  { idle with image := { Image.powerOn with state := .saving, timer := timer, save := some v } }

theorem saving_records (v : Save) (timer : Nat) : RecordsSound (saving v timer) :=
  have h : RecordsSound idle := records_of (l := latched) (by decide +kernel)
  ⟨⟨h.table.ascend, h.table.ids, h.table.capacity, h.table.bound, h.table.armed⟩, ⟨fun _ => rfl, by intro l h; cases h⟩,
    ⟨h.pins.idle, h.pins.flight⟩⟩

theorem cal_complete : cal.complete := ⟨⟨1, rfl, by decide⟩, fun c => ⟨ramp, by cases c <;> rfl, ramp_valid⟩⟩

theorem stock_sound (b : Option Bank) (h : b = none ∨ b = some .a) : ProfileSound { stock with pinned := b } where
  draft := by simp [stock]
  active := by simp [stock, Profile.bank, cal_complete]
  pinned := by rcases h with rfl | rfl <;> simp [stock, Profile.bank, cal_complete]
  staging := by simp [stock]
  frames := by simp [stock]
  aged := by simp [stock, Profile.activeCal, Profile.bank, cal]

theorem default_sound : CorrectionsSound .default where
  facets := by decide
  lengths := by decide
  gains := by decide
  delays := by decide
  shading := fun c => by cases c <;> decide +kernel

/-! ## Witnesses: the link, the resets and the queries -/

theorem test_witness_StepRunsTheFrontCommand : { idle with pending := [.identify, .softReset] }.pending = .identify :: [.softReset] := rfl

theorem test_witness_IdleStepIsOneRefclkPeriod :
    let at_ (n : Nat) : State := { idle with engine := { idle.engine with msCount := n } }
    let x (n : Nat) : State := { exposing with engine := { exposing.engine with periodCount := n } }
    let asked := after (.requestTransaction [0x18, 2, 0, 1]) idle
    ((at_ 99998).pending = [] ∧ (at_ 99998).link.processing = false ∧ Quiet (at_ 99998) 1) ∧
    ((at_ 99999).pending = [] ∧ (at_ 99999).engine.config.refclkPerMs ≤ (at_ 99999).engine.msCount + 1) ∧
    ((x 3001).line = exposing.line ∧ (x 3001).line.map LineContext.ends = some 3002) ∧
    ((x 45999).engine.window = .scheduled 0 true ∧ (x 45999).engine.state = .locked ∧ (x 45999).engine.config.scanSpan ≤ 45999 + 1) ∧
    (asked.pending = [] ∧ asked.link.processing = true ∧ asked.link.request = some (.profileQuery 1) ∧ asked.link.answer = none) ∧
    (after (.profileQuery 1) asked).link.answer ≠ none := by
  refine ⟨⟨rfl, rfl, by decide, still_of (by decide)⟩, ?_⟩
  decide +kernel

theorem test_witness_PowerOnResetCompletes :
    State.reset.flash.header = none ∧ (State.reset.flash.carryOut (.program 0 (headerBytes 0 238))).header ≠ none := by decide +kernel

theorem test_witness_SoftResetCompletes :
    let held : State := { idle with
      engine := { engine .locked with window := .scheduled 0 true }, frame := { idle.frame with pendingGroup := some 16 }
      profiles := [{ restaged with pinned := none }, { stock with id := 2, state := .retiring, bound := 0 }] }
    let v : Save := ⟨.erase, 0, 16, 0, .erase, []⟩
    ((flight .seating).inFlight = true ∧ (flight .seating).frame.slot = some 0 ∧ (flight .seating).frame.tag = some 7 ∧
      (flight .seating).frame.latched = some latched) ∧
    (idle.inFlight = false ∧ idle.frame.pendingGroup = none ∧ idle.image.save = none ∧ idle.profile 3 = none) ∧
    ((after .imageSave idle).image.state ≠ .idle ∧ (saving v 0).image.save = some v) ∧
    (RecordsSound held ∧ StepSound held ∧ held.profile 1 = some restaged ∧ restaged.state ≠ .retiring ∧
      restaged.staging = some ⟨.b, [0x4F]⟩ ∧ (held.profile 2).map Profile.state = some .retiring ∧ held.frame.pendingGroup = some 16 ∧
      16 ≠ 0) ∧
    RecordsSound (saving v 0) ∧ StepSound (saving v 0) := by
  refine ⟨by decide +kernel, by decide +kernel, by decide +kernel,
    ⟨records_of (l := latched) (by decide +kernel), steps_of (by decide +kernel), by decide +kernel⟩, saving_records _ _, steps_of (by decide +kernel)⟩

theorem test_witness_EventsAreRaisedReadAndCleared :
    (0x8000 : BitVec 16).getLsbD 15 = true ∧ (0x7FFF : BitVec 16).getLsbD 15 = false ∧
    (let v : Events := ⟨0x4000, 0, 0x4000⟩;
      v.flags.getLsbD Event.imageFault.bit = true ∧ v.seen.getLsbD Event.imageFault.bit = true ∧
      (0x4000 : BitVec 15).getLsbD Event.imageFault.bit = true) := by decide

theorem test_witness_RequestMessagesAreTaken :
    (Instr.profileQuery 65535).wf = true ∧ requestMessage (.profileQuery 65535) = some [0x18, 2, 0xFF, 0xFF] ∧
    (Instr.profilePutCurve 1 2 (List.replicate 61 (4095, 4095))).wf = true ∧
    (requestMessage (.profilePutCurve 1 2 (List.replicate 61 (4095, 4095)))).isSome = true ∧
    idle.link.processing = false ∧ idle.link.straddles = false := by decide +kernel

theorem test_witness_LinkTransactions :
    let busy : State := { idle with link := { idle.link with processing := true } }
    (idle.link.straddles = false ∧ idle.link.processing = false ∧ busy.link.processing = true ∧ busy.link.straddles = false ∧
      { idle with link := { idle.link with straddles := true } }.link.straddles = true ∧
      { busy with link := { busy.link with answer := some ⟨.ok, []⟩ } }.link.answer = some ⟨.ok, []⟩ ∧ idle.link.answer = none) ∧
    -- a request in process, not answered, beside another row
    (let s := asked .identify idle;
      s.link.processing = true ∧ s.link.request = some .identify ∧ s.link.answer = none ∧ Instr.eventsRead ≠ .identify) ∧
    -- a length of 251; a code that no request has; a body too short for its request
    ((1 : Byte) ≠ 0 ∧ 250 < (251 : Byte).toNat) ∧ ((6 : Byte) ≠ 0 ∧ (0 : Byte).toNat = ([] : List Byte).length ∧ (6 : Byte).toNat ∉ requestCodes) ∧
    (0x18 : Byte).toNat ∈ requestCodes ∧ (1 : Byte).toNat ≤ 250 ∧ rdRequest (0x18 : Byte).toNat [0] = none := by decide +kernel

theorem test_witness_LookupsChangeNothing :
    let s := withProfile restaged
    let half : Profile := { restaged with bankB := some { staged with curves := ⟨some ramp, none, none⟩ } }
    (s.profile 1 = some restaged ∧ s.profile 65534 = none ∧ (65535 : BitVec 16).toNat = 65535 ∧ chanOf 2 = some .blu) ∧
    (restaged.activeCal = some cal ∧ restaged.stagedCal = some staged ∧ cal.curves.get .blu = some ramp ∧
      staged.curves.get .blu = some ramp) ∧
    ((32 : Byte).toNat ≤ 32 ∧ 1 ≤ (33 : Byte).toNat ∧ (33 : Byte).toNat ≤ 33 ∧ ¬ 1 ≤ (0 : Byte).toNat ∧ ¬ (2 : Byte).toNat < 2) ∧
    ((withProfile draft).profile 1 = some draft ∧ draft.state = .draft ∧ stock.staging = none) ∧
    ((withProfile half).profile 1 = some half ∧ half.stagedCal = some { staged with curves := ⟨some ramp, none, none⟩ } ∧
      ({ staged with curves := ⟨some ramp, none, none⟩ } : Calibration).curves.get .blu = none) ∧
    ((4095 : BitVec 16).toNat ≤ 4095 ∧ (8191 : BitVec 16).toNat ≤ 8191 ∧ (7 : Byte).toNat < s.optics.cur.facets ∧
      ¬ (8 : Byte).toNat < s.optics.cur.facets) ∧
    (s.optics.staging = false ∧ 5 ≤ (5 : Byte).toNat ∧ (4 : Byte).toNat = 4 ∧ (withStaged .default).optics.staging = true ∧
      (withStaged .default).optics.other = some { Corrections.default with revision := none }) ∧
    (slotOf 7 = some 7 ∧ 8 ≤ (8 : Byte).toNat ∧ 3 ≤ (3 : Byte).toNat) := by decide +kernel

theorem test_witness_LookupsOfADraft : ProfileSound draft where
  draft := by simp [draft]
  active := by simp [draft]
  pinned := by simp [draft]
  staging := by simp [draft]
  frames := by simp [draft]
  aged := by simp [draft, Profile.activeCal]

/-! ## Witnesses: profiles -/

theorem test_witness_ProfileChangesAreChecked :
    let s := withProfile { stock with state := .retiring, bound := 0, pinned := some .a }
    profileChange (.profileCommit 1) = some (1, True) ∧ profileChange (.profileStage 0 2) = some (0, (2 : Byte).toNat < 2) ∧
    (1 ≤ (65534 : BitVec 16).toNat ∧ (65534 : BitVec 16).toNat ≤ 65534) ∧ ¬ (65535 : BitVec 16).toNat ≤ 65534 ∧
    ((after .imageSave idle).image.state ≠ .idle ∧ s.image.state = .idle) ∧ (s.profile 1).map Profile.state = some .retiring ∧
    (s.profile 1 ≠ none ∧ s.profile 2 = none ∧ s.profiles.length < 24) ∧ idsAscend s.profiles ∧
    24 ≤ { s with profiles := List.replicate 24 stock }.profiles.length ∧ { s with profiles := List.replicate 24 stock }.profile 2 = none ∧
    (List.replicate 12 (0x7E : Byte)).length ≤ 12 := by
  refine ⟨rfl, rfl, ?_⟩; unfold idsAscend; decide +kernel

theorem test_witness_StagingIsOpenedAndFilled :
    (Reachable (withProfile stock) 1 stock ∧ stock.staging = none ∧ ¬ ((0 : Byte) = 0 ∧ stock.state = .draft) ∧
      stock.pinned ≠ some stock.stagingBank ∧ stock.activeCal = some cal) ∧
    (Reachable (withProfile restaged) 1 restaged ∧ restaged.staging = some ⟨.b, [0x4F]⟩ ∧ restaged.bank .b = some staged) ∧
    (Reachable (withProfile draft) 1 draft ∧ draft.staging = none ∧ draft.state = .draft) ∧
    (let p := { stock with active := some .b, bankB := some cal, pinned := some .a };
      Reachable (withProfile p) 1 p ∧ p.staging = none ∧ p.pinned = some p.stagingBank) ∧
    (∀ k ∈ [((0 : BitVec 16), (0 : BitVec 16)), (4095, 4095)], k.1.toNat ≤ 4095 ∧ k.2.toNat ≤ 4095) ∧
    (chanOf 2 = some .blu ∧ validCurve (curveOf [(0, 0), (4095, 4095)]) = true ∧ validCurve (curveOf [(0, 0), (4094, 4095)]) = false) ∧
    (∀ c, -1024 ≤ ((⟨0xFC00, 0, 1023⟩ : Rgb (BitVec 16)).get c).toInt ∧ ((⟨0xFC00, 0, 1023⟩ : Rgb (BitVec 16)).get c).toInt ≤ 1023) ∧
    (∀ c, ((⟨0, 64, 4095⟩ : Rgb (BitVec 16)).get c).toNat ≤ 4095) ∧
    (List.replicate 12 (0x20 : Byte)).length ≤ 12 ∧ ∀ b ∈ List.replicate 12 (0x20 : Byte), 0x20 ≤ b.toNat ∧ b.toNat ≤ 0x7E := by
  refine ⟨?_, ?_, ?_, ?_, by simp, by decide +kernel, fun c => by cases c <;> decide, fun c => by cases c <;> decide, by decide⟩ <;>
    (unfold Reachable; decide +kernel)

theorem test_witness_ProfileCommitSwapsTheBanks :
    (Reachable (withProfile stock) 1 stock ∧ stock.staging = none) ∧
    (Reachable (withProfile restaged) 1 restaged ∧ restaged.staging = some ⟨.b, [0x4F]⟩ ∧ restaged.bank .b = some staged ∧
      restaged.activeCal = some cal ∧ cal.revision = some 1) ∧ (∀ c, staged.curves.get c ≠ none) ∧
    (let p : Profile := { draft with staging := some ⟨.a, []⟩, bankA := some { staged with curves := ⟨some ramp, none, none⟩ } };
      Reachable (withProfile p) 1 p ∧ p.bank .a = some { staged with curves := ⟨some ramp, none, none⟩ } ∧ p.activeCal = none) ∧
    ∃ c, ({ staged with curves := ⟨some ramp, none, none⟩ } : Calibration).curves.get c = none := by
  refine ⟨?_, ?_, fun c => by cases c <;> decide, ?_, .blu, rfl⟩ <;> (unfold Reachable; decide +kernel)

theorem test_witness_ProfileDiscardAndRetire :
    (Reachable (withProfile restaged) 1 restaged ∧ restaged.staging = some ⟨.b, [0x4F]⟩ ∧ 0 < restaged.bound) ∧
    (Reachable (withProfile stock) 1 stock ∧ stock.staging = none) ∧
    (let p := { stock with bound := 0 }; Reachable (withProfile p) 1 p ∧ p.bound = 0 ∧ p.pinned = none) ∧
    (let p := { restaged with bound := 0, pinned := some .a }; Reachable (withProfile p) 1 p ∧ p.bound = 0 ∧ p.pinned ≠ none) := by
  refine ⟨?_, ?_, ?_, ?_⟩ <;> (unfold Reachable; decide +kernel)

/-- A command that answers a next state meets the premise about the step. -/
theorem step_of {s : State} {c : Instr} {t : State} (h : exec c { s with pending := [] } = .next t) :
    step { s with pending := [c] } = .next t := h

theorem flight_records (st : FrameState) (h : st = .seating ∨ st = .readying ∨ st = .exposing) : RecordsSound (flight st) := by
  rcases h with rfl | rfl | rfl <;> exact records_of (l := latched) (by decide +kernel)

theorem test_witness_RecordsStaySound : ∃ t, RecordsSound idle ∧ step { idle with pending := [.setupDisarm 0] } = .next t ∧
    RecordsSound { idle with pending := [.setupDisarm 0] } :=
  ⟨_, records_of (l := latched) (by decide +kernel), rfl, records_of (l := latched) (by decide +kernel)⟩

theorem flight_optics (st : FrameState) : OpticsSound { flight st with pending := [.frameCancel] } where
  current := default_sound
  other := by intro c h; cases h
  loading := by intro l c h; cases h
  staging := by intro h; cases h
  flight := fun _ => ⟨.default, rfl, rfl⟩

theorem test_witness_ProfilesAndOpticsStaySound :
    (∃ t, ProfilesSound { idle with pending := [.profileDiscard 1] } ∧ step { idle with pending := [.profileDiscard 1] } = .next t) ∧
    ∃ t, RecordsSound { flight .seating with pending := [.frameCancel] } ∧ OpticsSound { flight .seating with pending := [.frameCancel] } ∧
      step { flight .seating with pending := [.frameCancel] } = .next t := by
  refine ⟨⟨_, ⟨?_, ?_⟩, rfl⟩, ⟨_, records_of (l := latched) (by decide +kernel), flight_optics .seating, rfl⟩⟩
  · intro p hp
    have h : p = stock := by simpa [idle] using hp
    exact h ▸ stock_sound none (.inl rfl)
  · intro l h; cases h

theorem test_witness_FrameKeepsItsCalibration :
    let s : State := { flight .seating with pending := [.profileCommit 1] }
    ∃ t, RecordsSound s ∧ ProfilesSound s ∧ OpticsSound s ∧ step s = .next t ∧ s.inFlight = true ∧ t.inFlight = true := by
  refine ⟨_, records_of (l := latched) (by decide +kernel), ⟨?_, ?_⟩, ⟨default_sound, ?_, ?_, ?_, fun _ => ⟨.default, rfl, rfl⟩⟩, rfl, rfl, by
    decide +kernel⟩
  · intro p hp
    have h : p = { stock with pinned := some .a } := by simpa [flight] using hp
    exact h ▸ stock_sound _ (.inr rfl)
  · intro l h; cases h
  · intro c h; cases h
  · intro l c h; cases h
  · intro h; cases h

/-! ## Witnesses: the arithmetic, optics and setups -/

theorem test_witness_StopTablesAreRounded : antilog 0 = 2048 ∧ antilog 255 = 4085 ∧ logEntry 0 = 0 ∧ logEntry 255 = 255 := by decide

theorem test_witness_CurveAndShadingStages :
    validCurve ramp = true ∧ ramp = [] ++ ⟨0, 0⟩ :: ⟨4095, 4095⟩ :: [] ∧ (0 : Nat) ≤ 0 ∧ 4094 < 4095 ∧ ramp.getLast? = some ⟨4095, 4095⟩ ∧
    ∀ x ∈ ((Vector.replicate 65 (-128 : Int)).set 64 127).toList, -128 ≤ x ∧ x ≤ 127 := by decide +kernel

theorem test_witness_ChannelComputationClamps :
    validCurve ramp = true ∧ (63 < 64 ∧ 64 ≤ 64) ∧ (curveAt ramp 0 : Int) + 0 + 0 + 0 + 0 ≤ 0 ∧ 4096 ≤ (curveAt ramp 4095 : Int) + 1 ∧
    1 ≤ (curveAt ramp 1 : Int) ∧ (curveAt ramp 4095 : Int) ≤ 4095 ∧ (-255 : Int).natAbs ≤ 255 ∧
    ∀ x ∈ (Vector.replicate 65 (127 : Int)).toList, -128 ≤ x ∧ x ≤ 127 := by decide +kernel

theorem test_witness_DriveStageGivesTierAndLevel : (768 / 256) % 4 = 3 ∧ (1 / 256) % 4 ≠ 3 ∧ 1 ≤ 1 ∧ 4095 ≤ 4095 := by decide

theorem test_witness_OpticsStagingRequests :
    let facets : List (Byte × Byte) := List.replicate 12 (0x3F, 0x80)
    (∀ x ∈ facets, -64 ≤ x.1.toInt ∧ x.1.toInt ≤ 63) ∧ (6 ≤ facets.length ∧ facets.length ≤ 12) ∧
    (2 ≤ (2 : Byte).toNat ∧ ¬ (6 ≤ (List.replicate 5 ((0 : Byte), (0 : Byte))).length)) ∧
    (after .imageSave idle).image.state ≠ .idle ∧
    ((withStaged .default).image.state = .idle ∧ (withStaged .default).optics.staging = true ∧
      (withStaged .default).optics.other.isSome = true ∧ chanOf 2 = some .blu) ∧
    (idle.image.state = .idle ∧ idle.optics.staging = false ∧ idle.optics.pinned ≠ some idle.optics.current.flip) ∧
    { idle with optics := { idle.optics with current := .b, pinned := some .a } }.optics.pinned = some Bank.b.flip := by
  refine ⟨fun x h => ?_, by decide +kernel⟩
  rw [List.eq_of_mem_replicate h]; decide

theorem test_witness_OpticsCommitReachesTheEngine :
    let six : Corrections := { Corrections.default with facets := 6, gains := List.replicate 6 0, delays := List.replicate 6 0 }
    let at_ (e : EngineState) : State := { withStaged six with engine := engine e }
    ((withStaged .default).optics.staging = true ∧ (withStaged .default).optics.cur.revision = some 0 ∧
      { Corrections.default with revision := none }.facets = (withStaged .default).optics.cur.facets) ∧ idle.optics.staging = false ∧
    ((at_ .stopped).optics.staging = true ∧ (at_ .stopped).optics.other.isSome = true ∧
      six.facets ≠ (at_ .stopped).optics.cur.facets ∧ (at_ .stopped).inFlight = false ∧ (at_ .stopped).engine.state = .stopped ∧
      (at_ .acquiring).engine.state = .acquiring ∧ (at_ .locked).engine.state = .locked ∧ (at_ .locked).image.state = .idle) ∧
    (let s : State := { flight .seating with optics := { (withStaged six).optics with pinned := some .a } };
      s.image.state = .idle ∧ s.optics.staging = true ∧ six.facets ≠ s.optics.cur.facets ∧ s.inFlight = true) := by decide +kernel

/-- The fields of a setup at the tops of their ranges. -/
def topFields : SetupFields := ⟨65534, 1, 8192, 8192, 8191, 8191, 8191, 8191, 1, 8, 32, 8191, 1023, 16, 4, 1⟩

theorem test_witness_SetupWriteIsChecked :
    setupConfigOf topFields ≠ none ∧ setupConfigOf { topFields with leftMargin := 8192 } = none ∧ 8 ≤ (8 : Byte).toNat ∧
    (7 : Byte).toNat = (7 : Fin 8) ∧ (idle.setup 0).armed = true ∧ (idle.setup 7).armed = false := by decide +kernel

theorem test_witness_SetupArmAndDisarm :
    let free (p : Profile) (c : SetupConfig) : State :=
      { idle with profiles := [p], setups := State.reset.setups.set 7 ⟨false, c, 0, 0, 0, none⟩ }
    let wide : SetupConfig := { config with x1 := 4095, prescale := 2, scaler := 5, leftMargin := 96 }
    let fits (c : SetupConfig) (s : State) : Prop := (c.leftMargin + (c.x1 - c.x0 + 1)) * (c.prescale * c.scaler) + s.engine.config.scanLead + 128 ≤
      s.engine.config.scanSpan
    8 ≤ (8 : Byte).toNat ∧ (7 : Byte).toNat = (7 : Fin 8) ∧ (idle.setup 0).armed = true ∧ idle.profile 1 = some stock ∧
    ((flight .seating).inFlight = true ∧ (flight .seating).frame.slot = some 0 ∧ ((flight .seating).setup 0).armed = true) ∧
    (((free stock wide).setup 7).armed = false ∧ (free stock wide).profile 1 = some stock ∧ stock.state = .active ∧ fits wide (free stock wide)) ∧
    ¬ fits { wide with leftMargin := 200 } (free stock wide) ∧ (free draft config).profile 1 = some draft ∧ draft.state = .draft ∧
    (free stock { config with profileId := 2 }).profile 2 = none := by decide +kernel

/-! ## Witnesses: the frame cycle and the port -/

def withPort (p : Port) : State := { idle with port := p }

theorem test_witness_HeadersAreCheckedInTheirTurn :
    let at_ (h : Header) : State := withPort { waiting.port with waiting := some h }
    let faulty : State := { waiting with transport := { waiting.transport with xportFault := true } }
    let failed : State := { idle with frame := { idle.frame with failures := [true] } }
    ((at_ { header with slot := 255 }).port.waiting = some { header with slot := 255 } ∧ (at_ header).inFlight = false ∧
      (at_ header).groupBusy = false ∧ (at_ header).frame.failures = [] ∧ 255 < 256 ∧ 8 ≤ 255 ∧ { header with low := 1 }.low ≠ 0) ∧
    (faulty.port.waiting = some header ∧ faulty.inFlight = false ∧ faulty.groupBusy = false ∧ header.slot = (0 : Fin 8) ∧ header.low = 0 ∧
      headerCause faulty (faulty.setup 0) header = some .xport) ∧
    idle.port.waiting = none ∧ idle.frame.failures = [] ∧
    (failed.frame.failures = true :: [] ∧ failed.inFlight = false ∧ failed.groupBusy = false) := by decide +kernel

/-- R83, R105: the third header word ends a drain, and so does the last failure before a header that waits. -/
theorem test_delivery_ends_the_drain :
    let s : State := { idle with
      port := { Port.powerOn with state := .header, words := [0x00020002, 0x00010000] }, frame := { idle.frame with state := .draining } }
    let f : State := { waiting with frame := { waiting.frame with state := .draining, failures := [false] } }
    ((after (.dataWord .ready 9) s).frame.state, (after .headerFailureTaken f).frame.state,
      (after .headerFailureTaken { f with port := Port.powerOn }).frame.state) = (.idle, .idle, .draining) := by decide +kernel

theorem test_witness_HeaderIsLatched :
    waiting.port.waiting = some header ∧ waiting.inFlight = false ∧ waiting.groupBusy = false ∧ waiting.frame.failures = [] ∧
    header.slot = (0 : Fin 8) ∧ header.low = 0 ∧ headerCause waiting (waiting.setup 0) header = none ∧
    waiting.profile (waiting.setup 0).config.profileId = some stock ∧ stock.activeCal = some cal ∧ cal.revision = some 1 ∧
    waiting.optics.cur.revision = some 0 ∧ waiting.transport.roll = some roll := by decide +kernel

theorem test_witness_SpoilEventsEndTheFrame :
    (∀ st, st = .seating ∨ st = .readying ∨ st = .exposing →
      RecordsSound (flight st) ∧ StepSound (flight st) ∧ (flight st).inFlight = true ∧ (flight st).frame.state = st) ∧
    (chanOf 0 = some .red ∧ ((flight .seating).chan .red).state.lit = true) ∧
    (let s : State := { flight .seating with chans := ⟨channel .warming, channel .ready, channel .ready⟩ };
      RecordsSound s ∧ StepSound s ∧ s.inFlight = true ∧ (s.chan .red).state = .warming) ∧
    (∀ n, ((flight .exposing).port.buf n).state = .empty ∨ ((flight .exposing).port.buf n).state = .filling) ∧
    (flight .exposing).engine.state = .locked := by
  refine ⟨fun st h => ⟨flight_records st h, ?_, ?_, rfl⟩, by decide +kernel,
    ⟨records_of (l := latched) (by decide +kernel), steps_of (by decide +kernel), rfl, rfl⟩, fun n => .inl ?_, rfl⟩
  · rcases h with rfl | rfl | rfl <;> exact steps_of (by decide +kernel)
  · rcases h with rfl | rfl | rfl <;> rfl
  · unfold Port.buf; split <;> rfl

/-- The last line of the window in progress. -/
def lastLine (p : Profile) (armed : Bool) : State :=
  { exposing with
    profiles := [p], setups := exposing.setups.set 0 ⟨armed, config, 0, 0, 0, none⟩
    frame := { exposing.frame with latched := some { latched with lines := 1 } } }

theorem test_witness_LinesCompleteAndSettleTheFrame :
    idle.line = none ∧
    (exposing.line = some ⟨1, .a, .a, 0, 0, ⟨0, 0, 0⟩, 0, 2, 0, 3000, 1, 0, 0⟩ ∧ exposing.frame.latched = some latched ∧
      exposing.frame.slot = some 0 ∧ latched.lines + 1 ≠ (exposing.setup 0).config.y1 - (exposing.setup 0).config.y0 + 1 ∧
      exposing.engine.window.carriesLine = true) ∧
    -- the line ends 3002 periods after its FACET, the window opens after 46000, and a tick may fall before the line's end or on it
    (let x (n : Nat) : State := { exposing with engine := { exposing.engine with msCount := n } };
      (toMoment exposing 3002, toMoment exposing 46000, toTick exposing) = (3002, 46000, 100000) ∧
      (toTick (x 96998), toTick (x 99000)) = (3002, 1000) ∧ (after .millisecondTick (x 99000)).line = (x 99000).line) ∧
    (let p := { stock with pinned := some .a };
      RecordsSound (lastLine p true) ∧ (lastLine p true).frame.tag = some 7 ∧ (lastLine p true).profile 1 = some p ∧
      1 + 1 = ((lastLine p true).setup 0).config.y1 - ((lastLine p true).setup 0).config.y0 + 1 ∧
      p.state ≠ .retiring ∧ p.pinned = p.active ∧ p.activeCal = some cal ∧ cal.life ≠ 0 ∧ cal.life ≤ min 65535 (p.frames + 1)) ∧
    (let p := { stock with pinned := some .a, state := .retiring, bound := 0 };
      RecordsSound (lastLine p false) ∧ (lastLine p false).profile 1 = some p ∧ p.state = .retiring) ∧
    (let p := { stock with pinned := some .b, bankB := some cal };
      RecordsSound (lastLine p true) ∧ (lastLine p true).profile 1 = some p ∧ p.state ≠ .retiring ∧ p.pinned ≠ p.active) := by
  refine ⟨rfl, by decide +kernel, by decide +kernel, ⟨?_, by decide +kernel⟩, ⟨?_, by decide +kernel⟩, ⟨?_, by decide +kernel⟩⟩ <;>
    exact records_of (l := { latched with lines := 1 }) (by decide +kernel)

/-- A STEP group under way. -/
def grouped (a : Option Advance) : State :=
  { idle with transport := { idle.transport with group := some ⟨.line, 1⟩, advance := a } }

theorem test_witness_SeatingAndStepGroups :
    let cold : State := { flight .seating with chans := ⟨channel .warming, channel .ready, channel .ready⟩ }
    let margin : State := { flight .seating with setups := idle.setups.set 0 ⟨true, { config with topMargin := 1 }, 0, 0, 0, none⟩ }
    (cold.frame.state = .seating ∧ (cold.chan .red).state ≠ .ready) ∧
    ((margin.frame.state = .seating ∧ ∀ c, (margin.chan c).state = .ready) ∧ margin.engine.state = .locked ∧ margin.frame.slot = some 0 ∧
      (margin.setup 0).config.topMargin * (margin.setup 0).config.stepsPerLine ≠ 0) ∧
    (((flight .seating).setup 0).config.topMargin = 0 ∧ (flight .seating).transport.advance = none) ∧
    (idle.frame.state ≠ .seating ∧ idle.transport.advance = none ∧ idle.transport.group = none) ∧
    ((grouped none).transport.group = some ⟨.line, 1⟩ ∧ (grouped none).transport.advance = none) ∧
    ((grouped (some ⟨1, .waitingGroup, 5000⟩)).transport.advance = some ⟨1, .waitingGroup, 5000⟩ ∧
      (grouped (some ⟨1, .waitingGroup, 5000⟩)).transport.roll = some roll) := by
  refine ⟨by decide +kernel, ⟨⟨rfl, fun c => by cases c <;> rfl⟩, by decide +kernel⟩, by decide +kernel⟩

theorem test_witness_FrameAndPortAreConfigured :
    idle.inFlight = false ∧ (flight .exposing).inFlight = true ∧ (65535 : BitVec 16) ≠ 0 ∧ (4 : Byte).toNat ∈ [1, 2, 4] ∧
    (3 : Byte).toNat ∉ [1, 2, 4] := by decide +kernel

theorem test_witness_WordsOutsideAFrame :
    WordStart.notReady ≠ .beforeReset ∧ idle.port.state = .waitFrame ∧ (withPort { Port.powerOn with state := .drain }).port.state = .drain ∧
    Instr.headerTaken ∉ wordsBegun .beforeReset 0 0 0 ∧ Instr.frameStart .beforeReset ∈ wordsBegun .beforeReset 0 0 0 := by decide +kernel

theorem test_witness_WordsOfAFrame :
    let s := withPort { Port.powerOn with state := .header, words := [2, 1] }
    let d : State := { s with frame := { s.frame with state := .draining } }
    (s.port.state = .header ∧ s.port.waiting = none ∧ s.port.words = [2, 1] ∧ s.frame.state ≠ .draining) ∧
    (d.port.words = [2, 1] ∧ d.frame.state = .draining ∧ d.frame.failures = []) ∧ ([] : List Word32).length ≠ 2 ∧
    ((flight .seating).port.state = .betweenLines ∧ (flight .seating).ready = true ∧ (0 : Word32).toNat = (flight .seating).port.expected ∧
      (flight .seating).port.received < (flight .seating).port.srcHeight) ∧
    (let t : State := { flight .seating with port := { (flight .seating).port with expected := 2, received := 2 } };
      t.port.state = .betweenLines ∧ t.ready = true ∧ t.port.received = t.port.srcHeight) := by decide +kernel

theorem test_witness_LineFillsItsBuffer :
    let s : State := { flight .seating with port := { (flight .seating).port with state := .inLine, expected := 1, received := 1 } }
    let c := (s.setup 0).config
    s.port.state = .inLine ∧ s.port.wordCount = 0 ∧ s.port.waiting = none ∧ s.port.settled = false ∧ s.frame.slot = some 0 ∧
    c.y0 ≤ s.port.expected ∧ s.port.expected ≤ c.y1 ∧ c.x0 ≤ c.x1 ∧ c.x1 < s.port.srcWidth ∧
    (s.port.buf (s.port.expected - c.y0)).state = .empty ∧ ([0, 0xFFFFFFFF] : List Word32).length = lineWords s.port.format s.port.srcWidth := by
  decide +kernel

theorem test_witness_FramingErrorsEndTheFrame :
    (let s := withPort { Port.powerOn with state := .header };
      RecordsSound s ∧ StepSound s ∧ s.ready = true ∧ framingWord s.port (.frameEnd .ready) = some (.waitFrame, true) ∧
      s.inFlight = false ∧ s.groupBusy = false ∧ s.frame.failures = []) ∧
    (let s : State := { flight .exposing with port := { Port.powerOn with state := .header } };
      RecordsSound s ∧ StepSound s ∧ s.ready = true ∧ framingWord s.port (.lineStart .ready 0) = some (.drain, false) ∧ s.inFlight = true) ∧
    (RecordsSound (flight .seating) ∧ StepSound (flight .seating) ∧ (flight .seating).port.settled = false ∧
      framingWord (flight .seating).port (.dataWord .ready 0) = some (.drain, false) ∧
      (flight .seating).port.state ∈ [PortState.header, .betweenLines, .inLine] ∧
      Instr.frameStart .notReady ∈ wordsBegun .notReady 0 0 0) ∧
    (let full : LineBuffer := ⟨.full, 0, []⟩
      let s : State := { flight .seating with port := { (flight .seating).port with buf0 := full, buf1 := full } };
      RecordsSound s ∧ StepSound s ∧ s.ready = false ∧ s.port.state ∈ [PortState.header, .betweenLines, .inLine] ∧
      Instr.lineStart .ready 0 ∈ wordsBegun .ready 0 0 0) ∧
    (let s := withPort { (flight .seating).port with settled := true };
      RecordsSound s ∧ StepSound s ∧ s.ready = true ∧ s.port.settled = true ∧
      framingWord s.port (.frameStart .ready) = some (.header, false)) := by
  refine ⟨⟨?_, ?_, by decide +kernel⟩, ⟨?_, ?_, by decide +kernel⟩, ⟨?_, ?_, by decide +kernel⟩, ⟨?_, ?_, by decide +kernel⟩,
    ⟨?_, ?_, by decide +kernel⟩⟩ <;>
    first | exact records_of (l := latched) (by decide +kernel) | exact steps_of (by decide +kernel)

theorem test_witness_LanesAndLinkCarryTheCommands :
    let u : WordUnderWay := ⟨.ready, 2, (List.range 34).map fun i => (0x900000002 : BitVec 36).getLsbD (35 - i)⟩
    let s (p : Port) : State := withPort p
    (u.lanes ∈ [1, 2, 4] ∧ (s { Port.powerOn with underWay := some u, lanes := 4 }).port.underWay = some u ∧ [(1 : BitVec 4)] ≠ [] ∧
      34 + u.lanes * 1 = 36 ∧ ∀ j, j < 2 → (1 : BitVec 4).getLsbD j = (0x900000002 : BitVec 36).getLsbD (35 - (34 + u.lanes * 0 + j))) ∧
    (idle.port.underWay = none ∧ idle.port.awaitLow = false ∧ (0x900000002 : BitVec 36).getLsbD 35 = true ∧
      (0xE : BitVec 4).getLsbD 0 = false ∧ idle.ready = true) ∧
    (let p := { Port.powerOn with lanes := 2, awaitLow := true };
      p.underWay = none ∧ (∀ k, k < p.lanes → (0xC : BitVec 4).getLsbD k = false) ∧ ∃ k, k < p.lanes ∧ (0xE : BitVec 4).getLsbD k = true) ∧
    idle.csFall.link.begun = some false ∧ ([true, false].length < 8 ∧ { idle with outputs := { idle.outputs with sdo := [5] } }.outputs.sdo = [5]) := by decide +kernel

/-- R100: a FRAME_END on four lanes after a low period, the tag 1011 with its most significant bit on PX_LANE0. -/
theorem test_lanes :
    (([0xE, 0xD, 0, 0, 0, 0, 0, 0, 0, 0] : List (BitVec 4)).foldl State.pxPeriod (withPort { Port.powerOn with lanes := 4 })).pending =
      [.frameEnd .ready] := by decide +kernel

/-- R117: a word under way at a soft reset is discarded; a word that begins right after it is not taken, and one after a low period is. -/
theorem test_lanes_after_soft_reset :
    let word : List (BitVec 4) := [0xD, 0xF, 0xF, 0xF, 0xF, 0xF, 0xF, 0xF, 0xF]
    let s := word.foldl State.pxPeriod (after .softReset ((word.take 4).foldl State.pxPeriod (withPort { Port.powerOn with lanes := 4 })))
    (s.pending, s.port.underWay, s.port.awaitLow) = ([.frameEnd .beforeReset], none, true) ∧
      ([0, 0xD, 0, 0, 0, 0, 0, 0, 0, 0].foldl State.pxPeriod s).pending = [.frameEnd .beforeReset, .frameEnd .ready] := by decide +kernel

/-! ## Witnesses: the scan engine -/

def withEngine (e : Engine) : State := { idle with engine := e }

theorem test_witness_FacetBeforeLock :
    let s (e : EngineState) (m : Option Nat) : State := withEngine { engine e with revCount := m }
    ((s .stopped none).engine.window = .none ∧ (s .stopped none).engine.state = .stopped ∧ ∀ e m, Quiet (s e m) 99999) ∧
    (toTick { (s .stopped none) with engine := { engine .stopped with msCount := 50000 } } ≤ 50000 ∧
      exposing.line.map LineContext.ends = some 3002 ∧ toMoment exposing 3002 ≤ 3002 ∧ exposing.engine.window = .scheduled 0 true ∧
      exposing.engine.state = .locked ∧ toMoment exposing exposing.engine.config.scanSpan ≤ 46000) ∧
    ((s .acquiring none).engine.state = .acquiring ∧ (s .acquiring none).engine.revCount = none) ∧
    ((s .acquiring (some 7)).engine.revCount = some 7 ∧ engineConfig.within (min (2 ^ 24 - 1) (0 + 51562)) = true ∧
      min 255 (7 + 1) ≤ (s .acquiring (some 7)).optics.cur.facets) ∧
    (engineConfig.within (min (2 ^ 24 - 1) (0 + 51563)) = false ∧ (s .acquiring (some 8)).optics.cur.facets < min 255 (8 + 1)) := by
  refine ⟨⟨rfl, rfl, fun e m => ⟨(by show 99999 < max 1 (100000 - 0); decide), fun x h => (by cases h), fun k line h => (by cases h)⟩⟩, ?_⟩
  decide +kernel

theorem test_witness_LockedFacetLosesLock :
    let s : State := { flight .exposing with engine := { engine .locked with revCount := some 8 } }
    let r := withEngine (engine .locked)
    (RecordsSound s ∧ StepSound s ∧ s.engine.state = .locked ∧ s.engine.revCount = some 8 ∧ s.optics.cur.facets ≤ 8 ∧
      s.frame.state = .exposing ∧ Quiet s 51563) ∧
    (RecordsSound r ∧ StepSound r ∧ r.engine.state = .locked ∧ r.engine.revCount = some 1 ∧
      r.engine.config.within (min (2 ^ 24 - 1) (r.engine.periodCount + 51563)) = false ∧ r.frame.state ≠ .exposing ∧ Quiet r 51563) := by
  refine ⟨⟨?_, ?_, rfl, rfl, by decide, rfl, by decide, still_of (by decide)⟩, ⟨?_, ?_, rfl, rfl, by decide +kernel, by decide, by decide, still_of (by decide)⟩⟩ <;>
    first | exact records_of (l := latched) (by decide +kernel) | exact steps_of (by decide +kernel)

theorem test_witness_LockedFacetServesTheFrame :
    let s : State := { flight .exposing with engine := { engine .locked with revCount := some 7 } }
    let full : State := { s with port := { s.port with buf0 := ⟨.full, 0, []⟩ } }
    let slow : State := { s with setups := s.setups.set 0 ⟨true, { config with stride := 2 }, 0, 0, 0, none⟩ }
    let held : State := { sampling with
      engine := { sampling.engine with window := .opened 0 true [.red] }, frame := { idle.frame with pendingGroup := some 16 } }
    (LaserSafe s ∧ LaserSafe full ∧ LaserSafe slow ∧ LaserSafe (flight .seating)) ∧
    (held.engine.window ≠ .none ∧ held.engine.window.carriesLine = true ∧ held.frame.pendingGroup = some 16 ∧ 16 ≠ 0 ∧
      sampling.engine.window ≠ .none ∧ sampling.engine.window.carriesLine = false) ∧
    (Quiet held 51562 ∧ Quiet sampling 51562 ∧ Quiet s 51562 ∧ Quiet full 51562 ∧ Quiet slow 51562 ∧ Quiet idle 51562) ∧
    (idle.inFlight = false ∧ idle.engine.window = .none ∧ idle.engine.state = .locked ∧ idle.engine.revCount = some 1) ∧
    (s.engine.state = .locked ∧ s.engine.window = .none ∧ s.engine.revCount = some 7 ∧ 7 < s.optics.cur.facets ∧
      s.frame.latched = some latched ∧ s.frame.slot = some 0 ∧ s.optics.pinnedSet = some .default ∧
      s.profile 1 = some { stock with pinned := some .a } ∧
      s.engine.config.within (min (2 ^ 24 - 1) (s.engine.periodCount + 51562)) = true) ∧
    (s.frame.state = .exposing ∧ s.frame.margin = .done ∧ s.line = none ∧ s.groupBusy = false) ∧ (flight .seating).frame.state ≠ .exposing ∧
    min 4 (slow.frame.stride + 1) < (slow.setup 0).config.stride ∧ (s.setup 0).config.stride ≤ min 4 (s.frame.stride + 1) ∧
    (s.port.buf0.state ≠ .full ∧ s.port.buf1.state ≠ .full) ∧ (full.port.buf latched.lines).state = .full := by
  refine ⟨⟨?_, ?_, ?_, ?_⟩, by decide +kernel, ⟨?_, ?_, ?_, ?_, ?_, ?_⟩, by decide +kernel⟩
  iterate 4 exact laser_of (by decide +kernel)
  iterate 6 exact ⟨by decide, still_of (by decide)⟩

theorem test_witness_IndexJudgesTheRevolution :
    let s (e : Engine) : State := withEngine e
    let good := { engine .acquiring with revCount := some 8 }
    let r : State := { flight .readying with engine := { good with good := 1 } }
    (engine .stopped).state = .stopped ∧ { engine .acquiring with mark := .none }.mark = .none ∧
    ((engine .acquiring).mark ≠ .none ∧ (engine .acquiring).revCount ≠ some (s (engine .acquiring)).optics.cur.facets) ∧
    (good.mark = .good ∧ good.revCount = some (s good).optics.cur.facets ∧ { good with good := 0 }.good = 0 ∧ 1 ≤ { good with good := 1 }.good) ∧
    (r.frame.state = .readying ∧ r.frame.slot = some 0 ∧ ∀ c, (r.chan c).state = .ready) ∧
    (∃ c, ({ r with chans := ⟨channel .ready, channel .warming, channel .ready⟩ }.chan c).state ≠ .ready) ∧
    ({ engine .locked with revCount := some 8 }.revCount = some (s good).optics.cur.facets ∧ (engine .locked).state = .locked) ∧
    ((flight .exposing).engine.revCount ≠ some (flight .exposing).optics.cur.facets ∧ RecordsSound (flight .exposing) ∧
      StepSound (flight .exposing)) := by
  refine ⟨rfl, rfl, by decide +kernel, by decide +kernel, ⟨rfl, rfl, fun c => by cases c <;> rfl⟩, ⟨.grn, by decide⟩, by decide +kernel, by decide +kernel,
    flight_records _ (.inr (.inr rfl)), steps_of (by decide +kernel)⟩

theorem test_witness_SlotsArePlacedAndDriven :
    (let x : LineContext := ⟨1, .a, .a, 0, 0, ⟨0, 0, 0⟩, 0, 2, 0, 3000, 1, 0, 0⟩;
      1 ≤ x.slotLength ∧ exposing.line = some x ∧ x.slotAt 3001 = some 1 ∧ x.slotAt 3002 = none ∧
      exposing.profile x.profileId = some { stock with pinned := some .a } ∧ stock.bank x.profileBank = some cal ∧
      (exposing.optics.bank x.opticsBank).isSome = true ∧ (exposing.port.buf x.buffer).pixels[1]? = some ⟨4, 5, 4095⟩) ∧
    (fitsScan config 3000 3130 = true ∧ fitsScan config 3000 3129 = false ∧ (-128 : Int) ≤ -128 ∧ (127 : Int) ≤ 127) ∧
    exposing.drives.get .red = .slots ∧ idle.drives.get .red = .off ∧
    { idle with drives := ⟨.reference, .off, .off⟩ }.drives.get .red = .reference := by decide +kernel

theorem test_witness_MonitorWindowOpens :
    let s (line : Bool) (st : ChannelState) : State :=
      { idle with
        engine := { engine .locked with window := .scheduled 7 line }, chans := ⟨channel .biased, channel .biased, channel st⟩
        frame := { idle.frame with pendingGroup := some 16 } }
    (LaserSafe (s true .ready) ∧ LaserSafe (s true .biased) ∧ LaserSafe (s false .biased)) ∧
    ((s true .ready).engine.window = .scheduled 7 true ∧ (s true .ready).engine.state = .locked ∧ (s true .ready).line = none ∧
      toMoment (s true .ready) 46000 < toTick (s true .ready) ∧ toMoment (s false .biased) 46000 < toTick (s false .biased)) ∧
    -- a tick before the window's moment or on it, and a line that ends before
    (let x (n : Nat) : State := { idle with engine := { engine .locked with window := .scheduled 7 false, msCount := n } };
      (toTick (x 54000), toTick (x 54001), toMoment (x 54001) 46000) = (46000, 45999, 46000) ∧
      (after .millisecondTick (x 54001)).engine.window = .scheduled 7 false ∧ (after .lineComplete exposing).engine.window = .scheduled 0 true ∧
      toMoment exposing 3002 < toMoment exposing 46000) ∧
    (∃ c, ((s true .ready).chan c).state = .warming ∨ ((s true .ready).chan c).state = .ready) ∧
    (∀ line c, ¬ (((s line .biased).chan c).state = .warming ∨ ((s line .biased).chan c).state = .ready)) ∧
    ((s false .biased).engine.window = .scheduled 7 false ∧ (s true .biased).frame.pendingGroup = some 16 ∧ 16 ≠ 0) ∧
    ∀ k line, idle.engine.window ≠ .scheduled k line := by
  refine ⟨⟨?_, ?_, ?_⟩, by decide +kernel, by decide +kernel, ⟨.blu, .inr rfl⟩, fun line c => ?_, by decide +kernel, fun k line h => by cases h⟩
  iterate 3 exact laser_of (by decide +kernel)
  cases c <;> cases line <;> decide

theorem test_witness_EngineIsConfigured :
    let f : EngineFields := ⟨50000, 8, 3000, 46000, 100, 4, 100000⟩
    let tight : EngineFields := { f with scanSpan := 3129 }
    let odd : EngineFields := { f with tolerance := 9 }
    engineConfigOf f = some engineConfig ∧ engineConfigOf { f with tolerance := 65 } = none ∧
    ((flight .seating).inFlight = true ∧ idle.inFlight = false) ∧
    (engineConfigOf tight = some { engineConfig with scanSpan := 3129 } ∧ (idle.setup 0).armed = true ∧
      fitsScan (idle.setup 0).config 3000 3129 = false) ∧
    ((∀ i, (idle.setup i).armed = true → fitsScan (idle.setup i).config 3000 46000 = true) ∧ idle.engine.msCount < 100000) ∧
    (engineConfigOf odd = some { engineConfig with tolerance := 9 } ∧
      ¬ (engineConfig.nominal = idle.engine.config.nominal ∧ 9 = idle.engine.config.tolerance) ∧ idle.engine.state = .locked ∧
      (engine .acquiring).state = .acquiring ∧ (engine .stopped).state = .stopped) := by decide +kernel

theorem idle_numbering : NumberingSound { idle with pending := [.index] } where
  facets := ⟨by decide, (by intro c h; cases h), (by intro l c h; cases h)⟩
  good := by intro m _ h _; cases h; rfl
  locked := fun _ => ⟨1, 0, rfl, by decide, rfl, by decide⟩

theorem idle_settings : SettingsSound { idle with pending := [.rollAdvance 1] } where
  fits := by decide +kernel
  setups := fun i => if h : i = 0 then .inr (by subst h; unfold SetupConfig.inRange; decide +kernel) else .inl (by revert i; decide +kernel)
  engine := .inr (by unfold EngineConfig.inRange; decide)
  millisecond := by decide
  channels := fun c => by cases c <;> (unfold ChannelConfig.inRange; decide)
  idle := by decide
  start := by decide
  port := by decide

theorem test_witness_EngineAndLinesStayInOrder :
    let s : State := { idle with pending := [.index] }
    let x : State := { exposing with pending := [.lineComplete] }
    (∃ t, NumberingSound s ∧ step s = .next t) ∧ (∃ t, StepSound x ∧ step x = .next t) ∧ (∃ t, BuffersSound x ∧ step x = .next t) ∧
    (∃ t, WindowSound { sampling with pending := [.monitorReading .red 1] } ∧ step { sampling with pending := [.monitorReading .red 1] } = .next t) ∧
    ∃ t, SettingsSound { idle with pending := [.rollAdvance 1] } ∧ GroupsPositive { idle with pending := [.rollAdvance 1] } ∧
      step { idle with pending := [.rollAdvance 1] } = .next t := by
  refine ⟨⟨_, idle_numbering, rfl⟩, ⟨_, steps_of (by decide +kernel), rfl⟩, ⟨_, ?_, rfl⟩, ⟨_, ⟨fun _ => rfl, ?_⟩, rfl⟩,
    ⟨_, idle_settings, groups_of (by decide +kernel), rfl⟩⟩
  · intro n h
    refine ⟨_, rfl, ?_⟩
    revert h; simp only [Port.buf]; split
    · intro _; simpa using (by assumption : n % 2 = 0).symm
    · intro h; cases h
  · intro k line toRead h
    cases h
    exact ⟨by decide, by decide, fun c _ => by cases c <;> rfl⟩

/-! ## Witnesses: the laser channels -/

theorem test_witness_ChannelRequestsByState :
    let s (st : ChannelState) : State := { idle with chans := { idle.chans with blu := { channel st with capture := true } } }
    3 ≤ (3 : Byte).toNat ∧ chanOf 2 = some .blu ∧ (∀ st, ((s st).chan .blu).state = st) ∧
    ((s .ready).transport.safeOpen = false ∧ (s .ready).inFlight = false ∧ (s .ready).engine.window.isOpen = false ∧
      (s .ready).frame.state ≠ .readying ∧ (s .ready).frame.state ≠ .exposing) ∧
    { idle with transport := { idle.transport with safeOpen := true } }.transport.safeOpen = true ∧
    (flight .readying).frame.state = .readying := by
  refine ⟨by decide, rfl, fun st => rfl, by decide +kernel⟩

theorem test_witness_ChannelSettingsAreReplaced :
    let top : ChannelFields := ⟨31, 64, 16, 65535, 255, 8⟩
    3 ≤ (3 : Byte).toNat ∧ chanOf 2 = some .blu ∧ channelConfigOf top = some ⟨31, 64, 16, 65535, 255, 8⟩ ∧
    channelConfigOf { top with driftLimit := 15 } = none ∧ (4095 < (4096 : BitVec 16).toNat ∧ (0 : BitVec 16).toNat < 1) ∧
    (1 ≤ (4095 : BitVec 16).toNat ∧ (4095 : BitVec 16).toNat ≤ 4095) ∧ (flight .seating).inFlight = true ∧ idle.inFlight = false ∧
    (idle.chan .blu).state = .ready ∧ (channel .warming).state ≠ .ready := by decide +kernel

theorem test_witness_ReadingsAreTakenToStopUnits :
    (2 ^ 11 ≤ 4095 ∧ 4095 < 2 ^ (11 + 1) ∧ 8 ≤ 11) ∧ (2 ^ 7 ≤ 255 ∧ 255 < 2 ^ (7 + 1) ∧ 7 < 8) ∧ 1 ≤ 1 ∧ 1 ≤ 4095 ∧ 4095 ≤ 4095 := by decide

theorem test_witness_WarmingAndZeroReadings :
    let s := warming 3 22
    -- blue is the last channel of a full window, with a line group that waits for the window's end
    let last (run : Nat) (st : FrameState) : State :=
      { flight st with
        chans := ⟨channel .ready, channel .ready, { channel .warming with first := false, stableRun := run, lastRaw := some 22, ref := 3000 }⟩
        engine := { engine .locked with window := .opened 0 true [.blu] }
        frame := { (flight st).frame with pendingGroup := some 1 } }
    (GroupsPositive s ∧ s.engine.window = .opened 0 false (.grn :: [.blu]) ∧ (2850 : BitVec 12) ≠ 0 ∧ (s.chan .grn).state = .warming ∧
      (s.chan .grn).capture = false) ∧
    -- a difference of 4 is stable and one of 5 is not; a run of 4 reaches the target of 4
    ((s.chan .grn).first = false ∧ (2850 : BitVec 12).toNat < 4095 ∧ rawDrift 3000 2850 = 19 ∧ (19 - 23 : Int).natAbs ≤ 4 ∧
      ¬ (19 - 24 : Int).natAbs ≤ 4 ∧ (s.chan .grn).target ≤ min 64 (3 + 1) ∧ min 64 (2 + 1) < (s.chan .grn).target) ∧
    (∀ run, GroupsPositive (last run .readying) ∧ (last run .readying).engine.window = .opened 0 true (.blu :: []) ∧
      ((last run .readying).chan .blu).state = .warming ∧ (last run .readying).frame.state = .readying ∧
      (last run .readying).engine.state = .locked ∧ (∀ d, d ≠ .blu → ((last run .readying).chan d).state = .ready) ∧
      (last run .readying).frame.slot = some 0 ∧ (last run .readying).transport.advance = none ∧
      ((last run .readying).setup 0).config.topMargin * ((last run .readying).setup 0).config.stepsPerLine = 0) ∧
    (let m : State := { last 3 .readying with setups := idle.setups.set 0 ⟨true, { config with topMargin := 1 }, 0, 0, 0, none⟩ };
      (m.setup 0).config.topMargin * (m.setup 0).config.stepsPerLine ≠ 0) ∧
    (∀ k line rest, s.engine.window ≠ .opened k line (.blu :: rest)) ∧
    (RecordsSound (last 0 .exposing) ∧ StepSound (last 0 .exposing) ∧ (last 0 .exposing).inFlight = true ∧ s.inFlight = false ∧ WindowSound s) ∧
    ∃ t, (last 0 .seating).engine.window = .opened 0 true [.blu] ∧ exec (.monitorReading .blu 1) (last 0 .seating) = .next t := by
  refine ⟨⟨groups_of (by decide +kernel), by decide +kernel⟩, by decide +kernel,
    fun run => ⟨groups_of ⟨fun h => (by cases h), fun h => (by cases h)⟩, rfl, rfl, rfl, rfl, fun d h => ?_, rfl, rfl, rfl⟩, by decide +kernel,
    fun k line rest h => (by cases h), ⟨records_of (l := latched) (by decide +kernel), steps_of (by decide +kernel), rfl, rfl,
      window_of rfl (by decide +kernel)⟩, _, rfl, rfl⟩
  cases d
  · rfl
  · rfl
  · exact absurd rfl h

theorem test_witness_DriftSampleIsFiltered :
    let s (n : Nat) (capture : Bool) : State :=
      { samplingGreen with
        chans := { samplingGreen.chans with grn := { channel .ready with ref := 3000, drift := 12, outRun := n, capture := capture } } }
    let x : State := { flight .exposing with engine := { engine .locked with window := .opened 0 true [.blu] } }
    (∀ n capture, GroupsPositive (s n capture)) ∧
    (GroupsPositive x ∧ RecordsSound x ∧ StepSound x ∧ x.inFlight = true ∧ x.engine.window = .opened 0 true (.blu :: []) ∧
      (x.chan .blu).state = .ready) ∧ ((s 3 true).inFlight = false ∧ WindowSound (s 3 true)) ∧
    ((s 3 true).engine.window = .opened 0 false (.grn :: [.blu]) ∧ [Chan.blu] ≠ [] ∧ (2850 : BitVec 12) ≠ 0 ∧
      ((s 3 true).chan .grn).state = .ready ∧ ((s 3 true).chan .grn).outRun ≤ 3 ∧ 1 ≤ ((s 3 true).chan .grn).config.driftDivisor) ∧
    (((s 0 true).chan .grn).capture = true ∧ (4094 : BitVec 12).toNat < 4095) ∧
    (¬ ((2850 : BitVec 12).toNat = 4095 ∨ 64 < |rawDrift 3000 2850|) ∧ 12 ≤ rawDrift 3000 2850 ∧ rawDrift 3000 3000 < 12) ∧
    (64 < |rawDrift 3000 1411| ∧ ((s 2 false).chan .grn).outRun < 3 ∧ ((s 3 false).chan .grn).outRun = 3) := by
  refine ⟨fun n capture => groups_of ⟨fun h => (by cases h), fun h => (by cases h)⟩, ⟨groups_of (by decide +kernel), records_of (l := latched) (by decide +kernel),
    steps_of (by decide +kernel), by decide +kernel⟩, ⟨rfl, window_of rfl (by decide +kernel)⟩, by decide +kernel⟩

theorem test_witness_LaserSafetyIsKept :
    ∃ t, LaserSafe { exposing with pending := [.safeOpen] } ∧ step { exposing with pending := [.safeOpen] } = .next t :=
  ⟨_, laser_of (by decide +kernel), rfl⟩

theorem idle_counts : CountsBounded { idle with pending := [.rollAdvance 1] } where
  strays := by decide
  errors := by decide
  setups := by decide +kernel
  period := by decide
  phase := by decide
  good := by decide
  revolution := by intro m h; cases h; decide
  frame := by intro l h; cases h
  stride := by decide
  runs := fun c => by cases c <;> decide
  idle := by decide

theorem test_witness_LimitsAndAccountsAreKept :
    let s : State := { idle with pending := [.rollAdvance 1] }
    ∃ t, DriftBounded s ∧ RollCounted s.transport ∧ FlashCanonical s ∧ LinkSound s.link ∧ CountsBounded s ∧ SettingsSound s ∧
      step s = .next t :=
  ⟨_, fun c => by cases c <;> decide, ⟨(by intro r h; cases h; decide), (by intro a h; cases h)⟩, rfl, .inr ⟨rfl, rfl, rfl, rfl⟩,
    idle_counts, idle_settings, rfl⟩

/-! ## Witnesses: the transport, the timers and the image memory -/

theorem test_witness_RollRequests :
    let bare : State := { idle with transport := { idle.transport with roll := none } }
    let advancing : State := { idle with transport := { idle.transport with advance := some ⟨0, .seating, 5000⟩ } }
    ((2 : BitVec 16).toNat ≤ (2 : BitVec 16).toNat ∧ (65535 : BitVec 16) ≠ 0 ∧ (65534 : BitVec 16).toNat < (65535 : BitVec 16).toNat) ∧
    bare.transport.roll = none ∧ idle.transport.roll = some roll ∧
    { idle with transport := { idle.transport with xportFault := true } }.transport.xportFault = true ∧
    (advancing.transport.advance ≠ none ∧ advancing.transport.xportFault = false ∧ advancing.transport.roll = some roll) ∧
    (idle.inFlight = false ∧ idle.transport.advance = none ∧ idle.groupBusy = false ∧ roll.remaining < (6 : BitVec 16).toNat ∧
      (5 : BitVec 16).toNat ≤ roll.remaining) ∧ (grouped none).groupBusy = true := by decide +kernel

theorem test_witness_InputLinesWithoutAFrame :
    let s (n : Nat) : State := { idle with transport := { idle.transport with advance := some ⟨n, .seating, 5000⟩ } }
    (idle.inFlight = false ∧ idle.transport.advance = none) ∧ ((s 0).inFlight = false ∧ (s 0).transport.advance ≠ none) ∧
    (s 0).transport.advance = some ⟨0, .seating, 5000⟩ ∧ ((s 1).transport.advance = some ⟨0 + 1, .seating, 5000⟩ ∧
      (s 1).transport.roll = some roll) ∧ (flight .seating).frame.state = .seating ∧
    -- a last line's group that waits for its window, after its frame has settled
    (let x : State := { idle with
        engine := { engine .locked with window := .opened 0 true [.blu] }, frame := { idle.frame with pendingGroup := some 1 }
        transport := { idle.transport with advance := some ⟨1, .waitingGroup, 5000⟩ } };
      x.inFlight = false ∧ LaserSafe x ∧ StepSound x ∧ GroupsPositive x) := by
  refine ⟨by decide +kernel, by decide +kernel, rfl, by decide +kernel, rfl, by decide +kernel, laser_of (by decide +kernel), ⟨?_, ?_, ?_, ?_, ?_⟩,
    groups_of (by decide +kernel)⟩
  · exact fun _ => ⟨rfl, rfl, rfl⟩
  · intro h; cases h
  · intro h; rcases h with h | h <;> cases h
  · intro h; cases h
  · intro a h; cases h; decide

theorem test_witness_TickAdvancesTheTimers :
    let s : State := { flight .seating with
      frame := { (flight .seating).frame with startTimer := 4999 }
      engine := { engine .locked with facetTimer := 99 }
      chans := ⟨{ channel .warming with warmTimer := 29999 }, channel .ready, channel .ready⟩ }
    let r : State := { idle with
      idle := ⟨600, 599, 998⟩
      transport := { idle.transport with advance := some ⟨0, .seating, 5000⟩, pullTimer := 4999 }
      image := { (after .imageSave idle).image with timer := 499 } }
    (s.inFlight = true ∧ s.frame.startTimer < s.frame.startTimeout ∧ s.engine.facetTimer < s.engine.config.facetTimeout ∧
      (∀ c, (s.chan c).state = .warming → (s.chan c).warmTimer < (s.chan c).config.warmTimeout) ∧
      (∀ n l, s.transport.advance = some ⟨n, .seating, l⟩ → s.transport.pullTimer < l) ∧ (s.image.save ≠ none → s.image.timer < 500)) ∧
    (r.inFlight = false ∧ r.idle.seconds < r.idle.delay ∧ (∀ n l, r.transport.advance = some ⟨n, .seating, l⟩ → r.transport.pullTimer < l) ∧
      r.image.save ≠ none ∧ r.image.timer < 500) ∧ Still s (toTick s) ∧ Still r (toTick r) ∧
    -- a line's end and a window's opening before the tick
    (toMoment exposing 3002 < toTick exposing ∧ toMoment exposing 46000 < toTick exposing ∧ exposing.engine.window = .scheduled 0 true) := by
  refine ⟨⟨rfl, by decide, by decide, fun c => by cases c <;> decide, fun n l h => (by cases h), by decide +kernel⟩,
    ⟨rfl, by decide, fun n l h => (by cases h; decide), by decide +kernel, by decide⟩, still_of (by decide +kernel), still_of (by decide +kernel), by decide +kernel⟩

/-- Every timer at its limit: a SEATING frame with a WARMING channel, an EXPOSING frame, and no frame beside a pull. -/
theorem test_witness_TickPassesTheLimits :
    let s (n : Nat) : State := { flight .seating with
      frame := { (flight .seating).frame with startTimer := n }
      chans := ⟨{ channel .warming with warmTimer := 30000 }, channel .ready, channel .ready⟩ }
    let x (n : Nat) : State := { flight .exposing with
      frame := { (flight .exposing).frame with lineWait := n }, engine := { engine .locked with facetTimer := 100 } }
    let r (i : IdleBias) : State := { idle with
      idle := i
      transport := { idle.transport with advance := some ⟨0, .seating, 5000⟩, pullTimer := 5000 } }
    let v : Save := ⟨.erase, 0, 16, 0, .erase, []⟩
    (∀ n ∈ [4999, 5000], RecordsSound (s n) ∧ StepSound (s n) ∧ (s n).frame.state = .seating) ∧
    ((s 5000).frame.startTimeout ≤ (s 5000).frame.startTimer ∧ ¬ (s 4999).frame.startTimeout ≤ (s 4999).frame.startTimer ∧
      ((s 4999).chan .red).state = .warming ∧ ((s 4999).chan .red).config.warmTimeout ≤ ((s 4999).chan .red).warmTimer) ∧
    -- nothing falls before the tick
    (∀ n i, Still (s n) (toTick (s n)) ∧ Still (x n) (toTick (x n)) ∧ Still (r i) (toTick (r i)) ∧ Still (saving v n) (toTick (saving v n))) ∧
    (∀ n ∈ [99, 100], RecordsSound (x n) ∧ StepSound (x n) ∧ (x n).frame.state = .exposing ∧ (x n).engine.state = .locked ∧
      (∀ b ∈ [(x n).port.buf0, (x n).port.buf1], b.state = .empty ∨ b.state = .filling) ∧
      (x n).engine.config.facetTimeout ≤ (x n).engine.facetTimer) ∧
    ((x 100).port.lineWaitLimit ≤ (x 100).frame.lineWait ∧ ¬ (x 99).port.lineWaitLimit ≤ (x 99).frame.lineWait) ∧
    -- a second completed, the delay lowered to the seconds within one, and the timer at its top
    (∀ i ∈ [(⟨600, 599, 999⟩ : IdleBias), ⟨5, 5, 0⟩, ⟨65535, 65535, 999⟩], RecordsSound (r i) ∧ StepSound (r i) ∧ (r i).inFlight = false ∧
      i.delay ≠ 0 ∧ i.delay ≤ (if i.millis = 999 ∧ i.seconds < 65535 then i.seconds + 1 else i.seconds) ∧
      (r i).transport.advance = some ⟨0, .seating, 5000⟩ ∧ 5000 ≤ (r i).transport.pullTimer ∧ ((r i).chan .red).state = .ready) ∧
    (RecordsSound (saving v 500) ∧ StepSound (saving v 500) ∧ (saving v 500).image.save = some v ∧ 500 ≤ (saving v 500).image.timer) := by
  have still : ∀ t : State, t.line = none → t.engine.window = .none → Still t (toTick t) := fun t h k =>
    ⟨fun y e => (by rw [h] at e; cases e), fun k' l e => (by rw [k] at e; cases e)⟩
  refine ⟨?_, by decide +kernel, fun n i => ⟨still _ rfl rfl, still _ rfl rfl, still _ rfl rfl, still _ rfl rfl⟩, ?_, by decide +kernel, ?_, ⟨saving_records _ _, steps_of (by decide +kernel), rfl, by decide⟩⟩
  · intro n h
    fin_cases h <;> exact ⟨records_of (l := latched) (by decide +kernel), steps_of (by decide +kernel), rfl⟩
  · intro n h
    fin_cases h <;> exact ⟨records_of (l := latched) (by decide +kernel), steps_of (by decide +kernel), by decide +kernel⟩
  · intro i h
    fin_cases h <;> exact ⟨records_of (l := latched) (by decide +kernel), ⟨(by intro h; cases h), (by intro h; cases h),
      (by intro h; rcases h with h | h <;> cases h), (by intro h; cases h), (by intro a h; cases h; decide)⟩, by decide +kernel⟩

theorem test_witness_TimersPassTheirLimits :
    let s : State := { idle with
      chans := ⟨channel .warming, channel .ready, channel .dark⟩
      transport := { idle.transport with advance := some ⟨0, .seating, 5000⟩, pullTimer := 5000 } }
    (engine .stopped).state = .stopped ∧ (engine .acquiring).state = .acquiring ∧
    (idle.engine.state = .locked ∧ idle.frame.state ≠ .exposing ∧ idle.engine.window = .none) ∧
    ((s.chan .red).state = .warming ∧ (s.chan .grn).state ≠ .warming ∧ s.inFlight = false ∧ s.engine.window.isOpen = false) ∧
    (s.idle.delay ≠ 0 ∧ (flight .seating).inFlight = true) ∧ s.transport.advance = some ⟨0, .seating, 5000⟩ ∧
    (∀ a, (grouped (some ⟨1, .waitingGroup, 5000⟩)).transport.advance = some a → a.pull = .waitingGroup) ∧
    (s.frame.state ≠ .seating ∧ s.frame.state ≠ .readying ∧ s.frame.state ≠ .exposing) := by
  refine ⟨rfl, rfl, by decide +kernel, by decide +kernel, by decide +kernel, rfl, fun a h => (by cases h; rfl), by decide +kernel⟩

theorem test_witness_SaveRunsOnItsOperations :
    (after .imageSave idle).image.state ≠ .idle ∧ (idle.image.state = .idle ∧ idle.image.save = none) ∧
    (∀ v, (saving v 0).image.save = some v ∧ RecordsSound (saving v 0)) ∧
    (⟨.profile, 1, 16, 1, .program 16 [1], [.program 256 [2]]⟩ : Save).later = .program 256 [2] :: [] ∧
    (∀ st, (⟨st, 1, 335, 1, .program 0 [1], []⟩ : Save).step = st ∧ (⟨st, 1, 335, 1, .program 0 [1], []⟩ : Save).later = []) ∧
    -- after the erase the profile is next, and after its record none is
    ((stock.state = .active ∧ 0 < stock.id ∧ ∀ q ∈ idle.profiles, stock.id ≤ q.id) ∧ stock.activeCal = some cal ∧
      ∀ p ∈ idle.profiles, ¬ (1 < p.id)) := by
  refine ⟨by decide +kernel, by decide +kernel, fun v => ⟨rfl, saving_records v 0⟩, rfl, fun st => ⟨rfl, rfl⟩, by decide +kernel⟩

/-- R175, R180: a record's program that passes the limit is carried out all the same; the header's is not. -/
theorem test_timed_out_programs :
    let s (st : SaveStep) : State := saving ⟨st, 1, 335, 1, .program 300 [7], []⟩ 0
    ((after .imageOperationTimeout (s .optics)).flash.read 300, (after .imageOperationTimeout (s .header)).flash.read 300) = (7, 0xFF) := by
  decide +kernel

theorem test_witness_SavedRecordsLoadBack :
    State.reset.flash.wf = true ∧ State.reset.flash.left = none ∧ idInRange 65534 = true ∧ labelInRange (List.replicate 12 0x7E) = true ∧
    (stock.activeCal = some cal ∧ cal.complete ∧ stock.frames ≤ 65535 ∧ cal.life ≤ 65535) ∧
    ((∀ ch, -1024 ≤ cal.trims.get ch ∧ cal.trims.get ch ≤ 1023) ∧ ∀ ch, cal.darks.get ch ≤ 4095) ∧
    (CorrectionsSound .default ∧ Corrections.default.revision = some 0) ∧
    (∀ ch, 1 ≤ (⟨1, 2048, 4095⟩ : Rgb Nat).get ch ∧ (⟨1, 2048, 4095⟩ : Rgb Nat).get ch ≤ 4095) ∧
    (24 ≤ 24 ∧ 238 ≤ 238 ∧ 65520 ≤ 65520) := by
  refine ⟨rfl, rfl, rfl, by decide, ⟨rfl, cal_complete, by decide, by decide⟩, ⟨fun c => by cases c <;> decide, fun c => by cases c <;> decide⟩,
    ⟨default_sound, rfl⟩, fun c => by cases c <;> decide, by decide⟩

/-- The operations that write bytes to the region. -/
def written (a : Nat) (bytes : List Byte) (f : Flash) : Flash := (programsOf a bytes).foldl Flash.carryOut f

/-- A load of a region at a step, with a set. -/
def loading (f : Flash) (st : LoadStep) (set : LoadSet) : State :=
  { idle with
    profiles := [], setups := State.reset.setups, flash := f
    image := { Image.powerOn with
      state := .loading, load := some ⟨st, if st = .profile then 1 else 0, 16, 81, set⟩ } }

theorem test_witness_LoadReadsItsRecords :
    let saved := written 16 (profileRecord stock cal) State.reset.flash
    let s := loading saved .profile ⟨[], none, none⟩
    let again := loading saved .profile ⟨[stock], none, none⟩
    (after .imageSave idle).image.state ≠ .idle ∧ (idle.profiles ≠ [] ∧ State.reset.profiles = [] ∧ State.reset.flash.header = none) ∧
    (written 0 (headerBytes 0 238) State.reset.flash).header = some (0, 238) ∧ idle.image.load = none ∧
    (saved.lengthAt 16 = 65 ∧ 16 + saved.lengthAt 16 ≤ 81 ∧ 437 < State.reset.flash.lengthAt 16) ∧
    (readProfile (saved.bytes 16 65)).isSome = true ∧ (s.image.load.map (·.step)) = some .profile ∧
    (again.image.load.map fun l => l.set.profiles.map Profile.id) = some [1] := by decide +kernel

theorem test_witness_LoadSetIsPlaced :
    let saved := written (81 + 227) (channelRecord ⟨1, 2048, 4095⟩) State.reset.flash
    let six : Corrections := { Corrections.default with facets := 6, gains := List.replicate 6 0, delays := List.replicate 6 0 }
    let s (c : Corrections) (e : EngineState) : State := { loading saved .channel ⟨[], some c, none⟩ with engine := engine e }
    let bare := loading State.reset.flash .channel ⟨[], none, none⟩
    (∀ c e, RecordsSound (s c e) ∧ (s c e).image.load = some ⟨.channel, 0, 16, 81, ⟨[], some c, none⟩⟩ ∧ (s c e).engine.state = e ∧
      (s c e).optics.cur = .default) ∧
    (Corrections.default.facets = 8 ∧ six.facets ≠ 8 ∧ readChannels (saved.bytes (81 + 227) 11) = some ⟨1, 2048, 4095⟩) ∧
    (RecordsSound bare ∧ bare.image.load = some ⟨.channel, 0, 16, 81, ⟨[], none, none⟩⟩ ∧
      readChannels (bare.flash.bytes (81 + 227) 11) = none) := by
  have free : ∀ i, (State.reset.setup i).armed = true → False := by decide +kernel
  refine ⟨fun c e => ⟨?_, rfl, rfl, rfl⟩, by decide +kernel, ⟨?_, rfl, by decide +kernel⟩⟩ <;> exact
    { table := ⟨List.Pairwise.nil, (by intro p hp; cases hp), Nat.zero_le _, (by intro p hp; cases hp), fun i h => (free i h).elim⟩
      image := ⟨(by intro h; cases h), (by intro l h; cases h; exact
        ⟨rfl, rfl, rfl, List.nodup_nil, (by intro p hp; cases hp), Nat.zero_le _, (by intro h; cases h)⟩)⟩
      pins := ⟨fun _ => ⟨rfl, (by intro p hp; cases hp)⟩, (by intro h; cases h)⟩ }

end Sys2Proof.Tests
end

section
/-! Laws of the profile table: what a lookup by ID returns after each change of the table, and the counting of ARMED setups. -/

namespace Sys2Proof.Machine

-- one theorem after another, as in the tests: a checker's memory limit leaves no room for many threads at once
set_option Elab.async false

open Sys2Proof

/-! ## Lookups by ID -/

/-- The first record of an ID in a table. -/
def lookup (t : List Profile) (id : Nat) : Option Profile := t.find? fun p => p.id == id

theorem State.profile_eq (s : State) (id : Nat) : s.profile id = lookup s.profiles id := rfl

theorem lookup_nil (id : Nat) : lookup [] id = none := rfl

theorem lookup_cons (p : Profile) (t : List Profile) (id : Nat) :
    lookup (p :: t) id = if p.id = id then some p else lookup t id := by
  by_cases h : p.id = id <;> simp [lookup, h]

theorem lookup_some {t : List Profile} {id : Nat} {p : Profile} (h : lookup t id = some p) : p ∈ t ∧ p.id = id :=
  ⟨List.mem_of_find?_eq_some h, by simpa using List.find?_some h⟩

theorem lookup_none {t : List Profile} {id : Nat} : lookup t id = none ↔ ∀ p ∈ t, p.id ≠ id := by
  simp [lookup]

/-- With different IDs a lookup finds each record that the table holds. -/
theorem lookup_mem {t : List Profile} (h : idsAscend t) {p : Profile} (hp : p ∈ t) : lookup t p.id = some p := by
  induction t with
  | nil => cases hp
  | cons q t ih =>
    obtain ⟨hq, ht⟩ := List.pairwise_cons.1 h
    rw [lookup_cons]
    rcases List.mem_cons.1 hp with rfl | hp
    · rw [if_pos rfl]
    · rw [if_neg (Nat.ne_of_lt (hq p hp)), ih ht hp]

/-- With different IDs two records of one ID are one. -/
theorem eq_of_id {t : List Profile} (h : idsAscend t) {p q : Profile} (hp : p ∈ t) (hq : q ∈ t) (e : p.id = q.id) : p = q := by
  have hpq := lookup_mem h hp
  rw [e, lookup_mem h hq] at hpq
  exact (Option.some.inj hpq).symm

theorem lookup_modProfile (t : List Profile) (id j : Nat) {f : Profile → Profile} (hf : ∀ p, (f p).id = p.id) :
    lookup (modProfile t id f) j = if j = id then (lookup t j).map f else lookup t j := by
  induction t with
  | nil => simp [modProfile, lookup_nil]
  | cons p t ih =>
    have hcons : modProfile (p :: t) id f = (if p.id = id then f p else p) :: modProfile t id f := rfl
    rw [hcons, lookup_cons, ih, lookup_cons]
    by_cases hp : p.id = id
    · subst hp
      by_cases hj : j = p.id
      · simp [hf, hj]
      · simp [hf, hj, Ne.symm hj]
    · by_cases hj : p.id = j
      · subst hj; simp [hp]
      · simp [hp, hj]

theorem lookup_insertProfile {p : Profile} {t : List Profile} (h : lookup t p.id = none) (j : Nat) :
    lookup (insertProfile p t) j = if j = p.id then some p else lookup t j := by
  induction t with
  | nil => simp [insertProfile, lookup_cons, eq_comm]
  | cons q t ih =>
    rw [lookup_cons] at h
    have hq : q.id ≠ p.id := fun e => by simp [e] at h
    rw [if_neg hq] at h
    simp only [insertProfile]
    split
    · simp [lookup_cons, eq_comm]
    · rw [lookup_cons, ih h, lookup_cons]
      by_cases hj : q.id = j
      · subst hj; simp [hq]
      · simp [hj]

theorem lookup_filter_id (t : List Profile) (j : Nat) (keep : Profile → Bool) (h : ∀ p ∈ t, p.id = j → keep p = true) :
    lookup (t.filter keep) j = lookup t j := by
  induction t with
  | nil => rfl
  | cons p t ih =>
    have iht := ih fun q hq => h q (List.mem_cons_of_mem _ hq)
    rw [lookup_cons]
    by_cases hp : p.id = j
    · rw [List.filter_cons_of_pos (h p List.mem_cons_self hp), lookup_cons]
      simp [hp]
    · rw [if_neg hp, ← iht]
      by_cases hk : keep p = true
      · rw [List.filter_cons_of_pos hk, lookup_cons, if_neg hp]
      · rw [List.filter_cons_of_neg hk]

theorem lookup_freeProfile (t : List Profile) (id j : Nat) :
    lookup (freeProfile t id) j = if j = id then none else lookup t j := by
  split
  · subst j
    exact lookup_none.2 fun p hp => by simpa using (List.mem_filter.1 hp).2
  · next hj =>
    refine lookup_filter_id t j _ fun p _ hp => ?_
    simp [hp, hj]

/-! ## Ascending IDs -/

theorem idsAscend_iff (t : List Profile) : idsAscend t ↔ (t.map Profile.id).Pairwise (· < ·) := List.pairwise_map.symm

theorem idsAscend_of_ids {t u : List Profile} (h : idsAscend t) (e : u.map Profile.id = t.map Profile.id) : idsAscend u := by
  rw [idsAscend_iff] at h ⊢
  rwa [e]

theorem idsAscend_modProfile {t : List Profile} (h : idsAscend t) (id : Nat) {f : Profile → Profile} (hf : ∀ p, (f p).id = p.id) :
    idsAscend (modProfile t id f) := idsAscend_of_ids h (modProfile_map_id t id f hf)

@[simp] theorem modProfile_length (t : List Profile) (id : Nat) (f : Profile → Profile) :
    (modProfile t id f).length = t.length := List.length_map _

/-- A set of records of different IDs, each inserted at its place, stands in ascending order of ID (R182, log entry 34). -/
theorem insertAll_ascend (l : List Profile) : ∀ t : List Profile, idsAscend t → ((t ++ l).map Profile.id).Nodup →
    idsAscend (l.foldl (fun t p => insertProfile p t) t) := by
  induction l with
  | nil => exact fun t h _ => h
  | cons p l ih =>
    intro t h hn
    have hsplit : ((t ++ p :: l).map Profile.id).Perm ((insertProfile p t ++ l).map Profile.id) := by
      refine List.Perm.map _ (List.perm_middle.trans ?_)
      refine (List.Perm.append_right l ?_ : (p :: t ++ l).Perm (insertProfile p t ++ l))
      clear hn h ih
      induction t with
      | nil => exact List.Perm.refl _
      | cons q t ih =>
        simp only [insertProfile]
        split
        · exact List.Perm.refl _
        · exact (List.Perm.swap q p t).trans (ih.cons q)
    refine ih _ (insertProfile_ascend h fun q hq e => ?_) (hsplit.nodup_iff.1 hn)
    rw [List.map_append, List.nodup_append] at hn
    exact hn.2.2 q.id (List.mem_map_of_mem hq) p.id (by simp) e

theorem mem_insertAll (l : List Profile) : ∀ (t : List Profile) (q : Profile),
    q ∈ l.foldl (fun t p => insertProfile p t) t ↔ q ∈ t ∨ q ∈ l := by
  induction l with
  | nil => simp
  | cons p l ih =>
    intro t q
    rw [List.foldl_cons, ih, mem_insertProfile, List.mem_cons]
    tauto

theorem insertAll_length (l : List Profile) : ∀ t : List Profile,
    (l.foldl (fun t p => insertProfile p t) t).length = t.length + l.length := by
  induction l with
  | nil => simp
  | cons p l ih =>
    intro t
    rw [List.foldl_cons, ih, insertProfile_length, List.length_cons]
    omega

/-! ## Changes of one record in the state -/

theorem State.profile_modProfile (s : State) (id j : Nat) {f : Profile → Profile} (hf : ∀ p, (f p).id = p.id) :
    (s.modProfile id f).profile j = if j = id then (s.profile j).map f else s.profile j := lookup_modProfile s.profiles id j hf

theorem State.profile_some {s : State} {id : Nat} {p : Profile} (h : s.profile id = some p) : p ∈ s.profiles ∧ p.id = id :=
  lookup_some h

theorem State.liveProfile_eq_some {s : State} {id : Nat} {p : Profile} :
    s.liveProfile id = some p ↔ s.profile id = some p ∧ p.state ≠ .retiring := by
  simp [State.liveProfile, Option.filter_eq_some_iff]

theorem State.liveProfile_eq_none {s : State} {id : Nat} :
    s.liveProfile id = none ↔ ∀ p, s.profile id = some p → p.state = .retiring := by
  simp [State.liveProfile, Option.filter_eq_none_iff]

theorem State.imageBusy_iff (s : State) : s.imageBusy = true ↔ s.image.state ≠ .idle := by simp [State.imageBusy]

theorem State.imageBusy_false (s : State) : s.imageBusy = false ↔ s.image.state = .idle := by simp [State.imageBusy]

@[simp] theorem setBank_id (p : Profile) (k : Bank) (c : Option Calibration) : (p.setBank k c).id = p.id := by cases k <;> rfl
@[simp] theorem setBank_label (p : Profile) (k : Bank) (c : Option Calibration) : (p.setBank k c).label = p.label := by cases k <;> rfl
@[simp] theorem setBank_state (p : Profile) (k : Bank) (c : Option Calibration) : (p.setBank k c).state = p.state := by cases k <;> rfl
@[simp] theorem setBank_active (p : Profile) (k : Bank) (c : Option Calibration) : (p.setBank k c).active = p.active := by cases k <;> rfl
@[simp] theorem setBank_staging (p : Profile) (k : Bank) (c : Option Calibration) : (p.setBank k c).staging = p.staging := by
  cases k <;> rfl
@[simp] theorem setBank_frames (p : Profile) (k : Bank) (c : Option Calibration) : (p.setBank k c).frames = p.frames := by cases k <;> rfl
@[simp] theorem setBank_bound (p : Profile) (k : Bank) (c : Option Calibration) : (p.setBank k c).bound = p.bound := by cases k <;> rfl
@[simp] theorem setBank_pinned (p : Profile) (k : Bank) (c : Option Calibration) : (p.setBank k c).pinned = p.pinned := by cases k <;> rfl

/-- A bank replaced is read back; the other bank is as it was. -/
theorem bank_setBank (p : Profile) (k x : Bank) (c : Option Calibration) : (p.setBank k c).bank x = if x = k then c else p.bank x := by
  cases k <;> cases x <;> rfl

/-- A bank other than the pinned one can be replaced without touching the pinned calibration (R17). -/
theorem pinnedCal_setBank {p : Profile} {k : Bank} (h : p.pinned ≠ some k) (c : Option Calibration) :
    (p.setBank k c).pinnedCal = p.pinnedCal := by
  simp only [Profile.pinnedCal, setBank_pinned]
  cases hp : p.pinned with
  | none => rfl
  | some x =>
    have hx : x ≠ k := fun e => h (by rw [hp, e])
    simp [bank_setBank, hx]

/-! ## ARMED setups -/

/-- The setup is ARMED and names the profile (R22). -/
def Setup.names (x : Setup) (id : Nat) : Bool := x.armed && x.config.profileId == id

theorem armedNaming_eq (v : Vector Setup 8) (id : Nat) : armedNaming v id = v.toList.countP fun x => x.names id := rfl

theorem names_iff (x : Setup) (id : Nat) : x.names id = true ↔ x.armed = true ∧ x.config.profileId = id := by
  simp [Setup.names]

/-- A profile is named by an ARMED setup exactly where its count is positive (R22). -/
theorem armedNaming_eq_zero {v : Vector Setup 8} {id : Nat} : armedNaming v id = 0 ↔ ∀ i : Fin 8, v[i].names id = false := by
  rw [armedNaming_eq, List.countP_eq_zero]
  constructor
  · intro h i
    have hi : v[i] ∈ v.toList := by simp
    simpa using h _ hi
  · intro h x hx
    obtain ⟨i, hi, rfl⟩ := List.mem_iff_getElem.1 hx
    have := h ⟨i, by simpa using hi⟩
    simpa using this

/-- One setup replaced: its own part of a count goes and the new one's comes (R22). -/
theorem armedNaming_set (v : Vector Setup 8) (i : Fin 8) (x : Setup) (id : Nat) :
    armedNaming (v.set i x) id + (if v[i].names id then 1 else 0) = armedNaming v id + (if x.names id then 1 else 0) := by
  have hi : (i : Nat) < v.toList.length := by simp
  have hset : (v.set i x).toList = v.toList.set i x := by rw [Vector.toList_set]
  have hget : v.toList[(i : Nat)] = v[i] := by simp
  have hpos : (if v[i].names id then 1 else 0) ≤ armedNaming v id := by
    split
    · next h => exact List.countP_pos_iff.2 ⟨v[i], by simp, h⟩
    · exact Nat.zero_le _
  have hcount := List.countP_set (p := fun x : Setup => x.names id) (a := x) hi
  rw [armedNaming_eq, hset, hcount, hget, ← armedNaming_eq]
  omega

theorem armedNaming_setSetup (s : State) (i : Fin 8) (x : Setup) (id : Nat) :
    armedNaming (s.setups.set i x) id + (if (s.setup i).names id then 1 else 0) =
      armedNaming s.setups id + (if x.names id then 1 else 0) := armedNaming_set s.setups i x id

theorem names_of_idle {x : Setup} (h : x.armed = false) (id : Nat) : x.names id = false := by simp [Setup.names, h]

theorem names_of_ne {x : Setup} {id : Nat} (h : x.config.profileId ≠ id) : x.names id = false := by simp [Setup.names, h]

/-- Counts of ARMED setups depend on the states and the configurations alone. -/
theorem armedNaming_congr {v w : Vector Setup 8} (h : ∀ i : Fin 8, w[i].armed = v[i].armed ∧ w[i].config = v[i].config) (id : Nat) :
    armedNaming w id = armedNaming v id := by
  have hmap : ∀ u : Vector Setup 8, armedNaming u id =
      (u.toList.map fun x => (x.armed, x.config)).countP fun y => y.1 && y.2.profileId == id := by
    intro u
    rw [armedNaming_eq, List.countP_map]
    rfl
  rw [hmap, hmap]
  congr 1
  refine List.ext_getElem (by simp) fun n h1 h2 => ?_
  have hn : n < 8 := by simpa using h1
  have hw := h ⟨n, hn⟩
  simp only [List.getElem_map, Vector.getElem_toList]
  exact Prod.ext hw.1 hw.2

end Sys2Proof.Machine
end

section
/-! What the steps that change no record by a request do to the profile table, the pins, the setups and the image record: they keep them, or
a flight ends and its pins are returned (R16 to R18, R61, R92, R95). -/

namespace Sys2Proof.Machine

-- one theorem after another, as in the tests: a checker's memory limit leaves no room for many threads at once
set_option Elab.async false

open Sys2Proof

/-! ## The two things that can happen -/

/-- The figures of the frame record that stand from the latch point to the frame's end (R84). -/
def Latched.figures (l : Latched) : Nat × Nat × Nat × Bool := (l.profileId, l.profileRev, l.opticsRev, l.stale)

/-- The same frame is in flight in two frame records. -/
structure SameFlight (f g : FrameCycle) : Prop where
  slot : g.slot = f.slot
  tag : g.tag = f.tag
  latched : g.latched.map Latched.figures = f.latched.map Latched.figures

/-- The image record where no image request is taken: the load is as it was, and a save goes on, stands or has ended (R179, R180). -/
structure SaveMoves (m n : Image) : Prop where
  load : n.load = m.load
  save : n.save.isSome = true → m.save.isSome = true
  state : n.state = m.state ∨ m.save.isSome = true ∧ n.save = none

/-- The setups are ARMED and configured as they were: only counts and reports differ. -/
def SameSetups (s t : State) : Prop := ∀ i, (t.setup i).armed = (s.setup i).armed ∧ (t.setup i).config = (s.setup i).config

/-- The records are as they were, and a frame in flight goes on. -/
structure RecordsKept (s t : State) : Prop where
  profiles : t.profiles = s.profiles
  optics : t.optics = s.optics
  setups : SameSetups s t
  image : SaveMoves s.image t.image
  inFlight : t.inFlight = s.inFlight
  flight : s.inFlight = true → SameFlight s.frame t.frame

/-- The pins are returned and no frame is in flight any more (R18, R61). -/
structure FlightEnded (s t : State) : Prop where
  profiles : ∃ exposed, t.profiles = (returnPins s exposed).profiles
  optics : t.optics = { s.optics with pinned := none }
  setups : SameSetups s t
  image : SaveMoves s.image t.image
  inFlight : t.inFlight = false

/-- The records after any number of changes, each of which keeps them or ends a flight. -/
inductive RecordsStep : State → State → Prop where
  | kept {s t : State} : RecordsKept s t → RecordsStep s t
  | ended {s t : State} : FlightEnded s t → RecordsStep s t
  | trans {r s t : State} : RecordsStep r s → RecordsStep s t → RecordsStep r t

theorem SameFlight.rfl' (f : FrameCycle) : SameFlight f f := ⟨rfl, rfl, rfl⟩

theorem SameFlight.trans {f g h : FrameCycle} (a : SameFlight f g) (b : SameFlight g h) : SameFlight f h :=
  ⟨b.slot.trans a.slot, b.tag.trans a.tag, b.latched.trans a.latched⟩

theorem FrameKept.sameFlight {f g : FrameCycle} (h : FrameKept f g) : SameFlight f g :=
  ⟨h.slot, h.tag, congrArg _ h.latched⟩

theorem SaveMoves.rfl' (m : Image) : SaveMoves m m := ⟨rfl, id, .inl rfl⟩

theorem SameSetups.rfl' (s : State) : SameSetups s s := fun _ => ⟨rfl, rfl⟩

theorem SameSetups.of_eq {s t : State} (h : t.setups = s.setups) : SameSetups s t := fun i => by simp [State.setup, h]

/-- The records are kept where the profiles, the optics set, the setups and the image record are equal and the frame record differs in
fields that no group changes. -/
theorem RecordsStep.of_frame {s t : State} (frame : FrameKept s.frame t.frame) (profiles : t.profiles = s.profiles := by simp)
    (optics : t.optics = s.optics := by simp) (setups : t.setups = s.setups := by simp) (image : t.image = s.image := by simp) :
    RecordsStep s t :=
  .kept ⟨profiles, optics, .of_eq setups, image ▸ .rfl' _, congrArg FrameState.inFlight frame.state, fun _ => frame.sameFlight⟩

/-- The records are kept where the frame record is equal too. -/
theorem RecordsStep.of_eq {s t : State} (frame : t.frame = s.frame := by simp) (profiles : t.profiles = s.profiles := by simp)
    (optics : t.optics = s.optics := by simp) (setups : t.setups = s.setups := by simp) (image : t.image = s.image := by simp) :
    RecordsStep s t :=
  .of_frame (frame ▸ .rfl' _) profiles optics setups image

/-- The records are kept where only the image record differs, by a save's going on or ending. -/
theorem RecordsStep.of_image {s t : State} (image : SaveMoves s.image t.image) (frame : t.frame = s.frame := by simp)
    (profiles : t.profiles = s.profiles := by simp) (optics : t.optics = s.optics := by simp)
    (setups : t.setups = s.setups := by simp) : RecordsStep s t :=
  .kept ⟨profiles, optics, .of_eq setups, image, congrArg (fun f => f.state.inFlight) frame,
    fun _ => by rw [frame]; exact .rfl' _⟩

/-- The records are kept where only the frame record differs, and in it only fields other than the frame in flight. -/
theorem RecordsStep.of_flight {s t : State} (inFlight : t.inFlight = s.inFlight)
    (flight : s.inFlight = true → SameFlight s.frame t.frame) (profiles : t.profiles = s.profiles := by simp)
    (optics : t.optics = s.optics := by simp) (setups : t.setups = s.setups := by simp) (image : t.image = s.image := by simp) :
    RecordsStep s t :=
  .kept ⟨profiles, optics, .of_eq setups, image ▸ .rfl' _, inFlight, flight⟩

/-- The records are kept where a state is written with other fields of other blocks. -/
theorem RecordsStep.same {s t : State} (frame : t.frame = s.frame := by rfl) (profiles : t.profiles = s.profiles := by rfl)
    (optics : t.optics = s.optics := by rfl) (setups : t.setups = s.setups := by rfl) (image : t.image = s.image := by rfl) :
    RecordsStep s t := .of_eq frame profiles optics setups image

theorem RecordsStep.refl (s : State) : RecordsStep s s := .same

/-- A change that begins from the state with other fields of other blocks. -/
theorem RecordsStep.after {s m t : State} (h : RecordsStep m t) (frame : m.frame = s.frame := by rfl)
    (profiles : m.profiles = s.profiles := by rfl) (optics : m.optics = s.optics := by rfl) (setups : m.setups = s.setups := by rfl)
    (image : m.image = s.image := by rfl) : RecordsStep s t := .trans (.of_eq frame profiles optics setups image) h

/-- A choice between two changes. -/
theorem RecordsStep.ite {s t u : State} (c : Prop) [Decidable c] (ht : c → RecordsStep s t) (hu : ¬c → RecordsStep s u) :
    RecordsStep s (if c then t else u) := by
  split
  · exact ht ‹_›
  · exact hu ‹_›

/-! ## Groups, pulls and windows -/

theorem raise_steps (s : State) (e : Event) : RecordsStep s (s.raise e) := .same

theorem setChan_steps (s : State) (c : Chan) (x : Channel) : RecordsStep s (s.setChan c x) := .same

theorem beginGroup_steps (s : State) (k : GroupKind) (n : Nat) : RecordsStep s (beginGroup s k n) := .of_frame (beginGroup_kept s k n)

theorem groupEnded_steps (s : State) (k : GroupKind) : RecordsStep s (groupEnded s k) :=
  .of_frame (by rw [groupEnded_frame]; exact groupNotice_kept _ _)

theorem windowPassed_steps (s : State) : RecordsStep s (windowPassed s) := .of_frame (windowPassed_kept s)

theorem endWindow_steps (s : State) : RecordsStep s (endWindow s) := .of_frame (endWindow_kept s)

theorem dropSample_kept (s : State) (c : Chan) : FrameKept s.frame (dropSample s c).frame := by
  unfold dropSample
  simp only [State.setDrive_engine]
  split
  · split
    · split
      · exact endWindow_kept { s.setDrive c .off with engine := { s.engine with window := .opened _ _ _ } }
      · exact .rfl' _
    · exact .rfl' _
  · exact .rfl' _

theorem dropSample_steps (s : State) (c : Chan) : RecordsStep s (dropSample s c) := .of_frame (dropSample_kept s c)

theorem darken_steps (s : State) (c : Chan) : RecordsStep s (darken s c) :=
  .trans (setChan_steps s c _) (dropSample_steps _ c)

theorem enterBiased_steps (s : State) (c : Chan) : RecordsStep s (enterBiased s c) :=
  .trans (setChan_steps s c _) (dropSample_steps _ c)

theorem endAdvance_steps (s : State) (x : LastAdvance) : RecordsStep s (endAdvance s x) := .of_eq

theorem advancePull_steps (s : State) : RecordsStep s (advancePull s) := .of_eq

/-! ## The end of a flight -/

@[simp] theorem charge_armed (x : Setup) (r : Report) : (x.charge r).armed = x.armed := by
  unfold Setup.charge; split <;> rfl

@[simp] theorem charge_config (x : Setup) (r : Report) : (x.charge r).config = x.config := by
  unfold Setup.charge; split <;> rfl

/-- A setup replaced by one that is ARMED and configured as it is. -/
theorem setSetup_same {s : State} {i : Fin 8} {x : Setup} (ha : x.armed = (s.setup i).armed) (hc : x.config = (s.setup i).config) :
    SameSetups s (s.setSetup i x) := by
  intro j
  rw [State.setSetup_setup]
  split
  · next h => subst h; exact ⟨ha, hc⟩
  · exact ⟨rfl, rfl⟩

theorem chargeFrame_same (s : State) (r : Result) (c : Option Cause) : SameSetups s (chargeFrame s r c) := by
  unfold chargeFrame
  split
  · exact setSetup_same (charge_armed _ _) (charge_config _ _)
  · exact .rfl' _

theorem returnPins_profiles (s : State) (x : Bool) :
    (returnPins s x).profiles = (match s.frame.latched with
      | none => s.profiles
      | some l => returnProfilePin s.profiles l.profileId x) := by
  simp only [returnPins]
  cases s.frame.latched with
  | none => rfl
  | some l => dsimp only; split <;> rfl

theorem returnPins_profiles_congr {s t : State} (hp : t.profiles = s.profiles) (hl : t.frame.latched = s.frame.latched) (x : Bool) :
    (returnPins t x).profiles = (returnPins s x).profiles := by
  rw [returnPins_profiles, returnPins_profiles, hl, hp]

@[simp] theorem returnPins_optics (s : State) (x : Bool) : (returnPins s x).optics = { s.optics with pinned := none } := by
  simp only [returnPins]
  cases s.frame.latched with
  | none => rfl
  | some l => dsimp only; split <;> rfl

/-- The pins as a spoil returns them (R18, R95). -/
theorem spoil_profiles {s : State} {c : Cause} (h : s.inFlight = true) : (spoil s c).profiles = (returnPins s false).profiles := by
  simp only [spoil, h, if_true, leaveFlight_profiles, State.raise_profiles, chargeFrame_profiles]
  let dark := State.drivesOff { s with line := none }
  exact returnPins_profiles_congr (s := s) (endWindow_profiles dark) (endWindow_kept dark).latched _

theorem spoil_optics {s : State} {c : Cause} (h : s.inFlight = true) : (spoil s c).optics = { s.optics with pinned := none } := by
  simp [spoil, h]

theorem spoil_steps (s : State) (c : Cause) : RecordsStep s (spoil s c) := by
  cases h : s.inFlight with
  | false => rw [spoil_of_idle h]; exact .refl s
  | true =>
    refine .ended ⟨⟨false, spoil_profiles h⟩, spoil_optics h, ?_, by simpa using SaveMoves.rfl' s.image, spoil_inFlight s c⟩
    intro i
    simp only [spoil, h, if_true]
    have hc := chargeFrame_same
      { returnPins (endWindow (State.drivesOff { s with line := none })) false with
        port := spoilPort (returnPins (endWindow (State.drivesOff { s with line := none })) false).port } .spoiled (some c) i
    simpa [State.setup] using hc

theorem settle_steps (s : State) : RecordsStep s (settle s) := by
  refine .ended ⟨⟨true, by simp [settle]⟩, by simp [settle], ?_, by simpa using SaveMoves.rfl' s.image, settle_inFlight s⟩
  intro i
  simpa [settle, State.setup] using chargeFrame_same (returnPins s true) .exposed none i

theorem leaveLocked_steps (s : State) (next : EngineState) : RecordsStep s (leaveLocked s next) := by
  let r := State.raise { s with engine := { s.engine with state := next, good := 0 } } .lockLost
  have hspoil : RecordsStep s (if r.frame.state = .exposing then spoil r .sync else r) :=
    .ite _ (fun _ => (spoil_steps r .sync).after) fun _ => .same
  exact hspoil.trans (endWindow_steps _).after

theorem facetsChanged_steps (s : State) : RecordsStep s (facetsChanged s) := by
  unfold facetsChanged
  split
  · exact leaveLocked_steps s _
  · exact .same
  · exact .refl s

theorem periodFiguresChanged_steps (s : State) : RecordsStep s (periodFiguresChanged s) := by
  unfold periodFiguresChanged
  split
  · exact leaveLocked_steps s _
  · exact .same
  · exact .refl s

theorem stallEngine_steps (s : State) : RecordsStep s (stallEngine s) := by
  unfold stallEngine
  split
  · exact .refl s
  · exact .same
  · exact (leaveLocked_steps _ _).after

theorem enterDark_steps (s : State) (c : Chan) : RecordsStep s (enterDark s c) := (darken_steps s c).trans (spoil_steps _ _)

theorem enterFault_steps (s : State) (c : Chan) (x : FaultCause) : RecordsStep s (enterFault s c x) :=
  .trans (.trans (setChan_steps s c _) (dropSample_steps _ c)) ((raise_steps _ _).trans (spoil_steps _ _))

/-! ## Readiness -/

theorem inFlight_of_exposing {s : State} (h : s.frame.state = .exposing) : s.inFlight = true := by simp [State.inFlight, h, FrameState.inFlight]

/-- A frame in flight goes on to EXPOSING (R88). -/
theorem enterExposing_steps {s : State} (h : s.inFlight = true) : RecordsStep s (enterExposing s) := by
  have hstate : RecordsStep s { s with frame := { s.frame with state := .exposing, margin := .underWay, stride := 0, lineWait := 0 } } :=
    .of_flight h.symm fun _ => ⟨rfl, rfl, rfl⟩
  exact hstate.trans (beginGroup_steps _ _ _)

theorem testReady_steps (s : State) : RecordsStep s (testReady s) := by
  unfold testReady
  split
  · next h => exact enterExposing_steps (by simp [State.inFlight, h.1, FrameState.inFlight])
  · exact .refl s

theorem enterReady_steps (s : State) (c : Chan) : RecordsStep s (enterReady s c) :=
  (testReady_steps _).after

theorem gainLock_steps (s : State) : RecordsStep s (gainLock s) := (testReady_steps _).after

/-! ## The timers -/

theorem biasIfReady_steps (s : State) (c : Chan) : RecordsStep s (biasIfReady s c) :=
  .ite _ (fun _ => enterBiased_steps s c) fun _ => .refl s

theorem autoBias_steps (s : State) : RecordsStep s (autoBias s) :=
  (((biasIfReady_steps _ .red).trans (biasIfReady_steps _ .grn)).trans (biasIfReady_steps _ .blu)).after

theorem startTimeoutPassed_steps (s : State) : RecordsStep s (startTimeoutPassed s) :=
  .ite _ (fun _ => spoil_steps s _) fun _ => .refl s

theorem lineWaitPassed_steps (s : State) : RecordsStep s (lineWaitPassed s) :=
  .ite _ (fun _ => spoil_steps s _) fun _ => .refl s

theorem warmTimeoutPassed_steps (s : State) (c : Chan) : RecordsStep s (warmTimeoutPassed s c) :=
  .ite _ (fun _ => enterFault_steps s c _) fun _ => .refl s

theorem pullTimeoutPassed_steps (s : State) : RecordsStep s (pullTimeoutPassed s) := by
  unfold pullTimeoutPassed
  split
  · exact (endAdvance_steps s _).trans (raise_steps _ _)
  · exact .refl s

theorem idleTick_steps (s : State) : RecordsStep s (idleTick s) := by
  refine .ite _ (fun _ => ?_) fun _ => .refl s
  exact .ite _ (fun _ => (autoBias_steps _).after) fun _ => .same

/-- A timer of the frame record advances. -/
theorem frameTimer_steps (s : State) (start wait : Nat) :
    RecordsStep s { s with frame := { s.frame with startTimer := start, lineWait := wait } } :=
  .of_flight rfl (fun _ => ⟨rfl, rfl, rfl⟩) rfl rfl rfl rfl

theorem startTick_steps (s : State) : RecordsStep s (startTick s) :=
  .ite _ (fun _ => .ite _ (fun _ => startTimeoutPassed_steps s) fun _ => frameTimer_steps s _ _) fun _ => .refl s

theorem lineWaitTick_steps (s : State) : RecordsStep s (lineWaitTick s) :=
  .ite _ (fun _ => .ite _ (fun _ => lineWaitPassed_steps s) fun _ => frameTimer_steps s _ _) fun _ => .refl s

theorem facetTick_steps (s : State) : RecordsStep s (facetTick s) := by
  unfold facetTick
  split
  · exact .refl s
  · exact .ite _ (fun _ => stallEngine_steps s) fun _ => .same

theorem warmTick_steps (s : State) (c : Chan) : RecordsStep s (warmTick s c) :=
  .ite _ (fun _ => .ite _ (fun _ => warmTimeoutPassed_steps s c) fun _ => setChan_steps s c _) fun _ => .refl s

theorem pullTick_steps (s : State) : RecordsStep s (pullTick s) := by
  unfold pullTick
  split
  · exact .ite _ (fun _ => pullTimeoutPassed_steps s) fun _ => .same
  · exact .refl s

/-- A save that fails has ended (R180). -/
theorem failSave_steps (s : State) : RecordsStep s (failSave s) := by
  unfold failSave
  split
  · exact .refl s
  · next v hv =>
    rw [failFlash_eq]
    exact .of_image ⟨rfl, nofun, .inr ⟨by rw [hv]; rfl, rfl⟩⟩ rfl rfl rfl rfl

theorem imageTick_steps (s : State) : RecordsStep s (imageTick s) := by
  refine .ite _ (fun _ => .ite _ (fun _ => failSave_steps s) fun _ => ?_) fun _ => .refl s
  exact .of_image ⟨rfl, id, .inl rfl⟩ rfl rfl rfl rfl

theorem tick_steps (s : State) : RecordsStep s (tick s) := by
  have hframe := (((idleTick_steps s).trans (startTick_steps _)).trans (lineWaitTick_steps _)).trans (facetTick_steps _)
  have hwarm := ((hframe.trans (warmTick_steps _ .red)).trans (warmTick_steps _ .grn)).trans (warmTick_steps _ .blu)
  exact (hwarm.trans (pullTick_steps _)).trans (imageTick_steps _)

theorem tickIfDue_steps (s : State) : RecordsStep s (tickIfDue s) :=
  .ite _ (fun _ => (tick_steps _).after) fun _ => .refl s

/-! ## Lines, windows and REFCLK periods -/

theorem endLine_steps (s : State) (x : LineContext) : RecordsStep s (endLine s x) := by
  refine .of_flight rfl (fun _ => ⟨rfl, rfl, ?_⟩) rfl rfl rfl rfl
  simp only [endLine, Option.map_map]
  rfl

theorem completeLine_steps (s : State) (x : LineContext) : RecordsStep s (completeLine s x) := by
  have hline : RecordsStep s (if frameComplete (endLine s x) then settle (endLine s x) else endLine s x) :=
    (endLine_steps s x).trans (.ite _ (fun _ => settle_steps _) fun _ => .refl _)
  exact hline.trans (.ite _ (fun _ => .refl _) fun _ => windowPassed_steps _)

theorem completeIfDue_steps (s : State) : RecordsStep s (completeIfDue s) := by
  unfold completeIfDue
  split
  · exact .ite _ (fun _ => completeLine_steps s _) fun _ => .refl s
  · exact .refl s

theorem openWindow_steps (s : State) (k : Nat) (line : Bool) : RecordsStep s (openWindow s k line) :=
  .ite _ (fun _ => endWindow_steps s) fun _ => .same

theorem openScheduled_steps (s : State) : RecordsStep s (openScheduled s) := by
  unfold openScheduled
  split
  · exact openWindow_steps s _ _
  · exact .refl s

theorem openIfDue_steps (s : State) : RecordsStep s (openIfDue s) := .ite _ (fun _ => openScheduled_steps s) fun _ => .refl s

theorem periodEvents_steps (s : State) : RecordsStep s (periodEvents s) :=
  ((completeIfDue_steps s).trans (openIfDue_steps _)).trans (tickIfDue_steps _)

theorem countPeriods_steps (s : State) (n : Nat) : RecordsStep s (countPeriods s n) := .same

/-- REFCLK periods pass: each thing that falls on them keeps the records or ends a flight. -/
theorem elapse_steps (fuel : Nat) : ∀ (n : Nat) (s : State), RecordsStep s (elapse fuel n s) := by
  induction fuel with
  | zero => exact fun n s => countPeriods_steps s n
  | succ fuel ih =>
    intro n s
    refine .ite _ (fun _ => countPeriods_steps s n) fun _ => ?_
    exact ((countPeriods_steps s _).trans (periodEvents_steps _)).trans (ih _ _)

theorem pass_steps (n : Nat) (s : State) : RecordsStep s (pass n s) := elapse_steps n n s

/-! ## FACET, INDEX and readings -/

theorem exposeLine_steps (s : State) (k : Nat) : RecordsStep s (exposeLine s k) := by
  unfold exposeLine
  split
  · exact .same
  · exact .refl s

theorem offerFacet_steps (s : State) (k : Nat) : RecordsStep s (offerFacet s k) := by
  have hcount : RecordsStep s { s with frame := { s.frame with stride := s.frame.strideNext } } :=
    .of_flight rfl (fun _ => ⟨rfl, rfl, rfl⟩) rfl rfl rfl rfl
  unfold offerFacet
  cases facetUse s with
  | uncounted => exact .refl s
  | passes => exact hcount
  | starved =>
    refine .of_flight rfl (fun _ => ⟨rfl, rfl, ?_⟩) rfl rfl rfl rfl
    simp only [Option.map_map]
    rfl
  | carries => exact hcount.trans (exposeLine_steps _ _)

theorem scheduleSample_steps (s : State) (phase k : Nat) (carries : Bool) : RecordsStep s (scheduleSample s phase k carries) :=
  .ite _ (fun _ => .same) fun _ => .refl s

theorem lockedFacet_steps (s : State) (phase p : Nat) : RecordsStep s (lockedFacet s phase p) := by
  refine .ite _ (fun _ => (leaveLocked_steps _ _).after) fun _ => ?_
  exact (offerFacet_steps _ _).after.trans (scheduleSample_steps _ _ _ _)

theorem takeFacet_steps (s : State) : RecordsStep s (takeFacet s) := by
  refine (endWindow_steps s).trans (.trans (s := { endWindow s with engine := (endWindow s).engine.nextPhase })
    (.same) ?_)
  unfold takeFacet
  simp only
  split
  · exact .same
  · exact .same
  · exact (lockedFacet_steps _ _ _).after

theorem handleSample_steps (s : State) (c : Chan) (m : Nat) : RecordsStep s (handleSample s c m) := by
  simp only [handleSample]
  split
  · exact (setChan_steps s c _).trans (.ite _ (fun _ => enterReady_steps _ c) fun _ => .refl _)
  · exact (setChan_steps s c _).trans (.ite _ (fun _ => enterFault_steps _ c _) fun _ => .refl _)
  · exact .refl s

theorem handleReading_steps (s : State) (c : Chan) (m : Nat) : RecordsStep s (handleReading s c m) :=
  .ite _ (fun _ => (setChan_steps s c _).trans (enterFault_steps _ c _)) fun _ => handleSample_steps s c m

theorem closeRead_steps (s : State) : RecordsStep s (closeRead s) := by
  unfold closeRead
  split
  · exact endWindow_steps s
  · exact .refl s

/-! ## The port and the frame cycle without a frame in flight -/

/-- The frame record may change at will while no frame is in flight and none comes into it. -/
theorem frame_steps {s : State} {f : FrameCycle} (h : s.inFlight = false) (hf : f.state.inFlight = false) :
    RecordsStep s { s with frame := f } :=
  .of_flight (hf.trans h.symm) (fun k => by rw [h] at k; cases k) rfl rfl rfl rfl

theorem refuseFormat_steps {s : State} (h : s.inFlight = false) : RecordsStep s (refuseFormat s) := frame_steps h rfl

theorem tellEnd_inFlight (f : FrameCycle) : (tellEnd f).state.inFlight = f.state.inFlight := by
  unfold tellEnd
  split <;> simp_all [FrameState.inFlight]

theorem tellEnd_same (f : FrameCycle) : SameFlight f (tellEnd f) := by
  unfold tellEnd
  split <;> exact ⟨rfl, rfl, rfl⟩

/-- A FRAME_END told to the frame cycle ends no flight (R93). -/
theorem portEnd_steps (s : State) (p : Port) : RecordsStep s { s with port := p, frame := tellEnd s.frame } :=
  .of_flight (tellEnd_inFlight _) (fun _ => tellEnd_same _) rfl rfl rfl rfl

theorem tellEnd_steps (s : State) : RecordsStep s { s with frame := tellEnd s.frame } := portEnd_steps s s.port

theorem endTold_steps (s : State) (isEnd : Bool) : RecordsStep s (endTold s isEnd) := .ite _ (fun _ => tellEnd_steps s) fun _ => .refl s

theorem takeFailure_steps {s : State} (h : s.inFlight = false) (withEnd : Bool) : RecordsStep s (takeFailure s withEnd) :=
  (refuseFormat_steps h).trans (.ite _ (fun _ => tellEnd_steps _) fun _ => .refl _)

theorem free?_iff (s : State) : s.free? = true ↔ s.inFlight = false ∧ s.groupBusy = false := by simp [State.free?]

/-- The held failures of headers are no part of a flight (R107). -/
theorem failures_steps (s : State) (l : List Bool) : RecordsStep s { s with frame := { s.frame with failures := l } } :=
  .of_flight rfl (fun _ => ⟨rfl, rfl, rfl⟩) rfl rfl rfl rfl

theorem headerFailed_steps (s : State) (isEnd : Bool) : RecordsStep s (headerFailed s isEnd) := by
  refine .ite _ (fun h => takeFailure_steps ?_ isEnd) fun _ => failures_steps s _
  exact ((free?_iff s).1 (Bool.and_eq_true_iff.1 h).1).1

theorem deliver_steps (s : State) : RecordsStep s (deliver s) := by
  rcases deliver_cases s with h | ⟨-, -, hd, h⟩
  · rw [h]; exact .refl s
  · rw [h]; exact frame_steps (by simp [State.inFlight, hd, FrameState.inFlight]) rfl

/-- The port is no part of the records. -/
theorem port_steps (s : State) (p : Port) : RecordsStep s { s with port := p } := .same

theorem portError_steps (s : State) : RecordsStep s (portError s) := .same

theorem framingError_steps (s : State) (next : PortState) (isEnd : Bool) : RecordsStep s (framingError s next isEnd) := by
  refine (portError_steps s).trans ?_
  unfold framingError
  simp only
  split
  · exact (port_steps _ _).trans (headerFailed_steps _ _)
  · refine .trans (.ite _ (fun _ => .refl _) fun _ => spoil_steps _ _) ((port_steps _ _).trans (endTold_steps _ _))

theorem strayWord_steps (s : State) : RecordsStep s (strayWord s) :=
  (port_steps s _).trans (.ite _ (fun _ => raise_steps _ _) fun _ => .refl _)

theorem lineReceived_steps (s : State) : RecordsStep s (lineReceived s) := by
  unfold lineReceived
  simp only
  split
  · exact .ite _ (fun _ => (port_steps s _).trans (frameTimer_steps _ _ 0)) fun _ => port_steps s _
  · exact port_steps s _

theorem takeWord_steps (s : State) (start : WordStart) {handle : State → State} (h : ∀ s, RecordsStep s (handle s)) :
    RecordsStep s (takeWord s start handle) :=
  .ite _ (fun _ => .refl s) fun _ => .ite _ (fun _ => framingError_steps s _ _) fun _ => h s

theorem wordFrameStart_steps (s : State) : RecordsStep s (wordFrameStart s) := by
  unfold wordFrameStart
  split
  · exact (port_steps s _).trans (port_steps _ _)
  · exact port_steps s _
  · exact framingError_steps s _ _

theorem wordLineStart_steps (n : Word32) (s : State) : RecordsStep s (wordLineStart n s) := by
  unfold wordLineStart
  simp only
  split
  · exact strayWord_steps s
  · exact .refl s
  · exact .ite _ (fun _ => port_steps s _) fun _ => framingError_steps s _ _
  · exact framingError_steps s _ _

theorem wordFrameEnd_steps (s : State) : RecordsStep s (wordFrameEnd s) := by
  unfold wordFrameEnd
  simp only
  split
  · exact strayWord_steps s
  · exact portEnd_steps s _
  · exact .ite _ (fun _ => portEnd_steps s _) fun _ => framingError_steps s _ _
  · exact framingError_steps s _ _

theorem wordUndefined_steps (s : State) : RecordsStep s (wordUndefined s) := by
  unfold wordUndefined
  split
  · exact strayWord_steps s
  · exact .refl s
  · exact framingError_steps s _ _

theorem wordData_steps (w : Word32) (s : State) : RecordsStep s (wordData w s) := by
  unfold wordData
  split
  · exact strayWord_steps s
  · exact .refl s
  · exact (port_steps s _).trans (deliver_steps _)
  · exact framingError_steps s _ _
  · exact (port_steps s _).trans (.ite _ (fun _ => lineReceived_steps _) fun _ => .refl _)

/-- A frame refused for a setup is charged to it, and the records are kept (R82). -/
theorem refuseIn_steps {s : State} (h : s.inFlight = false) (i : Fin 8) (tag : Word32) (c : Cause) :
    RecordsStep s (refuseIn s i tag c) :=
  .kept ⟨rfl, rfl, setSetup_same (charge_armed _ _) (charge_config _ _), .rfl' _, h.symm, fun k => by rw [h] at k; cases k⟩

/-! ## The rows of Chapter 9 and the save -/

theorem advanceSeated_steps (s : State) : RecordsStep s (advanceSeated s) := by
  unfold advanceSeated
  split
  · exact .ite _ (fun _ => endAdvance_steps s _) fun _ => advancePull_steps s
  · exact .refl s

theorem darkenIfLit_steps (s : State) (c : Chan) : RecordsStep s (darkenIfLit s c) :=
  .ite _ (fun _ => darken_steps s c) fun _ => .refl s

theorem startAdvance_steps (s : State) (n : Nat) : RecordsStep s (startAdvance s n) :=
  .ite _ (fun _ => .same) fun _ => (advancePull_steps _).after

/-- The operations of a save in flight are issued (R180). -/
theorem issueOps_steps {s : State} (h : s.image.save.isSome = true) (v : Save) (ops : List FlashOp) :
    RecordsStep s (issueOps s v ops) := by
  cases ops with
  | nil => exact .refl s
  | cons op later => exact .of_image ⟨rfl, fun _ => h, .inl rfl⟩ rfl rfl rfl rfl

theorem issueRecord_steps {s : State} (h : s.image.save.isSome = true) (v : Save) (a : Nat) (bytes : List Byte) :
    RecordsStep s (issueRecord s v a bytes) := issueOps_steps h v _

theorem formOptics_steps {s : State} (h : s.image.save.isSome = true) (v : Save) : RecordsStep s (formOptics s v) :=
  issueRecord_steps h _ _ _

theorem formProfile_steps {s : State} (h : s.image.save.isSome = true) (v : Save) : RecordsStep s (formProfile s v) := by
  unfold formProfile
  split
  · exact formOptics_steps h v
  · exact issueRecord_steps h _ _ _

theorem recordWritten_steps (s : State) : RecordsStep s (recordWritten s) := .of_image ⟨rfl, id, .inl rfl⟩ rfl rfl rfl rfl

theorem saveNext_steps {s : State} (h : s.image.save.isSome = true) (v : Save) : RecordsStep s (saveNext s v) := by
  have hwritten := recordWritten_steps s
  unfold saveNext
  split
  · exact formProfile_steps h v
  · exact hwritten.trans (formProfile_steps (s := recordWritten s) h v)
  · exact hwritten.trans (issueRecord_steps (s := recordWritten s) h _ _ _)
  · exact hwritten.trans (issueRecord_steps (s := recordWritten s) h _ _ _)
  · exact .of_image ⟨rfl, nofun, .inr ⟨h, rfl⟩⟩ rfl rfl rfl rfl

end Sys2Proof.Machine
end

section
/-! The profile table, the pins and the load set over the steps of RecordsStep (R1, R16 to R18, R22). -/

namespace Sys2Proof.Machine

-- one theorem after another, as in the tests: a checker's memory limit leaves no room for many threads at once
set_option Elab.async false

open Sys2Proof

/-! ## A record whose pin is returned -/

/-- A profile that frames can use: ACTIVE or STALE. -/
def Profile.usable (p : Profile) : Prop := p.state = .active ∨ p.state = .stale

theorem Profile.usable.not_retiring {p : Profile} (h : p.usable) : p.state ≠ .retiring := by
  rcases h with h | h <;> simp [h]

/-- A record whose pin is returned, at an EXPOSED settlement or without one (R18, R23). -/
def Profile.unpin (p : Profile) (exposed : Bool) : Profile := { (if exposed then p.age else p) with pinned := none }

@[simp] theorem Profile.age_id (p : Profile) : p.age.id = p.id := by unfold Profile.age; split <;> rfl
@[simp] theorem Profile.age_bound (p : Profile) : p.age.bound = p.bound := by unfold Profile.age; split <;> rfl

/-- An EXPOSED settlement changes the state of an ACTIVE profile alone, to STALE (R24). -/
theorem Profile.age_state (p : Profile) : p.age.state = p.state ∨ p.state = .active ∧ p.age.state = .stale := by
  unfold Profile.age
  split
  · dsimp only
    split
    · next h => exact .inr ⟨h.1, rfl⟩
    · exact .inl rfl
  · exact .inl rfl

@[simp] theorem Profile.unpin_id (p : Profile) (x : Bool) : (p.unpin x).id = p.id := by cases x <;> simp [Profile.unpin]
@[simp] theorem Profile.unpin_bound (p : Profile) (x : Bool) : (p.unpin x).bound = p.bound := by cases x <;> simp [Profile.unpin]
@[simp] theorem Profile.unpin_pinned (p : Profile) (x : Bool) : (p.unpin x).pinned = none := rfl

theorem Profile.unpin_state (p : Profile) (x : Bool) : (p.unpin x).state = p.state ∨ p.state = .active ∧ (p.unpin x).state = .stale := by
  cases x
  · exact .inl rfl
  · exact p.age_state

theorem Profile.unpin_usable {p : Profile} (h : p.usable) (x : Bool) : (p.unpin x).usable := by
  rcases p.unpin_state x with e | e
  · unfold Profile.usable; rwa [e]
  · exact .inr e.2

theorem Profile.unpin_retiring (p : Profile) (x : Bool) : (p.unpin x).state = .retiring ↔ p.state = .retiring := by
  rcases p.unpin_state x with e | e
  · rw [e]
  · simp [e]

/-- The returned pin's table: the record of the ID without its pin, and gone where it was RETIRING. -/
theorem returnProfilePin_eq (t : List Profile) (id : Nat) (x : Bool) :
    returnProfilePin t id x = (modProfile t id fun p => p.unpin x).filter fun p => !(p.id == id && p.state == .retiring) := rfl

/-- Each record of the returned table comes from one with its ID and bound count, and has no pin where the ID is the returned one. -/
theorem mem_returnProfilePin {t : List Profile} {id : Nat} {x : Bool} {q : Profile} (h : q ∈ returnProfilePin t id x) :
    ∃ p ∈ t, q.id = p.id ∧ q.bound = p.bound ∧ (q.pinned = none ∨ q = p ∧ p.id ≠ id) := by
  rw [returnProfilePin_eq] at h
  rcases mem_modProfile (List.mem_filter.1 h).1 with ⟨hq, hid⟩ | ⟨p, hp, -, rfl⟩
  · exact ⟨q, hq, rfl, rfl, .inr ⟨rfl, hid⟩⟩
  · exact ⟨p, hp, by simp, by simp, .inl rfl⟩

/-- A record that is not RETIRING stays in the returned table. -/
theorem kept_returnProfilePin {t : List Profile} {p : Profile} (hp : p ∈ t) (id : Nat) (x : Bool) (hs : p.usable) :
    ∃ q ∈ returnProfilePin t id x, q.id = p.id ∧ q.usable := by
  by_cases hid : p.id = id
  · refine ⟨p.unpin x, List.mem_filter.2 ⟨List.mem_map.2 ⟨p, hp, if_pos hid⟩, ?_⟩, by simp, p.unpin_usable hs x⟩
    simp [p.unpin_retiring, hs.not_retiring]
  · exact ⟨p, List.mem_filter.2 ⟨List.mem_map.2 ⟨p, hp, if_neg hid⟩, by simp [hid]⟩, rfl, hs⟩

theorem returnProfilePin_ids (t : List Profile) (id : Nat) (x : Bool) :
    ((returnProfilePin t id x).map Profile.id).Sublist (t.map Profile.id) := by
  rw [← modProfile_map_id t id (fun p => p.unpin x) (by simp)]
  exact List.Sublist.map _ List.filter_sublist

theorem lookup_returnProfilePin_ne {t : List Profile} {id j : Nat} (h : j ≠ id) (x : Bool) :
    lookup (returnProfilePin t id x) j = lookup t j := by
  rw [returnProfilePin_eq, lookup_filter_id _ j _ (fun p _ hp => by simp [hp, h]), lookup_modProfile _ _ _ (by simp), if_neg h]

theorem lookup_returnProfilePin_some {t : List Profile} {id : Nat} {p : Profile} (ht : idsAscend t) (h : lookup t id = some p)
    (hs : p.state ≠ .retiring) (x : Bool) : lookup (returnProfilePin t id x) id = some (p.unpin x) := by
  have hmod : lookup (modProfile t id fun p => p.unpin x) id = some (p.unpin x) := by
    rw [lookup_modProfile _ _ _ (by simp), if_pos rfl, h]; rfl
  rw [returnProfilePin_eq, lookup_filter_id _ id _ ?_, hmod]
  intro q hq hid
  have hmem := lookup_some hmod
  rw [eq_of_id (idsAscend_modProfile ht id (by simp)) hq hmem.1 (hid.trans hmem.2.symm)]
  simp [p.unpin_retiring, hs]

theorem lookup_returnProfilePin_retiring {t : List Profile} {id : Nat} {p : Profile} (ht : idsAscend t) (h : lookup t id = some p)
    (hs : p.state = .retiring) (x : Bool) : lookup (returnProfilePin t id x) id = none := by
  refine lookup_none.2 fun q hq hid => ?_
  rw [returnProfilePin_eq] at hq
  obtain ⟨hmem, hkeep⟩ := List.mem_filter.1 hq
  rcases mem_modProfile hmem with ⟨-, hne⟩ | ⟨r, hr, hrid, rfl⟩
  · exact hne hid
  · have hrp : r = p := eq_of_id ht hr (lookup_some h).1 (hrid.trans (lookup_some h).2.symm)
    have hret : (r.unpin x).state = .retiring := (r.unpin_retiring x).2 (hrp ▸ hs)
    simp [hrid, hret] at hkeep

/-! ## The profile table kept sound -/

/-- An ARMED setup makes the bound count of the profile that it names positive (R22). -/
theorem TableSound.bound_pos {s : State} (h : TableSound s) {i : Fin 8} (hi : (s.setup i).armed = true) {p : Profile}
    (hp : p ∈ s.profiles) (hid : p.id = (s.setup i).config.profileId) : 0 < p.bound := by
  rw [h.bound p hp]
  refine Nat.pos_of_ne_zero fun hz => ?_
  have := armedNaming_eq_zero.1 hz i
  have hn : (s.setup i).names p.id = true := (names_iff _ _).2 ⟨hi, hid.symm⟩
  rw [State.setup, this] at hn
  cases hn

theorem TableSound.lookup_mem {s : State} (h : TableSound s) {p : Profile} (hp : p ∈ s.profiles) : s.profile p.id = some p :=
  Machine.lookup_mem h.ascend hp

/-- A table stays sound where the IDs are some of the old ones, each record has the bound count it had, and a usable profile that
setups are bound to stays usable. -/
theorem TableSound.change {s t : State} (h : TableSound s) (ids : (t.profiles.map Profile.id).Sublist (s.profiles.map Profile.id))
    (setups : SameSetups s t) (back : ∀ q ∈ t.profiles, ∃ p ∈ s.profiles, q.id = p.id ∧ q.bound = p.bound)
    (usable : ∀ p ∈ s.profiles, 0 < p.bound → p.usable → ∃ q ∈ t.profiles, q.id = p.id ∧ q.usable) : TableSound t where
  ascend := by
    rw [idsAscend_iff]
    exact ((idsAscend_iff _).1 h.ascend).sublist ids
  ids := by
    intro q hq
    obtain ⟨p, hp, hid, -⟩ := back q hq
    rw [hid]
    exact h.ids p hp
  capacity := by
    have hlen := ids.length_le
    simp only [List.length_map] at hlen
    exact hlen.trans h.capacity
  bound := by
    intro q hq
    obtain ⟨p, hp, hid, hb⟩ := back q hq
    rw [hb, hid, h.bound p hp, armedNaming_congr setups]
  armed := by
    intro i hi
    rw [(setups i).1] at hi
    rw [(setups i).2]
    obtain ⟨p, hp, hid, hu⟩ := h.armed i hi
    obtain ⟨q, hq, hqid, hqu⟩ := usable p hp (h.bound_pos hi hp hid) hu
    exact ⟨q, hq, hqid.trans hid, hqu⟩

theorem TableSound.congr {s t : State} (h : TableSound s) (profiles : t.profiles = s.profiles) (setups : SameSetups s t) : TableSound t :=
  h.change (by rw [profiles]) setups (fun q hq => ⟨q, profiles ▸ hq, rfl, rfl⟩) fun p hp _ hu => ⟨p, profiles ▸ hp, rfl, hu⟩

/-! ## The image record kept sound -/

/-- A load in flight holds no save, and a save no load (R176). -/
theorem ImageSound.load_none_of_save {s : State} (h : ImageSound s) (hs : s.image.save.isSome = true) : s.image.load = none := by
  cases hl : s.image.load with
  | none => rfl
  | some l => exact absurd ((h.load l hl).1.symm.trans (h.save hs)) (by decide)

theorem ImageSound.load_none_of_idle {s : State} (h : ImageSound s) (hs : s.image.state = .idle) : s.image.load = none := by
  cases hl : s.image.load with
  | none => rfl
  | some l => exact absurd ((h.load l hl).1.symm.trans hs) (by decide)

theorem ImageSound.save_none {s : State} (h : ImageSound s) (hs : s.image.state ≠ .saving) : s.image.save = none := by
  cases hv : s.image.save with
  | none => rfl
  | some v => exact absurd (h.save (by rw [hv]; rfl)) hs

/-- The image record stays sound where a save moves on, and a load that is held finds no frame in flight and the table empty as before. -/
theorem ImageSound.moves {s t : State} (h : ImageSound s) (image : SaveMoves s.image t.image)
    (rest : ∀ l, s.image.load = some l → t.inFlight = false ∧ t.profiles = []) : ImageSound t where
  save := by
    intro hs
    rcases image.state with e | e
    · rw [e]; exact h.save (image.save hs)
    · rw [e.2] at hs; cases hs
  load := by
    intro l hl
    rw [image.load] at hl
    obtain ⟨hst, -, -, hload⟩ := h.load l hl
    obtain ⟨hf, hp⟩ := rest l hl
    refine ⟨?_, hf, hp, hload⟩
    rcases image.state with e | e
    · rw [e, hst]
    · rw [h.load_none_of_save e.1] at hl; cases hl

/-! ## The records over a RecordsStep -/

theorem RecordsSound.kept {s t : State} (h : RecordsSound s) (k : RecordsKept s t) : RecordsSound t where
  table := h.table.congr k.profiles k.setups
  image := h.image.moves k.image fun l hl => by
    obtain ⟨-, hf, hp, -⟩ := h.image.load l hl
    exact ⟨k.inFlight.trans hf, k.profiles.trans hp⟩
  pins :=
    { idle := by
        rw [k.inFlight, k.optics, k.profiles]
        exact h.pins.idle
      flight := by
        rw [k.inFlight, k.profiles]
        intro hf
        obtain ⟨hslot, htag, l, hl, hpin⟩ := h.pins.flight hf
        obtain ⟨eslot, etag, elatched⟩ := k.flight hf
        rw [hl, Option.map_some, Option.map_eq_some_iff] at elatched
        obtain ⟨m, hm, efig⟩ := elatched
        have hid : m.profileId = l.profileId := congrArg Prod.fst efig
        exact ⟨by rw [eslot, hslot], by rw [etag, htag], m, hm, by rwa [hid]⟩ }

/-- A returned pin leaves no record pinned (R16, R18). -/
theorem PinsSound.returned {s : State} (h : PinsSound s) {x : Bool} {q : Profile} (hq : q ∈ (returnPins s x).profiles) :
    q.pinned = none := by
  rw [returnPins_profiles] at hq
  cases hf : s.inFlight with
  | false =>
    have hnone := (h.idle hf).2
    cases hl : s.frame.latched with
    | none => rw [hl] at hq; exact hnone q hq
    | some l =>
      rw [hl] at hq
      obtain ⟨p, hp, -, -, hpin | ⟨rfl, -⟩⟩ := mem_returnProfilePin hq
      · exact hpin
      · exact hnone q hp
  | true =>
    obtain ⟨-, -, l, hl, hpinned⟩ := h.flight hf
    rw [hl] at hq
    obtain ⟨p, hp, -, -, hpin | ⟨rfl, hne⟩⟩ := mem_returnProfilePin hq
    · exact hpin
    · exact Decidable.byContradiction fun hc => hne (hpinned q hp hc)

theorem TableSound.returned {s t : State} (h : TableSound s) {x : Bool} (profiles : t.profiles = (returnPins s x).profiles)
    (setups : SameSetups s t) : TableSound t := by
  rw [returnPins_profiles] at profiles
  cases hl : s.frame.latched with
  | none => rw [hl] at profiles; exact h.congr profiles setups
  | some l =>
    rw [hl] at profiles
    refine h.change (profiles ▸ returnProfilePin_ids _ _ _) setups (fun q hq => ?_) fun p hp _ hu => ?_
    · rw [profiles] at hq
      obtain ⟨p, hp, hid, hb, -⟩ := mem_returnProfilePin hq
      exact ⟨p, hp, hid, hb⟩
    · rw [profiles]
      exact kept_returnProfilePin hp _ _ hu

theorem returnPins_nil {s : State} (h : s.profiles = []) (x : Bool) : (returnPins s x).profiles = [] := by
  rw [returnPins_profiles, h]
  split <;> rfl

theorem RecordsSound.ended {s t : State} (h : RecordsSound s) (k : FlightEnded s t) : RecordsSound t := by
  obtain ⟨x, profiles⟩ := k.profiles
  exact
    { table := h.table.returned profiles k.setups
      image := h.image.moves k.image fun l hl => ⟨k.inFlight, profiles.trans (returnPins_nil (h.image.load l hl).2.2.1 x)⟩
      pins :=
        { idle := fun _ => ⟨by rw [k.optics], fun p hp => h.pins.returned (profiles ▸ hp)⟩
          flight := fun hf => absurd (k.inFlight.symm.trans hf) (by decide) } }

/-- The records stay sound over each change that keeps them or ends a flight. -/
theorem RecordsSound.steps {s t : State} (h : RecordsSound s) (k : RecordsStep s t) : RecordsSound t := by
  induction k with
  | kept k => exact h.kept k
  | ended k => exact h.ended k
  | trans _ _ ih ih' => exact ih' (ih h)

/-- No such change brings a frame into flight, and while one stays in flight the profiles and the optics set are as they were. -/
theorem RecordsStep.flight {s t : State} (k : RecordsStep s t) : t.inFlight = true →
    s.inFlight = true ∧ t.profiles = s.profiles ∧ t.optics = s.optics ∧ SameFlight s.frame t.frame := by
  induction k with
  | kept k =>
    intro ht
    have hs := k.inFlight.symm.trans ht
    exact ⟨hs, k.profiles, k.optics, k.flight hs⟩
  | ended k => exact fun ht => absurd (k.inFlight.symm.trans ht) (by decide)
  | trans _ _ ih ih' =>
    intro ht
    obtain ⟨hm, hp, ho, hf⟩ := ih' ht
    obtain ⟨hs, hp', ho', hf'⟩ := ih hm
    exact ⟨hs, hp.trans hp', ho.trans ho', hf'.trans hf⟩

end Sys2Proof.Machine
end

section
/-! Every command that is not a request on the records, a header, a load or a reset is a RecordsStep. -/

namespace Sys2Proof.Machine

-- one theorem after another, as in the tests: a checker's memory limit leaves no room for many threads at once
set_option Elab.async false

open Sys2Proof

/-! ## What a command answers -/

/-- The state that a command goes on in, if it does, has a property. -/
def EndsIn (a : Answer) (P : State → Prop) : Prop := ∀ t, a = .next t → P t

theorem EndsIn.next {P : State → Prop} {t : State} (h : P t) : EndsIn (.next t) P := by
  intro u e
  cases e
  exact h

theorem EndsIn.ite {P : State → Prop} {a b : Answer} (c : Prop) [Decidable c] (ha : c → EndsIn a P) (hb : ¬c → EndsIn b P) :
    EndsIn (if c then a else b) P := by
  split
  · exact ha ‹_›
  · exact hb ‹_›

theorem EndsIn.imp {P Q : State → Prop} {a : Answer} (h : EndsIn a P) (hpq : ∀ t, P t → Q t) : EndsIn a Q := fun t e => hpq t (h t e)

/-- An answer given in a state that a change leads to. -/
theorem reply_steps {s u : State} (h : RecordsStep s u) (req : Instr) (st : Status) (body : List Byte) :
    EndsIn (reply req u st body) (RecordsStep s) := .next (h.trans .same)

/-- An answer and nothing else. -/
theorem answer_steps (s : State) (req : Instr) (st : Status) (body : List Byte) : EndsIn (reply req s st body) (RecordsStep s) :=
  reply_steps (.refl s) req st body

/-- An answer after changes in other blocks. -/
theorem other_steps {s u : State} (req : Instr) (st : Status) (body : List Byte) (frame : u.frame = s.frame := by rfl)
    (profiles : u.profiles = s.profiles := by rfl) (optics : u.optics = s.optics := by rfl) (setups : u.setups = s.setups := by rfl)
    (image : u.image = s.image := by rfl) : EndsIn (reply req u st body) (RecordsStep s) :=
  reply_steps (.of_eq frame profiles optics setups image) req st body

theorem withChan_steps {s : State} {own : Chan → Answer} (req : Instr) (chan : Byte) (h : ∀ c, EndsIn (own c) (RecordsStep s)) :
    EndsIn (withChan req s chan own) (RecordsStep s) := by
  unfold withChan
  split
  · exact answer_steps s req _ _
  · exact h _

/-! ## The control link -/

theorem readOut_steps (s : State) (read : ReadTransfer) : RecordsStep s (readOut s read) := .ite _ (fun _ => .same) fun _ => .same

theorem execRequestTransaction_steps (bytes : List Byte) (s : State) : EndsIn (execRequestTransaction bytes s) (RecordsStep s) := by
  cases bytes with
  | nil => exact .next (.ite _ (fun _ => .same) fun _ => .refl s)
  | cons code rest => exact .next (.ite _ (fun _ => .same) fun _ => .ite _ (fun _ => readOut_steps s _) fun _ => .same)

theorem execRequestAnswered_steps (s : State) : EndsIn (execRequestAnswered s) (RecordsStep s) := by
  refine .next ?_
  split
  · exact .same
  · exact .refl s

theorem execEventsClear_steps (mask : BitVec 16) (s : State) : EndsIn (execEventsClear mask s) (RecordsStep s) :=
  .ite _ (fun _ => answer_steps s _ _ _) fun _ => other_steps _ _ _

theorem execEventsEnable_steps (mask : BitVec 16) (s : State) : EndsIn (execEventsEnable mask s) (RecordsStep s) :=
  .ite _ (fun _ => answer_steps s _ _ _) fun _ => other_steps _ _ _

/-! ## Queries -/

theorem execProfileQuery_steps (id : BitVec 16) (s : State) : EndsIn (execProfileQuery id s) (RecordsStep s) := by
  refine .ite _ (fun _ => answer_steps s _ _ _) fun _ => ?_
  split <;> exact answer_steps s _ _ _

theorem execProfileReadCurve_steps (id : BitVec 16) (bank chan first count : Byte) (s : State) :
    EndsIn (execProfileReadCurve id bank chan first count s) (RecordsStep s) := by
  simp only [execProfileReadCurve]
  split
  · refine .ite _ (fun _ => answer_steps s _ _ _) fun _ => ?_
    split
    · exact answer_steps s _ _ _
    · split <;> exact answer_steps s _ _ _
  · exact answer_steps s _ _ _

theorem execProfileEvaluate_steps (id : BitVec 16) (bank chan : Byte) (code position : BitVec 16) (facet : Byte) (s : State) :
    EndsIn (execProfileEvaluate id bank chan code position facet s) (RecordsStep s) := by
  simp only [execProfileEvaluate]
  split
  · refine .ite _ (fun _ => answer_steps s _ _ _) fun _ => ?_
    split
    · exact answer_steps s _ _ _
    · split <;> exact answer_steps s _ _ _
  · exact answer_steps s _ _ _

theorem execOpticsRead_steps (bank part : Byte) (s : State) : EndsIn (execOpticsRead bank part s) (RecordsStep s) := by
  simp only [execOpticsRead]
  split
  · exact answer_steps s _ _ _
  · split
    · exact answer_steps s _ _ _
    · split <;> exact answer_steps s _ _ _
  · exact answer_steps s _ _ _

theorem execSetupQuery_steps (slot : Byte) (s : State) : EndsIn (execSetupQuery slot s) (RecordsStep s) := by
  simp only [execSetupQuery]
  split <;> exact answer_steps s _ _ _

theorem execChannelQuery_steps (chan : Byte) (s : State) : EndsIn (execChannelQuery chan s) (RecordsStep s) :=
  withChan_steps _ _ fun _ => answer_steps s _ _ _

/-! ## The frame cycle, the port and the engine -/

theorem execFrameCancel_steps (s : State) : EndsIn (execFrameCancel s) (RecordsStep s) :=
  .ite _ (fun _ => reply_steps (spoil_steps s _) _ _ _) fun _ => answer_steps s _ _ _

theorem execFrameConfigure_steps (v : BitVec 16) (s : State) : EndsIn (execFrameConfigure v s) (RecordsStep s) := by
  have hset : RecordsStep s { s with frame := { s.frame with startTimeout := v.toNat } } := .of_flight rfl fun _ => ⟨rfl, rfl, rfl⟩
  exact .ite _ (fun _ => answer_steps s _ _ _) fun _ => .ite _ (fun _ => answer_steps s _ _ _) fun _ => reply_steps hset _ _ _

theorem execPortConfigure_steps (lanes : Byte) (v : BitVec 16) (s : State) : EndsIn (execPortConfigure lanes v s) (RecordsStep s) :=
  .ite _ (fun _ => answer_steps s _ _ _) fun _ => .ite _ (fun _ => answer_steps s _ _ _) fun _ => other_steps _ _ _

theorem configured_steps (s : State) (cfg : EngineConfig) (changes : Prop) [Decidable changes] :
    RecordsStep s (tickIfDue (if changes then periodFiguresChanged { s with engine := { s.engine with config := cfg } }
      else { s with engine := { s.engine with config := cfg } })) :=
  .trans (.ite _ (fun _ => (periodFiguresChanged_steps _).after) fun _ => .same) (tickIfDue_steps _)

theorem execEngineConfigure_steps (fields : EngineFields) (s : State) : EndsIn (execEngineConfigure fields s) (RecordsStep s) := by
  unfold execEngineConfigure
  cases engineConfigOf fields with
  | none => exact answer_steps s _ _ _
  | some cfg =>
    refine .ite _ (fun _ => answer_steps s _ _ _) fun _ => ?_
    refine .ite _ (fun _ => answer_steps s _ _ _) fun _ => ?_
    exact reply_steps (configured_steps s cfg _) _ _ _

theorem execHeaderFailureTaken_steps (s : State) : EndsIn (execHeaderFailureTaken s) (RecordsStep s) := by
  refine .next ?_
  split
  · exact .refl s
  · next withEnd rest _ =>
    refine .ite _ (fun h => ?_) fun _ => .refl s
    have hfree : State.inFlight { s with frame := { s.frame with failures := rest } } = false := ((free?_iff s).1 h).1
    exact ((failures_steps s rest).trans (takeFailure_steps hfree withEnd)).trans (deliver_steps _)

theorem execIndex_steps (s : State) : EndsIn (execIndex s) (RecordsStep s) := by
  refine .next ?_
  dsimp only
  split
  · exact .refl s
  · exact .ite _ (fun _ => (gainLock_steps _).after) fun _ => .same
  · exact .ite _ (fun _ => .same) fun _ => (leaveLocked_steps _ _).after

theorem execLineComplete_steps (s : State) : EndsIn (execLineComplete s) (RecordsStep s) := by
  refine .next ?_
  split
  · exact .refl s
  · exact pass_steps _ s

theorem execMonitorWindowOpen_steps (s : State) : EndsIn (execMonitorWindowOpen s) (RecordsStep s) := by
  refine .next ?_
  split
  · exact pass_steps _ s
  · exact .refl s

theorem execMonitorReading_steps (c : Chan) (reading : BitVec 12) (s : State) : EndsIn (execMonitorReading c reading s) (RecordsStep s) := by
  refine .next ?_
  split
  · exact .ite _ (fun _ => (handleReading_steps _ c _).after.trans (closeRead_steps _)) fun _ => .refl s
  · exact .refl s

theorem execStepGroupEnd_steps (s : State) : EndsIn (execStepGroupEnd s) (RecordsStep s) := by
  refine .next ?_
  split
  · exact .refl s
  · exact (groupEnded_steps _ _).after

theorem execAutoBias_steps (s : State) : EndsIn (execAutoBias s) (RecordsStep s) :=
  .next (.ite _ (fun _ => autoBias_steps s) fun _ => .refl s)

/-! ## The channels -/

theorem execChannelOn_steps (chan : Byte) (s : State) : EndsIn (execChannelOn chan s) (RecordsStep s) := by
  refine withChan_steps _ _ fun c => ?_
  refine .ite _ (fun _ => answer_steps s _ _ _) fun _ => .ite _ (fun _ => answer_steps s _ _ _) fun _ => ?_
  split
  · exact other_steps _ _ _
  · exact other_steps _ _ _
  · exact answer_steps s _ _ _

theorem execChannelBias_steps (chan : Byte) (s : State) : EndsIn (execChannelBias chan s) (RecordsStep s) := by
  refine withChan_steps _ _ fun c => .ite _ (fun _ => answer_steps s _ _ _) fun _ => ?_
  split
  · exact reply_steps (enterBiased_steps s c) _ _ _
  · exact reply_steps (enterBiased_steps s c) _ _ _
  · exact answer_steps s _ _ _
  · exact answer_steps s _ _ _

theorem execChannelOff_steps (chan : Byte) (s : State) : EndsIn (execChannelOff chan s) (RecordsStep s) := by
  refine withChan_steps _ _ fun c => ?_
  split
  · exact answer_steps s _ _ _
  · exact answer_steps s _ _ _
  · exact reply_steps (enterDark_steps s c) _ _ _

theorem execChannelClear_steps (chan : Byte) (s : State) : EndsIn (execChannelClear chan s) (RecordsStep s) :=
  withChan_steps _ _ fun c => .ite _ (fun _ => reply_steps (enterDark_steps s c) _ _ _) fun _ => answer_steps s _ _ _

theorem execChannelConfigure_steps (chan : Byte) (fields : ChannelFields) (delay : BitVec 16) (s : State) :
    EndsIn (execChannelConfigure chan fields delay s) (RecordsStep s) := by
  refine withChan_steps _ _ fun c => ?_
  split
  · exact answer_steps s _ _ _
  · exact .ite _ (fun _ => answer_steps s _ _ _) fun _ => other_steps _ _ _

theorem execChannelSetReference_steps (chan : Byte) (value : BitVec 16) (s : State) :
    EndsIn (execChannelSetReference chan value s) (RecordsStep s) :=
  withChan_steps _ _ fun _ => .ite _ (fun _ => answer_steps s _ _ _) fun _ => .ite _ (fun _ => answer_steps s _ _ _) fun _ =>
    other_steps _ _ _

theorem execChannelCaptureReference_steps (chan : Byte) (s : State) : EndsIn (execChannelCaptureReference chan s) (RecordsStep s) :=
  withChan_steps _ _ fun _ => .ite _ (fun _ => answer_steps s _ _ _) fun _ => .ite _ (fun _ => answer_steps s _ _ _) fun _ =>
    other_steps _ _ _

/-! ## The transport and the input lines -/

theorem execRollLoad_steps (tag : Word32) (capacity lowMark : BitVec 16) (s : State) :
    EndsIn (execRollLoad tag capacity lowMark s) (RecordsStep s) :=
  .ite _ (fun _ => answer_steps s _ _ _) fun _ => .ite _ (fun _ => answer_steps s _ _ _) fun _ => other_steps _ _ _

theorem execRollUnload_steps (s : State) : EndsIn (execRollUnload s) (RecordsStep s) := by
  simp only [execRollUnload]
  split
  · exact answer_steps s _ _ _
  · exact .ite _ (fun _ => answer_steps s _ _ _) fun _ => other_steps _ _ _

theorem execRollAdvance_steps (frames : BitVec 16) (s : State) : EndsIn (execRollAdvance frames s) (RecordsStep s) := by
  refine .ite _ (fun _ => answer_steps s _ _ _) fun _ => ?_
  split
  · exact answer_steps s _ _ _
  · exact .ite _ (fun _ => answer_steps s _ _ _) fun _ => .ite _ (fun _ => answer_steps s _ _ _) fun _ =>
      .ite _ (fun _ => answer_steps s _ _ _) fun _ => reply_steps (startAdvance_steps s _) _ _ _

theorem execSeatedRise_steps (s : State) : EndsIn (execSeatedRise s) (RecordsStep s) := by
  refine .next (.ite _ (fun h => ?_) fun _ => (advanceSeated_steps _).after)
  have hready : RecordsStep s { s with
      transport := { s.transport with seated := true }, frame := { s.frame with state := .readying } } :=
    .of_flight (by
      have hs : s.frame.state = .seating := h
      simp [State.inFlight, hs, FrameState.inFlight]) fun _ => ⟨rfl, rfl, rfl⟩
  exact hready.trans (testReady_steps _)

theorem execSeatedFall_steps (s : State) : EndsIn (execSeatedFall s) (RecordsStep s) :=
  .next (.ite _ (fun _ => (spoil_steps _ _).after) fun _ => .same)

theorem execXportFaultAsserted_steps (s : State) : EndsIn (execXportFaultAsserted s) (RecordsStep s) :=
  .next (.trans (.ite _ (fun _ => (endAdvance_steps _ _).after) fun _ => .same) (spoil_steps _ _))

theorem execSafeOpen_steps (s : State) : EndsIn (execSafeOpen s) (RecordsStep s) := by
  let opened := State.raise { s with transport := { s.transport with safeOpen := true } } .interlockOpen
  have hspoil : RecordsStep s (spoil opened .interlock) := (spoil_steps opened .interlock).after
  have hdark := ((hspoil.trans (darkenIfLit_steps _ .red)).trans (darkenIfLit_steps _ .grn)).trans (darkenIfLit_steps _ .blu)
  exact .next (hdark.trans .same)

/-! ## The save -/

theorem execFlashOperationDone_steps (s : State) : EndsIn (execFlashOperationDone s) (RecordsStep s) := by
  refine .next ?_
  split
  · exact .refl s
  · next v hv =>
    have hsave : State.image { s with flash := s.flash.carryOut v.op } = s.image := rfl
    dsimp only
    split
    · exact (saveNext_steps (by rw [hsave, hv]; rfl) v).after
    · exact (issueOps_steps (by rw [hsave, hv]; rfl) v _).after

/-! ## All of them -/

/-- The commands that change records of the profile table, the setups, the optics set or the image memory by themselves: the resets, the
requests on them, the header that is taken and the record that a load reads. -/
def changesRecords : Instr → Bool
  | .powerOnReset _ | .softReset | .profileCreate .. | .profileStage .. | .profilePutCurve .. | .profilePutTerms .. | .profileCommit _
  | .profileDiscard _ | .profileRetire _ | .opticsStage _ | .opticsPutFacets _ | .opticsPutShading .. | .opticsCommit | .opticsDiscard
  | .setupWrite .. | .setupArm _ | .setupDisarm _ | .imageSave | .imageLoad | .headerTaken | .imageRecordRead => true
  | _ => false

/-- Every other command keeps the records or ends a flight. -/
theorem exec_steps {c : Instr} (h : changesRecords c = false) (s : State) : EndsIn (exec c s) (RecordsStep s) := by
  cases c with
  | powerOnReset | softReset | profileCreate | profileStage | profilePutCurve | profilePutTerms | profileCommit | profileDiscard
  | profileRetire | opticsStage | opticsPutFacets | opticsPutShading | opticsCommit | opticsDiscard | setupWrite | setupArm
  | setupDisarm | imageSave | imageLoad | headerTaken | imageRecordRead => cases h
  | requestTransaction bytes => exact execRequestTransaction_steps bytes s
  | readTransaction read => exact .next (readOut_steps s read)
  | requestAnswered => exact execRequestAnswered_steps s
  | identify => exact answer_steps s _ _ _
  | eventsRead => exact other_steps _ _ _
  | eventsClear mask => exact execEventsClear_steps mask s
  | eventsEnable mask => exact execEventsEnable_steps mask s
  | profileList => exact answer_steps s _ _ _
  | profileQuery id => exact execProfileQuery_steps id s
  | profileReadCurve id bank chan first count => exact execProfileReadCurve_steps id bank chan first count s
  | profileEvaluate id bank chan code position facet => exact execProfileEvaluate_steps id bank chan code position facet s
  | opticsRead bank part => exact execOpticsRead_steps bank part s
  | setupQuery slot => exact execSetupQuery_steps slot s
  | frameCancel => exact execFrameCancel_steps s
  | frameStatus => exact answer_steps s _ _ _
  | frameConfigure v => exact execFrameConfigure_steps v s
  | portConfigure lanes v => exact execPortConfigure_steps lanes v s
  | portStatus => exact answer_steps s _ _ _
  | engineConfigure fields => exact execEngineConfigure_steps fields s
  | engineQuery => exact answer_steps s _ _ _
  | channelOn chan => exact execChannelOn_steps chan s
  | channelBias chan => exact execChannelBias_steps chan s
  | channelOff chan => exact execChannelOff_steps chan s
  | channelClear chan => exact execChannelClear_steps chan s
  | channelConfigure chan fields delay => exact execChannelConfigure_steps chan fields delay s
  | channelSetReference chan value => exact execChannelSetReference_steps chan value s
  | channelCaptureReference chan => exact execChannelCaptureReference_steps chan s
  | channelQuery chan => exact execChannelQuery_steps chan s
  | rollLoad tag capacity lowMark => exact execRollLoad_steps tag capacity lowMark s
  | rollUnload => exact execRollUnload_steps s
  | rollAdvance frames => exact execRollAdvance_steps frames s
  | rollQuery => exact answer_steps s _ _ _
  | imageStatus => exact answer_steps s _ _ _
  | frameStart start => exact .next (takeWord_steps s start wordFrameStart_steps)
  | lineStart start number => exact .next (takeWord_steps s start (wordLineStart_steps number))
  | dataWord start payload => exact .next (takeWord_steps s start (wordData_steps payload))
  | frameEnd start => exact .next (takeWord_steps s start wordFrameEnd_steps)
  | undefinedTagWord start tagLow => exact .next (takeWord_steps s start wordUndefined_steps)
  | headerFailureTaken => exact execHeaderFailureTaken_steps s
  | seatedRise => exact execSeatedRise_steps s
  | seatedFall => exact execSeatedFall_steps s
  | xportFaultAsserted => exact execXportFaultAsserted_steps s
  | xportFaultDeasserted => exact .next .same
  | safeOpen => exact execSafeOpen_steps s
  | safeClose => exact .next .same
  | facet periods => exact .next ((pass_steps periods s).trans (takeFacet_steps _))
  | index => exact execIndex_steps s
  | lineComplete => exact execLineComplete_steps s
  | monitorWindowOpen => exact execMonitorWindowOpen_steps s
  | monitorReading chan reading => exact execMonitorReading_steps chan reading s
  | stepGroupEnd => exact execStepGroupEnd_steps s
  | millisecondTick => exact .next (pass_steps _ s)
  | startTimeout => exact .next (startTimeoutPassed_steps s)
  | lineWaitLimitPassed => exact .next (lineWaitPassed_steps s)
  | stall => exact .next (stallEngine_steps s)
  | warmTimeout chan => exact .next (warmTimeoutPassed_steps s chan)
  | autoBias => exact execAutoBias_steps s
  | advancePullTimeout => exact .next (pullTimeoutPassed_steps s)
  | flashOperationDone => exact execFlashOperationDone_steps s
  | imageOperationTimeout => exact .next (failSave_steps s)

end Sys2Proof.Machine
end

section
/-! The requests on the records, the header that is taken, the load and the resets: each keeps the records sound, and the calibration and
the corrections that a frame in flight has pinned (R1, R16 to R19, R22, R61, R62). -/

namespace Sys2Proof.Machine

-- one theorem after another, as in the tests: a checker's memory limit leaves no room for many threads at once
set_option Elab.async false

open Sys2Proof

/-! ## What a change must keep -/

/-- Where a frame stays in flight it is the same frame, with the same pinned corrections and calibration. -/
structure KeepsPins (s t : State) : Prop where
  flight : SameFlight s.frame t.frame
  optics : t.optics.pinnedSet = s.optics.pinnedSet
  profiles : ∀ id, (t.profile id).bind Profile.pinnedCal = (s.profile id).bind Profile.pinnedCal

/-- A change keeps the records sound and the pinned contents as they are. -/
structure KeepsRecords (s t : State) : Prop where
  sound : RecordsSound s → RecordsSound t
  pins : RecordsSound s → ProfilesSound s → OpticsSound s → s.inFlight = true → t.inFlight = true → KeepsPins s t

theorem RecordsStep.keeps {s t : State} (h : RecordsStep s t) : KeepsRecords s t where
  sound := fun hs => hs.steps h
  pins := fun _ _ _ _ ht => by
    obtain ⟨-, hp, ho, hf⟩ := h.flight ht
    exact ⟨hf, by rw [ho], fun id => by rw [State.profile, hp]; rfl⟩

/-- A change followed by one that keeps the records or ends a flight. -/
theorem KeepsRecords.then_steps {s u t : State} (h : KeepsRecords s u) (k : RecordsStep u t) : KeepsRecords s t where
  sound := fun hs => (h.sound hs).steps k
  pins := fun hr hp ho hs ht => by
    obtain ⟨hu, eprof, eopt, eflight⟩ := k.flight ht
    obtain ⟨flight, optics, profiles⟩ := h.pins hr hp ho hs hu
    refine ⟨flight.trans eflight, by rw [eopt, optics], fun id => ?_⟩
    rw [← profiles id, State.profile, eprof]
    rfl

/-- Without a frame in flight before or after, only soundness is asked. -/
theorem KeepsRecords.of_not_flight {s t : State} (hf : RecordsSound s → s.inFlight = false ∨ t.inFlight = false)
    (sound : RecordsSound s → RecordsSound t) : KeepsRecords s t where
  sound := sound
  pins := fun hr _ _ hs ht => by
    rcases hf hr with h | h
    · exact absurd (h.symm.trans hs) (by decide)
    · exact absurd (h.symm.trans ht) (by decide)

theorem reply_keeps {s u : State} (h : KeepsRecords s u) (req : Instr) (st : Status) (body : List Byte) :
    EndsIn (reply req u st body) (KeepsRecords s) := .next (h.then_steps .same)

/-- A request refused, or answered without a change. -/
theorem answer_keeps (s : State) (req : Instr) (st : Status) (body : List Byte) : EndsIn (reply req s st body) (KeepsRecords s) :=
  .next (RecordsStep.keeps .same)

/-! ## One profile record changed -/

/-- A profile record changed by a request: its ID, its bound count and its pin stand, it stays usable where setups are bound to it, and the
pinned calibration stands. -/
structure RecordEdit (p q : Profile) : Prop where
  bound : q.bound = p.bound
  pinned : q.pinned = p.pinned
  usable : 0 < p.bound → p.usable → q.usable
  cal : ProfileSound p → q.pinnedCal = p.pinnedCal

/-- A table stays sound where one record of it is changed and keeps its bound count. -/
theorem TableSound.edit {s t : State} (h : TableSound s) {id : Nat} {f : Profile → Profile} (hf : ∀ q, (f q).id = q.id)
    (profiles : t.profiles = modProfile s.profiles id f) (setups : SameSetups s t)
    (kept : ∀ p ∈ s.profiles, p.id = id → (f p).bound = p.bound ∧ (0 < p.bound → p.usable → (f p).usable)) : TableSound t := by
  refine h.change (by rw [profiles, modProfile_map_id _ _ _ hf]) setups (fun q hq => ?_) fun p hp hb hu => ?_
  · rw [profiles] at hq
    rcases mem_modProfile hq with ⟨hmem, -⟩ | ⟨p, hp, hid, rfl⟩
    · exact ⟨q, hmem, rfl, rfl⟩
    · exact ⟨p, hp, hf p, (kept p hp hid).1⟩
  · rw [profiles]
    by_cases hid : p.id = id
    · exact ⟨f p, List.mem_map.2 ⟨p, hp, if_pos hid⟩, hf p, (kept p hp hid).2 hb hu⟩
    · exact ⟨p, List.mem_map.2 ⟨p, hp, if_neg hid⟩, rfl, hu⟩

theorem TableSound.eq_of_profile {s : State} (h : TableSound s) {id : Nat} {p q : Profile} (hp : s.profile id = some p)
    (hq : q ∈ s.profiles) (hid : q.id = id) : q = p :=
  eq_of_id h.ascend hq (State.profile_some hp).1 (hid.trans (State.profile_some hp).2.symm)

/-- A change of one record by a request keeps the records and the pinned contents. -/
theorem edit_keeps {s : State} {id : Nat} {p : Profile} {f : Profile → Profile} (hp : s.profile id = some p)
    (hf : ∀ q, (f q).id = q.id) (edit : RecordEdit p (f p)) : KeepsRecords s (s.modProfile id f) where
  sound := fun h =>
    have only : ∀ q ∈ s.profiles, q.id = id → q = p := fun q hq hid => h.table.eq_of_profile hp hq hid
    { table := h.table.edit hf rfl (.rfl' _) fun q hq hid => by rw [only q hq hid]; exact ⟨edit.bound, edit.usable⟩
      image := h.image.moves (.rfl' _) fun l hl => by
        obtain ⟨-, hfl, hnil, -⟩ := h.image.load l hl
        exact ⟨hfl, by simp [hnil, Machine.modProfile]⟩
      pins := by
        have back : ∀ q ∈ (s.modProfile id f).profiles, ∃ r ∈ s.profiles, q.id = r.id ∧ q.pinned = r.pinned := by
          intro q hq
          rcases mem_modProfile hq with ⟨hmem, -⟩ | ⟨r, hr, hid, rfl⟩
          · exact ⟨q, hmem, rfl, rfl⟩
          · exact ⟨r, hr, hf r, by rw [only r hr hid]; exact edit.pinned⟩
        refine ⟨fun hi => ⟨(h.pins.idle hi).1, fun q hq => ?_⟩, fun hi => ?_⟩
        · obtain ⟨r, hr, -, hpin⟩ := back q hq
          rw [hpin, (h.pins.idle hi).2 r hr]
        · obtain ⟨hslot, htag, l, hl, hpinned⟩ := h.pins.flight hi
          refine ⟨hslot, htag, l, hl, fun q hq hne => ?_⟩
          obtain ⟨r, hr, hid, hpin⟩ := back q hq
          rw [hid]
          exact hpinned r hr (hpin ▸ hne) }
  pins := fun _ hps _ _ _ =>
    { flight := .rfl' _
      optics := rfl
      profiles := fun j => by
        rw [State.profile_modProfile s id j hf]
        split
        · next hj => subst hj; rw [hp]; exact edit.cal (hps.1 p (State.profile_some hp).1)
        · rfl }

/-- A staging bank is not the pinned one (R10, R17). -/
theorem ProfileSound.pinned_ne {p : Profile} (h : ProfileSound p) {g : Staging} (hg : p.staging = some g) : p.pinned ≠ some g.bank :=
  (h.staging g hg).2.2.1

@[simp] theorem openStaging_id (p : Profile) (c : Calibration) : (p.openStaging c).id = p.id := by simp [Profile.openStaging]

@[simp] theorem modStaged_id (p : Profile) (f : Calibration → Calibration) : (p.modStaged f).id = p.id := by
  unfold Profile.modStaged; split <;> simp

@[simp] theorem commit_id (p : Profile) : p.commit.id = p.id := by unfold Profile.commit; split <;> simp

@[simp] theorem discard_id (p : Profile) : p.discard.id = p.id := by unfold Profile.discard; split <;> simp
@[simp] theorem discard_bound (p : Profile) : p.discard.bound = p.bound := by unfold Profile.discard; split <;> simp
@[simp] theorem discard_pinned (p : Profile) : p.discard.pinned = p.pinned := by unfold Profile.discard; split <;> simp
@[simp] theorem discard_state (p : Profile) : p.discard.state = p.state := by unfold Profile.discard; split <;> simp

theorem discard_staging (p : Profile) : p.discard.staging = none := by
  unfold Profile.discard
  split
  · assumption
  · rfl

/-- The pinned calibration reads the banks and the pin alone. -/
theorem pinnedCal_congr {p q : Profile} (pinned : q.pinned = p.pinned) (a : q.bankA = p.bankA) (c : q.bankB = p.bankB) :
    q.pinnedCal = p.pinnedCal := by
  have hbank : q.bank = p.bank := by
    funext x
    cases x
    · exact a
    · exact c
  rw [Profile.pinnedCal, pinned, hbank, Profile.pinnedCal]

theorem discard_cal {p : Profile} (h : ProfileSound p) : p.discard.pinnedCal = p.pinnedCal := by
  unfold Profile.discard
  split
  · rfl
  · next g hg => exact (pinnedCal_congr rfl rfl rfl).trans (pinnedCal_setBank (h.pinned_ne hg) none)

theorem openStaging_edit {p : Profile} (hpin : p.pinned ≠ some p.stagingBank) (c : Calibration) : RecordEdit p (p.openStaging c) where
  bound := by simp [Profile.openStaging]
  pinned := by simp [Profile.openStaging]
  usable := fun _ hu => by simpa [Profile.openStaging, Profile.usable] using hu
  cal := fun _ => (pinnedCal_congr rfl rfl rfl).trans (pinnedCal_setBank hpin (some c))

theorem modStaged_edit (p : Profile) (f : Calibration → Calibration) : RecordEdit p (p.modStaged f) := by
  cases hg : p.staging with
  | none =>
    have hself : p.modStaged f = p := by simp [Profile.modStaged, hg]
    rw [hself]
    exact ⟨rfl, rfl, fun _ hu => hu, fun _ => rfl⟩
  | some g =>
    have hput : p.modStaged f = p.setBank g.bank ((p.bank g.bank).map f) := by simp [Profile.modStaged, hg]
    rw [hput]
    exact ⟨by simp, by simp, fun _ hu => by simpa [Profile.usable] using hu, fun h => pinnedCal_setBank (h.pinned_ne hg) _⟩

/-- A record that differs in its staged label is the same to frames. -/
theorem RecordEdit.relabel {p q : Profile} (h : RecordEdit p q) (g : Option Staging) : RecordEdit p { q with staging := g } :=
  ⟨h.bound, h.pinned, h.usable, fun hp => (pinnedCal_congr rfl rfl rfl).trans (h.cal hp)⟩

theorem commit_edit (p : Profile) : RecordEdit p p.commit := by
  cases hg : p.staging with
  | none =>
    have hself : p.commit = p := by simp [Profile.commit, hg]
    rw [hself]
    exact ⟨rfl, rfl, fun _ hu => hu, fun _ => rfl⟩
  | some g =>
    simp only [Profile.commit, hg]
    refine ⟨by simp, by simp, fun _ _ => .inl rfl, fun h => ?_⟩
    exact (pinnedCal_congr rfl rfl rfl).trans (pinnedCal_setBank (h.pinned_ne hg) _)

theorem discard_edit (p : Profile) : RecordEdit p p.discard where
  bound := by simp
  pinned := by simp
  usable := fun _ hu => by simpa [Profile.usable] using hu
  cal := discard_cal

theorem retire_edit {p : Profile} (hb : p.bound = 0) : RecordEdit p { p.discard with state := .retiring } where
  bound := by simp
  pinned := by simp
  usable := fun h => absurd h (by omega)
  cal := fun h => (pinnedCal_congr rfl rfl rfl).trans (discard_cal h)

/-! ## The profile requests -/

/-- What `withProfile` can do (R7): a refusal, or the request's own rule on a live record with no image operation in flight. -/
theorem withProfile_ends {P : State → Prop} {req : Instr} {s : State} {id : BitVec 16} {ok : Bool} {own : Profile → Answer}
    (refused : ∀ st, EndsIn (reply req s st) P)
    (taken : ∀ p, s.image.state = .idle → s.profile id.toNat = some p → p.state ≠ .retiring → EndsIn (own p) P) :
    EndsIn (withProfile req s id ok own) P := by
  unfold withProfile
  split
  · exact refused _
  · split
    · exact refused _
    · next hbusy =>
      split
      · exact refused _
      · next p hp =>
        obtain ⟨hprof, hlive⟩ := State.liveProfile_eq_some.1 hp
        exact taken p ((State.imageBusy_false s).1 (by simpa using hbusy)) hprof hlive

/-- A profile request that refuses or changes the one record. -/
theorem edited_keeps {s : State} {id : BitVec 16} {p : Profile} (hp : s.profile id.toNat = some p) {f : Profile → Profile}
    (hf : ∀ q, (f q).id = q.id) (edit : RecordEdit p (f p)) (req : Instr) (st : Status) (body : List Byte) :
    EndsIn (reply req (s.modProfile p.id f) st body) (KeepsRecords s) := by
  rw [(State.profile_some hp).2]
  exact reply_keeps (edit_keeps hp hf edit) req st body

theorem execProfileStage_keeps (id : BitVec 16) (source : Byte) (s : State) : EndsIn (execProfileStage id source s) (KeepsRecords s) := by
  refine withProfile_ends (fun st => answer_keeps s _ st []) fun p _ hp _ => ?_
  refine .ite _ (fun _ => answer_keeps s _ _ _) fun _ => .ite _ (fun _ => answer_keeps s _ _ _) fun _ => ?_
  refine .ite _ (fun _ => answer_keeps s _ _ _) fun hpin => ?_
  exact edited_keeps hp (fun q => openStaging_id q _) (openStaging_edit hpin _) _ _ _

theorem execProfilePutCurve_keeps (id : BitVec 16) (chan : Byte) (knots : List (BitVec 16 × BitVec 16)) (s : State) :
    EndsIn (execProfilePutCurve id chan knots s) (KeepsRecords s) := by
  simp only [execProfilePutCurve]
  split
  · exact answer_keeps s _ _ _
  · refine withProfile_ends (fun st => answer_keeps s _ st []) fun p _ hp _ => ?_
    refine .ite _ (fun _ => answer_keeps s _ _ _) fun _ => .ite _ (fun _ => answer_keeps s _ _ _) fun _ => ?_
    exact edited_keeps hp (fun q => modStaged_id q _) (modStaged_edit p _) _ _ _

theorem execProfilePutTerms_keeps (id : BitVec 16) (trims darks : Rgb (BitVec 16)) (life : BitVec 16) (label : List Byte) (s : State) :
    EndsIn (execProfilePutTerms id trims darks life label s) (KeepsRecords s) := by
  refine withProfile_ends (fun st => answer_keeps s _ st []) fun p _ hp _ => ?_
  refine .ite _ (fun _ => answer_keeps s _ _ _) fun _ => ?_
  exact edited_keeps (f := fun q => { q.modStaged _ with staging := (q.modStaged _).staging.map fun g => { g with label := label } }) hp
    (fun q => modStaged_id q _) ((modStaged_edit p _).relabel _) _ _ _

theorem execProfileCommit_keeps (id : BitVec 16) (s : State) : EndsIn (execProfileCommit id s) (KeepsRecords s) := by
  refine withProfile_ends (fun st => answer_keeps s _ st []) fun p _ hp _ => ?_
  split
  · exact answer_keeps s _ _ _
  · exact .ite _ (fun _ => answer_keeps s _ _ _) fun _ => edited_keeps hp commit_id (commit_edit p) _ _ _

theorem execProfileDiscard_keeps (id : BitVec 16) (s : State) : EndsIn (execProfileDiscard id s) (KeepsRecords s) := by
  refine withProfile_ends (fun st => answer_keeps s _ st []) fun p _ hp _ => ?_
  exact .ite _ (fun _ => answer_keeps s _ _ _) fun _ => edited_keeps hp discard_id (discard_edit p) _ _ _

/-- A record that no setup is bound to and no frame has pinned can be freed (R20, R21). -/
theorem free_keeps {s : State} {id : Nat} {p : Profile} (hp : s.profile id = some p) (hb : p.bound = 0) (hpin : p.pinned = none) :
    KeepsRecords s { s with profiles := freeProfile s.profiles id } where
  sound := fun h =>
    { table := h.table.change (List.Sublist.map _ List.filter_sublist) (.rfl' _)
        (fun q hq => ⟨q, (List.mem_filter.1 hq).1, rfl, rfl⟩) fun q hq hpos hu => by
          refine ⟨q, List.mem_filter.2 ⟨hq, ?_⟩, rfl, hu⟩
          rw [bne_iff_ne]
          intro hid
          rw [h.table.eq_of_profile hp hq hid, hb] at hpos
          exact absurd hpos (by decide)
      image := h.image.moves (.rfl' _) fun l hl => by
        obtain ⟨-, hfl, hnil, -⟩ := h.image.load l hl
        exact ⟨hfl, by simp [hnil, freeProfile]⟩
      pins :=
        { idle := fun hi => ⟨(h.pins.idle hi).1, fun q hq => (h.pins.idle hi).2 q (List.mem_filter.1 hq).1⟩
          flight := fun hi => by
            obtain ⟨hslot, htag, l, hl, hpinned⟩ := h.pins.flight hi
            exact ⟨hslot, htag, l, hl, fun q hq => hpinned q (List.mem_filter.1 hq).1⟩ } }
  pins := fun _ _ _ _ _ =>
    { flight := .rfl' _
      optics := rfl
      profiles := fun j => by
        show (lookup (freeProfile s.profiles id) j).bind _ = _
        rw [lookup_freeProfile]
        split
        · next hj => subst hj; simp [hp, Profile.pinnedCal, hpin]
        · rfl }

theorem execProfileRetire_keeps (id : BitVec 16) (s : State) : EndsIn (execProfileRetire id s) (KeepsRecords s) := by
  refine withProfile_ends (fun st => answer_keeps s _ st []) fun p _ hp _ => ?_
  refine .ite _ (fun _ => answer_keeps s _ _ _) fun hb => ?_
  have hb : p.bound = 0 := Nat.eq_zero_of_not_pos hb
  refine .ite _ (fun _ => ?_) fun hpin => ?_
  · exact edited_keeps (f := fun q => { q.discard with state := .retiring }) hp discard_id (retire_edit hb) _ _ _
  · refine reply_keeps ?_ _ _ _
    rw [(State.profile_some hp).2]
    exact free_keeps hp hb (by simpa using hpin)

/-- A new record is bound to no setup (R8, R22). -/
theorem TableSound.insert_fresh {s : State} (h : TableSound s) {id : Nat} {label : List Byte} (hid : idInRange id = true)
    (hnone : s.profile id = none) (hcap : s.profiles.length < Config.profileCapacity) :
    TableSound { s with profiles := insertProfile (Profile.fresh id label) s.profiles } where
  ascend := insertProfile_ascend h.ascend (lookup_none.1 hnone)
  ids := by
    intro q hq
    rcases (mem_insertProfile _ _ _).1 hq with rfl | hq
    · exact hid
    · exact h.ids q hq
  capacity := by rw [insertProfile_length]; exact hcap
  bound := by
    intro q hq
    rcases (mem_insertProfile _ _ _).1 hq with rfl | hq
    · refine (armedNaming_eq_zero.2 fun i => ?_).symm
      rw [Bool.eq_false_iff]
      intro hn
      obtain ⟨harmed, hname⟩ := (names_iff _ _).1 hn
      obtain ⟨p, hp, hpid, -⟩ := h.armed i harmed
      exact lookup_none.1 hnone p hp (hpid.trans hname)
    · exact h.bound q hq
  armed := by
    intro i hi
    obtain ⟨p, hp, hrest⟩ := h.armed i hi
    exact ⟨p, (mem_insertProfile _ _ _).2 (.inr hp), hrest⟩

theorem create_keeps {s : State} {id : Nat} (label : List Byte) (hid : idInRange id = true) (himage : s.image.state = .idle)
    (hnone : s.profile id = none) (hcap : s.profiles.length < Config.profileCapacity) :
    KeepsRecords s { s with profiles := insertProfile (Profile.fresh id label) s.profiles } where
  sound := fun h =>
    { table := h.table.insert_fresh hid hnone hcap
      image := h.image.moves (.rfl' _) fun l hl => by rw [h.image.load_none_of_idle himage] at hl; cases hl
      pins :=
        { idle := fun hi => ⟨(h.pins.idle hi).1, fun q hq => by
            rcases (mem_insertProfile _ _ _).1 hq with rfl | hq
            · rfl
            · exact (h.pins.idle hi).2 q hq⟩
          flight := fun hi => by
            obtain ⟨hslot, htag, l, hl, hpinned⟩ := h.pins.flight hi
            refine ⟨hslot, htag, l, hl, fun q hq hne => ?_⟩
            rcases (mem_insertProfile _ _ _).1 hq with rfl | hq
            · exact absurd rfl hne
            · exact hpinned q hq hne } }
  pins := fun _ _ _ _ _ =>
    { flight := .rfl' _
      optics := rfl
      profiles := fun j => by
        show (lookup (insertProfile (Profile.fresh id label) s.profiles) j).bind _ = _
        rw [lookup_insertProfile (p := Profile.fresh id label) hnone]
        split
        · next hj =>
          have hj : s.profile j = none := by rw [hj]; exact hnone
          rw [hj]
          rfl
        · rfl }

theorem execProfileCreate_keeps (id : BitVec 16) (label : List Byte) (s : State) :
    EndsIn (execProfileCreate id label s) (KeepsRecords s) := by
  refine .ite _ (fun _ => answer_keeps s _ _ _) fun hrange => .ite _ (fun _ => answer_keeps s _ _ _) fun hbusy => ?_
  refine .ite _ (fun _ => answer_keeps s _ _ _) fun hdup => .ite _ (fun _ => answer_keeps s _ _ _) fun hcap => ?_
  have hid : idInRange id.toNat = true := by
    simp only [Bool.not_eq_true', Bool.not_eq_false, Bool.and_eq_true] at hrange
    exact hrange.1
  have himage := (State.imageBusy_false s).1 (by simpa using hbusy)
  exact reply_keeps (create_keeps label hid himage (by simpa using hdup) (Nat.lt_of_not_le hcap)) _ _ _

/-! ## The optics requests -/

/-- The optics set changed with its pin as it is: the records are sound as before, and the pinned corrections must stand. -/
theorem optics_keeps {s : State} {o : Optics} (hpin : o.pinned = s.optics.pinned)
    (hset : OpticsSound s → o.pinnedSet = s.optics.pinnedSet) : KeepsRecords s { s with optics := o } where
  sound := fun h =>
    { table := h.table.congr rfl (.rfl' _)
      image := h.image.moves (.rfl' _) fun l hl => by
        obtain ⟨-, hfl, hnil, -⟩ := h.image.load l hl
        exact ⟨hfl, hnil⟩
      pins := ⟨fun hi => ⟨hpin.trans (h.pins.idle hi).1, (h.pins.idle hi).2⟩, h.pins.flight⟩ }
  pins := fun _ _ ho _ _ => ⟨.rfl' _, hset ho, fun _ => rfl⟩

/-- A set that differs only in the bank that is neither current nor pinned has the same pinned corrections (R61, R62). -/
theorem pinnedSet_other {o q : Optics} (hpin : o.pinned ≠ some o.current.flip) (current : q.current = o.current) (cur : q.cur = o.cur)
    (pinned : q.pinned = o.pinned) : q.pinnedSet = o.pinnedSet := by
  unfold Optics.pinnedSet
  rw [pinned]
  cases hp : o.pinned with
  | none => rfl
  | some x =>
    have hx : x = o.current := by
      rw [hp] at hpin
      cases x <;> cases hc : o.current <;> simp_all [Bank.flip]
    simp [Optics.bank, current, cur, hx]

theorem pinnedSet_commit {o : Optics} (hpin : o.pinned ≠ some o.current.flip) (c : Corrections) :
    (o.commit c).pinnedSet = o.pinnedSet := by
  unfold Optics.pinnedSet Optics.commit
  dsimp only
  cases hp : o.pinned with
  | none => rfl
  | some x =>
    have hx : x = o.current := by
      rw [hp] at hpin
      cases x <;> cases hc : o.current <;> simp_all [Bank.flip]
    have hflip : o.current ≠ o.current.flip := by cases o.current <;> decide
    simp [Optics.bank, hx, hflip]

theorem withOptics_ends {P : State → Prop} {req : Instr} {s : State} {ok : Bool} {own : Answer}
    (refused : ∀ st, EndsIn (reply req s st) P) (taken : EndsIn own P) : EndsIn (withOptics req s ok own) P := by
  unfold withOptics
  split
  · exact refused _
  · split
    · exact refused _
    · exact taken

theorem execOpticsStage_keeps (source : Byte) (s : State) : EndsIn (execOpticsStage source s) (KeepsRecords s) := by
  refine withOptics_ends (fun st => answer_keeps s _ st []) (.ite _ (fun _ => answer_keeps s _ _ _) fun _ => ?_)
  refine .ite _ (fun _ => answer_keeps s _ _ _) fun hpin => reply_keeps ?_ _ _ _
  exact optics_keeps rfl fun _ => pinnedSet_other hpin rfl rfl rfl

theorem modStaged_keeps {s : State} (hs : ¬(!s.optics.staging) = true) (f : Corrections → Corrections) :
    KeepsRecords s { s with optics := s.optics.modStaged f } :=
  optics_keeps rfl fun ho => pinnedSet_other (ho.staging (by simpa using hs)).2 rfl rfl rfl

theorem execOpticsPutFacets_keeps (facets : List (Byte × Byte)) (s : State) : EndsIn (execOpticsPutFacets facets s) (KeepsRecords s) :=
  withOptics_ends (fun st => answer_keeps s _ st [])
    (.ite _ (fun _ => answer_keeps s _ _ _) fun hs => reply_keeps (modStaged_keeps hs _) _ _ _)

theorem execOpticsPutShading_keeps (chan : Byte) (knots : Vector Byte 65) (s : State) :
    EndsIn (execOpticsPutShading chan knots s) (KeepsRecords s) := by
  simp only [execOpticsPutShading]
  split
  · exact answer_keeps s _ _ _
  · exact withOptics_ends (fun st => answer_keeps s _ st [])
      (.ite _ (fun _ => answer_keeps s _ _ _) fun hs => reply_keeps (modStaged_keeps hs _) _ _ _)

theorem execOpticsDiscard_keeps (s : State) : EndsIn (execOpticsDiscard s) (KeepsRecords s) := by
  refine withOptics_ends (fun st => answer_keeps s _ st []) (.ite _ (fun _ => answer_keeps s _ _ _) fun hs => reply_keeps ?_ _ _ _)
  have hs : s.optics.staging = true := by simpa using hs
  have hdiscard : s.optics.discard = { s.optics with other := none, staging := false } := by simp [Optics.discard, hs]
  rw [hdiscard]
  exact optics_keeps rfl fun ho => pinnedSet_other (ho.staging hs).2 rfl rfl rfl

theorem execOpticsCommit_keeps (s : State) : EndsIn (execOpticsCommit s) (KeepsRecords s) := by
  refine withOptics_ends (fun st => answer_keeps s _ st []) ?_
  split
  · exact answer_keeps s _ _ _
  · next staged hstaged =>
    have hs : s.optics.staging = true := by
      by_contra hs
      simp [Optics.staged, hs] at hstaged
    have hcommit : KeepsRecords s { s with optics := s.optics.commit staged } :=
      optics_keeps rfl fun ho => pinnedSet_commit (ho.staging hs).2 staged
    refine .ite _ (fun _ => answer_keeps s _ _ _) fun _ => reply_keeps (hcommit.then_steps ?_) _ _ _
    exact .ite _ (fun _ => facetsChanged_steps _) fun _ => .refl _

/-! ## The setup requests -/

/-- A setup replaced keeps the image record and the pins; the table is asked for by itself. -/
theorem setups_keeps {s t : State} (rest : t = { s with setups := t.setups, profiles := t.profiles })
    (table : TableSound s → TableSound t)
    (same : ∃ (id : Nat) (g : Nat → Nat), t.profiles = modProfile s.profiles id fun q => { q with bound := g q.bound }) :
    KeepsRecords s t := by
  obtain ⟨id, g, same⟩ := same
  have hlook : ∀ j, t.profile j = (if j = id then (s.profile j).map (fun q => { q with bound := g q.bound }) else s.profile j) := by
    intro j
    rw [State.profile_eq, same]
    exact lookup_modProfile _ _ _ fun _ => rfl
  have hback : ∀ q ∈ t.profiles, ∃ r ∈ s.profiles, q.id = r.id ∧ q.pinned = r.pinned := by
    intro q hq
    rw [same] at hq
    rcases mem_modProfile hq with ⟨hmem, -⟩ | ⟨r, hr, -, rfl⟩
    · exact ⟨q, hmem, rfl, rfl⟩
    · exact ⟨r, hr, rfl, rfl⟩
  have hfl : t.inFlight = s.inFlight := by rw [rest]; rfl
  have hframe : t.frame = s.frame := by rw [rest]
  have hoptics : t.optics = s.optics := by rw [rest]
  have himage : t.image = s.image := by rw [rest]
  refine ⟨fun h => ⟨table h.table, h.image.moves (himage ▸ .rfl' _) fun l hl => ?_, ?_, ?_⟩, fun _ _ _ _ _ => ?_⟩
  · obtain ⟨-, hidle, hnil, -⟩ := h.image.load l hl
    exact ⟨hfl.trans hidle, by simp [same, hnil, modProfile]⟩
  · intro hi
    rw [hfl] at hi
    refine ⟨hoptics ▸ (h.pins.idle hi).1, fun q hq => ?_⟩
    obtain ⟨r, hr, -, hpin⟩ := hback q hq
    rw [hpin, (h.pins.idle hi).2 r hr]
  · intro hi
    rw [hfl] at hi
    obtain ⟨hslot, htag, l, hl, hpinned⟩ := h.pins.flight hi
    rw [hframe]
    refine ⟨hslot, htag, l, hl, fun q hq hne => ?_⟩
    obtain ⟨r, hr, hid, hpin⟩ := hback q hq
    rw [hid]
    exact hpinned r hr (hpin ▸ hne)
  · refine ⟨hframe ▸ .rfl' _, by rw [hoptics], fun j => ?_⟩
    rw [hlook]
    split
    · cases s.profile j with
      | none => rfl
      | some q => exact pinnedCal_congr rfl rfl rfl
    · rfl

theorem modProfile_self (t : List Profile) (id : Nat) : (modProfile t id fun q => { q with bound := q.bound }) = t := by
  simp [modProfile]

/-- A setup that is IDLE before and after a write is counted for no profile (R22, R67). -/
theorem TableSound.write {s : State} (h : TableSound s) {i : Fin 8} {x : Setup} (hi : (s.setup i).armed = false) (hx : x.armed = false) :
    TableSound (s.setSetup i x) where
  ascend := h.ascend
  ids := h.ids
  capacity := h.capacity
  bound := by
    intro p hp
    have hset := armedNaming_setSetup s i x p.id
    rw [names_of_idle hi, names_of_idle hx] at hset
    exact (h.bound p hp).trans (by simpa using hset.symm)
  armed := by
    intro j hj
    rw [State.setSetup_setup] at hj ⊢
    split at hj
    · rw [hx] at hj; cases hj
    · next hne => rw [if_neg hne]; exact h.armed j hj

theorem execSetupWrite_keeps (slot : Byte) (fields : SetupFields) (s : State) : EndsIn (execSetupWrite slot fields s) (KeepsRecords s) := by
  simp only [execSetupWrite]
  split
  · refine .ite _ (fun _ => answer_keeps s _ _ _) fun hi => reply_keeps ?_ _ _ _
    refine setups_keeps rfl (fun h => h.write (by simpa using hi) rfl) ⟨0, id, ?_⟩
    exact (modProfile_self s.profiles 0).symm
  · exact answer_keeps s _ _ _

/-- A setup of a profile changes its state, and the profile's bound count follows (R22, R69, R70). -/
theorem TableSound.bind {s : State} (h : TableSound s) {i : Fin 8} {x : Setup} {id : Nat} {g : Nat → Nat}
    (old : (s.setup i).config.profileId = id) (new : x.config.profileId = id)
    (count : ∀ p ∈ s.profiles, p.id = id → g p.bound = armedNaming (s.setups.set i x) id)
    (usable : x.armed = true → ∃ p ∈ s.profiles, p.id = id ∧ p.usable) :
    TableSound ((s.setSetup i x).modProfile id fun q => { q with bound := g q.bound }) := by
  have hids : (Machine.modProfile s.profiles id fun q => { q with bound := g q.bound }).map Profile.id = s.profiles.map Profile.id :=
    modProfile_map_id _ _ _ fun _ => rfl
  have hkept : ∀ p ∈ s.profiles, p.usable →
      ∃ q ∈ (Machine.modProfile s.profiles id fun q => { q with bound := g q.bound }), q.id = p.id ∧ q.usable := by
    intro p hp hu
    refine ⟨if p.id = id then { p with bound := g p.bound } else p, List.mem_map.2 ⟨p, hp, rfl⟩, ?_, ?_⟩ <;> split
    · rfl
    · rfl
    · exact hu
    · exact hu
  refine ⟨idsAscend_of_ids h.ascend hids, fun q hq => ?_, ?_, fun q hq => ?_, fun j hj => ?_⟩
  · rcases mem_modProfile hq with ⟨hmem, -⟩ | ⟨p, hp, -, rfl⟩
    · exact h.ids q hmem
    · exact h.ids p hp
  · rw [State.modProfile_profiles, modProfile_length]
    exact h.capacity
  · rcases mem_modProfile hq with ⟨hmem, hne⟩ | ⟨p, hp, hid, rfl⟩
    · have hset := armedNaming_setSetup s i x q.id
      rw [names_of_ne (old ▸ Ne.symm hne), names_of_ne (new ▸ Ne.symm hne)] at hset
      exact (h.bound q hmem).trans (by simpa using hset.symm)
    · exact (count p hp hid).trans (congrArg (armedNaming _) hid.symm)
  · have hsetup : ((s.setSetup i x).modProfile id fun q => { q with bound := g q.bound }).setup j = (s.setSetup i x).setup j := rfl
    rw [hsetup, State.setSetup_setup] at hj ⊢
    by_cases hji : j = i
    · rw [if_pos hji] at hj ⊢
      obtain ⟨p, hp, hid, hu⟩ := usable hj
      obtain ⟨q, hq, hqid, hqu⟩ := hkept p hp hu
      exact ⟨q, hq, hqid.trans (hid.trans new.symm), hqu⟩
    · rw [if_neg hji] at hj ⊢
      obtain ⟨p, hp, hid, hu⟩ := h.armed j hj
      obtain ⟨q, hq, hqid, hqu⟩ := hkept p hp hu
      exact ⟨q, hq, hqid.trans hid, hqu⟩

theorem execSetupArm_keeps (slot : Byte) (s : State) : EndsIn (execSetupArm slot s) (KeepsRecords s) := by
  simp only [execSetupArm]
  split
  · exact answer_keeps s _ _ _
  · next i _ =>
    split
    · exact answer_keeps s _ _ _
    · next hidle =>
      split
      · exact answer_keeps s _ _ _
      · next p hlive =>
        obtain ⟨hp, hret⟩ := State.liveProfile_eq_some.1 hlive
        obtain ⟨hmem, hid⟩ := State.profile_some hp
        refine .ite _ (fun _ => answer_keeps s _ _ _) fun hdraft => .ite _ (fun _ => answer_keeps s _ _ _) fun _ => reply_keeps ?_ _ _ _
        refine setups_keeps rfl (fun h => ?_) ⟨p.id, (· + 1), rfl⟩
        refine h.bind (x := { s.setup i with armed := true }) (g := (· + 1)) hid.symm hid.symm (fun q hq hqid => ?_) fun _ => ?_
        · have hset := armedNaming_setSetup s i { s.setup i with armed := true } p.id
          have hnew : Setup.names { s.setup i with armed := true } p.id = true := (names_iff _ _).2 ⟨rfl, hid.symm⟩
          rw [names_of_idle (by simpa using hidle), hnew] at hset
          rw [h.bound q hq, hqid]
          simpa using hset.symm
        · refine ⟨p, hmem, rfl, ?_⟩
          cases hst : p.state with
          | draft => exact absurd hst hdraft
          | active => exact .inl hst
          | stale => exact .inr hst
          | retiring => exact absurd hst hret

theorem execSetupDisarm_keeps (slot : Byte) (s : State) : EndsIn (execSetupDisarm slot s) (KeepsRecords s) := by
  simp only [execSetupDisarm]
  split
  · exact answer_keeps s _ _ _
  · next i _ =>
    refine .ite _ (fun _ => answer_keeps s _ _ _) fun harmed => .ite _ (fun _ => answer_keeps s _ _ _) fun _ => reply_keeps ?_ _ _ _
    have harmed : (s.setup i).armed = true := by simpa using harmed
    refine setups_keeps rfl (fun h => ?_) ⟨(s.setup i).config.profileId, (· - 1), rfl⟩
    refine h.bind (x := { s.setup i with armed := false }) (g := (· - 1)) rfl rfl (fun q hq hqid => ?_) fun hx => by cases hx
    have hset := armedNaming_setSetup s i { s.setup i with armed := false } (s.setup i).config.profileId
    rw [(names_iff _ _).2 ⟨harmed, rfl⟩, names_of_idle rfl] at hset
    rw [h.bound q hq, hqid]
    exact Nat.sub_eq_of_eq_add hset.symm

end Sys2Proof.Machine
end

section
/-! The header that is taken, the image memory and the resets, and with them every step: the records stay sound, and a frame in flight
keeps the calibration and the corrections that it has pinned. -/

namespace Sys2Proof.Machine

-- one theorem after another, as in the tests: a checker's memory limit leaves no room for many threads at once
set_option Elab.async false

open Sys2Proof

/-! ## The header that is taken -/

/-- A header whose checks pass names an ARMED setup (R81, check 2). -/
theorem headerCause_armed {s : State} {x : Setup} {h : Header} (hc : headerCause s x h = none) : x.armed = true := by
  cases ha : x.armed with
  | true => rfl
  | false => simp [headerCause, ha] at hc

theorem latch_profiles (s : State) (i : Fin 8) (h : Header) :
    (latch s i h).profiles = modProfile s.profiles (s.setup i).config.profileId fun q => { q with pinned := q.active } := by
  simp [latch]

theorem latch_optics (s : State) (i : Fin 8) (h : Header) : (latch s i h).optics = { s.optics with pinned := some s.optics.current } := by
  simp [latch]

theorem latch_setups (s : State) (i : Fin 8) (h : Header) : (latch s i h).setups = s.setups := by simp [latch]

theorem latch_image (s : State) (i : Fin 8) (h : Header) : (latch s i h).image = s.image := by simp [latch]

/-- A frame latched for an ARMED setup pins its profile alone (R16, R84). -/
theorem RecordsSound.latch {s : State} (hs : RecordsSound s) (hidle : s.inFlight = false) {i : Fin 8} (hi : (s.setup i).armed = true)
    (h : Header) : RecordsSound (Machine.latch s i h) where
  table := hs.table.edit (f := fun q => { q with pinned := q.active }) (fun _ => rfl) (latch_profiles s i h) (.of_eq (latch_setups s i h))
    fun _ _ _ => ⟨rfl, fun _ hu => hu⟩
  image := hs.image.moves (latch_image s i h ▸ .rfl' _) fun l hl => by
    obtain ⟨p, hp, -⟩ := hs.table.armed i hi
    rw [(hs.image.load l hl).2.2.1] at hp
    cases hp
  pins :=
    { idle := fun hf => by cases hf
      flight := fun _ => by
        refine ⟨rfl, rfl, _, rfl, fun p hp hne => ?_⟩
        rw [latch_profiles] at hp
        rcases mem_modProfile hp with ⟨hmem, -⟩ | ⟨q, -, hid, rfl⟩
        · exact absurd ((hs.pins.idle hidle).2 p hmem) hne
        · exact hid }

theorem takeHeader_keeps {s : State} (hidle : s.inFlight = false) (h : Header) : KeepsRecords s (takeHeader s h) := by
  have hport (p : Port) : State.inFlight { s with port := p } = false := hidle
  simp only [takeHeader]
  split
  · exact ((portError_steps _).after.trans (refuseFormat_steps (s := portError { s with port := s.port.refuse }) hidle)).keeps
  · split
    · exact (refuseIn_steps (hport _) _ _ _).after.keeps
    · next i _ _ hc =>
      refine .of_not_flight (fun _ => .inl hidle) fun hs => ?_
      exact RecordsSound.latch (s := { s with port := s.port.accept h (s.setup i).config.format }) (hs.steps (port_steps s _)) (hport _)
        (headerCause_armed hc) h

theorem execHeaderTaken_keeps (s : State) : EndsIn (execHeaderTaken s) (KeepsRecords s) := by
  refine .next ?_
  split
  · exact RecordsStep.keeps (.refl s)
  · split
    · next hfree => exact takeHeader_keeps ((free?_iff s).1 (Bool.and_eq_true_iff.1 hfree).1).1 _
    · exact RecordsStep.keeps (.refl s)

/-! ## The image memory -/

/-- The image record changed: the table and the pins are as they were. -/
theorem image_sound {s : State} {m : Image} (h : RecordsSound s) (image : ImageSound { s with image := m }) :
    RecordsSound { s with image := m } :=
  ⟨h.table.congr rfl (.rfl' _), image, ⟨h.pins.idle, h.pins.flight⟩⟩

theorem execImageSave_keeps (s : State) : EndsIn (execImageSave s) (KeepsRecords s) := by
  refine .ite _ (fun _ => answer_keeps s _ _ _) fun hbusy => ?_
  have himage := (State.imageBusy_false s).1 (by simpa using hbusy)
  refine reply_keeps ⟨fun h => image_sound h ⟨fun _ => rfl, fun l hl => ?_⟩, fun _ _ _ _ _ => ⟨.rfl' _, rfl, fun _ => rfl⟩⟩ _ _ _
  have hnone : s.image.load = some l := hl
  rw [h.image.load_none_of_idle himage] at hnone
  cases hnone

/-- A result of a chain of reads is a result of its last one. -/
theorem bind_result {α β : Type} {x : Option α} {f : α → Option β} {P : β → Prop} (h : ∀ a b, f a = some b → P b) :
    ∀ b, x.bind f = some b → P b := by
  intro b hb
  obtain ⟨a, -, ha⟩ := Option.bind_eq_some_iff.1 hb
  exact h a b ha

/-- A valid header counts at most 24 profile records (R178). -/
theorem readHeader_count (h : List Byte) : ∀ r, readHeader h = some r → r.1 ≤ 24 := by
  refine bind_result fun _ => bind_result fun _ => bind_result fun _ => bind_result fun _ => ?_
  intro r hr
  dsimp only at hr
  split at hr
  · next hc => cases hr; exact hc.2.2.2.2.1
  · cases hr

theorem header_count {f : Flash} {r : Nat × Nat} (h : f.header = some r) : r.1 ≤ 24 := by
  unfold Flash.header at h
  split at h
  · exact readHeader_count _ r h
  · cases h

/-- A profile read from the image is one that a load set can hold (R182). -/
theorem readProfile_loadable (r : List Byte) : ∀ p, readProfile r = some p → p.loadable := by
  refine bind_result fun _ => bind_result fun _ => bind_result fun _ => bind_result fun _ => bind_result fun _ => bind_result fun _ =>
    bind_result fun _ => bind_result fun _ => bind_result fun _ => bind_result fun _ => bind_result fun _ => bind_result fun _ =>
    bind_result fun _ => ?_
  intro p hp
  dsimp only at hp
  split at hp
  · next hc =>
    cases hp
    refine ⟨rfl, rfl, ?_, hc.2.2.2.2.1⟩
    simp only [agedState]
    split
    · exact .inr rfl
    · exact .inl rfl
  · cases hp

/-- A load begins with an empty load set (R181). -/
theorem beginLoad_sound {s : State} (h : RecordsSound s) (hnil : s.profiles = []) (hidle : s.inFlight = false) :
    RecordsSound (beginLoad s) := by
  unfold beginLoad
  split
  · exact image_sound h ⟨nofun, nofun⟩
  · next count length hh =>
    have hcount : count ≤ Config.profileCapacity := header_count hh
    have hsome : (if count = 0 then LoadStep.optics else .profile) = .profile → 1 ≤ count := by
      split
      · exact nofun
      · exact fun _ => by omega
    refine image_sound h ⟨nofun, fun l hl => ?_⟩
    cases hl
    exact ⟨rfl, hidle, hnil, List.nodup_nil, List.forall_mem_nil _, by simpa using hcount, hsome⟩

theorem execImageLoad_keeps (s : State) : EndsIn (execImageLoad s) (KeepsRecords s) := by
  refine .ite _ (fun _ => answer_keeps s _ _ _) fun _ => .ite _ (fun _ => answer_keeps s _ _ _) fun hstate => ?_
  simp only [Bool.or_eq_true, not_or, Bool.not_eq_true, Bool.not_eq_false', List.isEmpty_iff] at hstate
  obtain ⟨⟨hnil, -⟩, hidle⟩ := hstate
  have hload : KeepsRecords s (beginLoad s) := .of_not_flight (fun _ => .inl hidle) fun h => beginLoad_sound h hnil hidle
  split
  · exact reply_keeps hload _ _ _
  · exact reply_keeps hload _ _ _

/-- A load in flight goes on with another place and load set (R182). -/
theorem load_sound {s : State} (h : RecordsSound s) {l : Load} (hl : s.image.load = some l) {m : Image} {k : Load}
    (state : m.state = s.image.state) (save : m.save = s.image.save) (load : m.load = some k)
    (nodup : (k.set.profiles.map Profile.id).Nodup) (loadable : ∀ p ∈ k.set.profiles, p.loadable)
    (room : k.left + k.set.profiles.length ≤ Config.profileCapacity) (left : k.step = .profile → 1 ≤ k.left) :
    RecordsSound { s with image := m } := by
  obtain ⟨hst, hidle, hnil, -⟩ := h.image.load l hl
  refine image_sound h ⟨fun hs => ?_, fun k' hk => ?_⟩
  · exact state.trans (h.image.save (save ▸ hs))
  · have hk : m.load = some k' := hk
    rw [load] at hk
    cases hk
    exact ⟨state.trans hst, hidle, hnil, nodup, loadable, room, left⟩

/-- A good record of a load set has an ID that the set does not hold yet (R182). -/
theorem goodProfile_some {set : LoadSet} {r : List Byte} {p : Profile} (h : goodProfile set r = some p) :
    p.loadable ∧ p.id ∉ set.profiles.map Profile.id := by
  obtain ⟨hread, hnew⟩ := Option.filter_eq_some_iff.1 h
  refine ⟨readProfile_loadable r p hread, fun hmem => ?_⟩
  obtain ⟨q, hq, hid⟩ := List.mem_map.1 hmem
  simpa [hid] using List.all_eq_true.1 hnew q hq

theorem readProfileRecord_sound {s : State} (h : RecordsSound s) {l : Load} (hl : s.image.load = some l) (hstep : l.step = .profile) :
    RecordsSound (readProfileRecord s l) := by
  obtain ⟨-, -, -, hnodup, hall, hroom, hleft⟩ := h.image.load l hl
  have hleft := hleft hstep
  have hgo : (if l.left ≤ 1 then LoadStep.optics else .profile) = .profile → 1 ≤ l.left - 1 := by
    split
    · exact nofun
    · exact fun _ => by omega
  simp only [readProfileRecord]
  split
  · exact load_sound h hl rfl rfl rfl hnodup hall (by simp only; omega) nofun
  · split
    · exact load_sound h hl rfl rfl rfl hnodup hall (by simp only; omega) hgo
    · next p hp =>
      obtain ⟨hgood, hnew⟩ := goodProfile_some hp
      refine load_sound h hl rfl rfl rfl ?_ (fun q hq => ?_) ?_ hgo
      · rw [List.map_append, List.map_singleton, List.nodup_append_comm]
        exact List.nodup_cons.2 ⟨hnew, hnodup⟩
      · rcases List.mem_append.1 hq with hq | hq
        · exact hall q hq
        · rw [List.mem_singleton.1 hq]; exact hgood
      · simp only [List.length_append, List.length_singleton]
        omega

/-! ## The load set placed -/

/-- Without a frame in flight a loss of lock spoils none (R123). -/
theorem leaveLocked_idle {s : State} (h : s.inFlight = false) (next : EngineState) :
    leaveLocked s next =
      endWindow (State.drivesOff (State.raise { s with engine := { s.engine with state := next, good := 0 } } .lockLost)) := by
  have hne : ¬s.frame.state = .exposing := fun e => by rw [inFlight_of_exposing e] at h; cases h
  simp [leaveLocked, hne]

/-- Without a frame in flight a change of F leaves the records as they are (R59). -/
theorem facetsChanged_idle {s : State} (h : s.inFlight = false) :
    (facetsChanged s).profiles = s.profiles ∧ (facetsChanged s).setups = s.setups ∧ (facetsChanged s).inFlight = false ∧
      (facetsChanged s).optics = s.optics := by
  unfold facetsChanged
  split
  · rw [leaveLocked_idle h, endWindow_inFlight]
    exact ⟨by simp, by simp, h, by simp⟩
  · exact ⟨rfl, rfl, h, rfl⟩
  · exact ⟨rfl, rfl, h, rfl⟩

/-- Placing a load set's optics leaves the profiles and the setups, brings no frame into flight and leaves the set unpinned. -/
theorem placeOptics_records {s : State} (c : Option Corrections) (hidle : s.inFlight = false) (hpin : s.optics.pinned = none) :
    (placeOptics s c).profiles = s.profiles ∧ (placeOptics s c).setups = s.setups ∧ (placeOptics s c).inFlight = false ∧
      (placeOptics s c).optics.pinned = none := by
  cases c with
  | none => exact ⟨rfl, rfl, hidle, hpin⟩
  | some c =>
    simp only [placeOptics]
    split
    · obtain ⟨profiles, setups, inFlight, optics⟩ := facetsChanged_idle
        (s := { s with optics := ⟨.a, c, none, false, none⟩, image := { s.image with opticsLoaded := true } }) hidle
      exact ⟨profiles, setups, inFlight, by rw [optics]⟩
    · exact ⟨rfl, rfl, hidle, rfl⟩

@[simp] theorem placeOptics_save (s : State) (c : Option Corrections) : (placeOptics s c).image.save = s.image.save := by
  cases c with
  | none => rfl
  | some c => simp only [placeOptics]; split <;> simp

theorem placeChannels_eq (s : State) (refs : Option (Rgb Nat)) :
    placeChannels s refs = { s with chans := (placeChannels s refs).chans, image := (placeChannels s refs).image } := by
  cases refs <;> rfl

@[simp] theorem placeChannels_save (s : State) (refs : Option (Rgb Nat)) : (placeChannels s refs).image.save = s.image.save := by
  cases refs <;> rfl

/-- The load set inserted into the empty table: unbound records of different IDs (R182). -/
theorem TableSound.place {s t : State} (h : TableSound s) (hnil : s.profiles = []) {l : List Profile}
    (profiles : t.profiles = l.foldl (fun t p => insertProfile p t) []) (setups : t.setups = s.setups)
    (nodup : (l.map Profile.id).Nodup) (loadable : ∀ p ∈ l, p.loadable) (room : l.length ≤ Config.profileCapacity) : TableSound t := by
  have hmem : ∀ p, p ∈ t.profiles → p ∈ l := by
    intro p hp
    rw [profiles] at hp
    simpa using (mem_insertAll l [] p).1 hp
  have hfree : ∀ i, (s.setup i).armed = false := by
    intro i
    rw [Bool.eq_false_iff]
    intro hi
    obtain ⟨p, hp, -⟩ := h.armed i hi
    rw [hnil] at hp
    cases hp
  have hsetup : ∀ i, t.setup i = s.setup i := fun i => by simp [State.setup, setups]
  refine ⟨?_, fun p hp => (loadable p (hmem p hp)).2.2.2, ?_, fun p hp => ?_, fun i hi => ?_⟩
  · rw [profiles]
    exact insertAll_ascend l [] List.Pairwise.nil (by simpa using nodup)
  · rw [profiles, insertAll_length]
    simpa using room
  · rw [(loadable p (hmem p hp)).1, setups]
    exact (armedNaming_eq_zero.2 fun i => names_of_idle (hfree i) _).symm
  · rw [hsetup, hfree i] at hi
    cases hi

theorem readChannelRecord_sound {s : State} (h : RecordsSound s) {l : Load} (hl : s.image.load = some l) :
    RecordsSound (readChannelRecord s l) := by
  obtain ⟨hst, hidle, hnil, hnodup, hall, hroom, -⟩ := h.image.load l hl
  have hsave : s.image.save = none := h.image.save_none (by rw [hst]; decide)
  let filled : State := { s with profiles := l.set.profiles.foldl (fun t p => insertProfile p t) s.profiles }
  obtain ⟨profiles, setups, inFlight, optics⟩ := placeOptics_records (s := filled) l.set.optics hidle (h.pins.idle hidle).1
  have hplaced (refs : Option (Rgb Nat)) : RecordsSound (placeLoadSet s { l.set with channels := refs }) := by
    have hchans := placeChannels_eq (placeOptics filled l.set.optics) refs
    have hprof : (placeLoadSet s { l.set with channels := refs }).profiles = l.set.profiles.foldl (fun t p => insertProfile p t) [] := by
      show (placeChannels (placeOptics filled l.set.optics) refs).profiles = _
      rw [hchans, ← hnil]
      exact profiles
    refine ⟨h.table.place hnil hprof ?_ hnodup hall (by omega), ⟨fun hs => ?_, nofun⟩, ⟨fun _ => ⟨?_, fun p hp => ?_⟩, fun hf => ?_⟩⟩
    · show (placeChannels (placeOptics filled l.set.optics) refs).setups = _
      rw [hchans]
      exact setups
    · have hs : (placeChannels (placeOptics filled l.set.optics) refs).image.save.isSome = true := hs
      rw [placeChannels_save, placeOptics_save, show filled.image.save = none from hsave] at hs
      cases hs
    · show (placeChannels (placeOptics filled l.set.optics) refs).optics.pinned = _
      rw [hchans]
      exact optics
    · rw [hprof] at hp
      exact (hall p (by simpa using (mem_insertAll _ [] p).1 hp)).2.1
    · have hf : (placeChannels (placeOptics filled l.set.optics) refs).inFlight = true := hf
      rw [hchans] at hf
      exact absurd (inFlight.symm.trans hf) (by decide)
  exact hplaced _

theorem execImageRecordRead_keeps (s : State) : EndsIn (execImageRecordRead s) (KeepsRecords s) := by
  refine .next ?_
  cases hl : s.image.load with
  | none => exact RecordsStep.keeps (.refl s)
  | some l =>
    refine .of_not_flight (fun h => .inl (h.image.load l hl).2.1) fun h => ?_
    obtain ⟨-, -, -, hnodup, hall, hroom, -⟩ := h.image.load l hl
    dsimp only
    split
    · next hstep => exact readProfileRecord_sound h hl hstep
    · exact load_sound h hl rfl rfl rfl hnodup hall hroom nofun
    · exact readChannelRecord_sound h hl

/-! ## The resets -/

theorem reset_armed (i : Fin 8) : (State.reset.setup i).armed = false := by
  simp [State.reset, State.setup, Setup.powerOn]

theorem powerOn_sound (pins : ResetPins) (s : State) : RecordsSound (powerOn pins s) where
  table := ⟨List.Pairwise.nil, List.forall_mem_nil _, Nat.zero_le _, List.forall_mem_nil _, fun i hi => by
    have hi : (State.reset.setup i).armed = true := hi
    rw [reset_armed] at hi
    cases hi⟩
  image := ⟨fun h => (by cases h), fun l h => (by cases h)⟩
  pins := ⟨fun _ => ⟨rfl, List.forall_mem_nil _⟩, fun h => (by cases h)⟩

theorem execPowerOnReset_keeps (pins : ResetPins) (s : State) : EndsIn (execPowerOnReset pins s) (KeepsRecords s) := by
  refine .next (.of_not_flight (fun _ => .inr ?_) fun _ => ?_)
  · split
    · unfold beginLoad; split <;> rfl
    · rfl
  · split
    · exact beginLoad_sound (powerOn_sound pins s) rfl rfl
    · exact powerOn_sound pins s

/-- The part before a soft reset's own values: the frame in flight spoiled, and the window abandoned with its notice (R99, R128). -/
def softSpoiled (s : State) : State := endWindow (spoil { s with transport := softTransport s.transport } .reset)

theorem softSpoiled_steps (s : State) : RecordsStep s (softSpoiled s) := (spoil_steps _ _).after.trans (endWindow_steps _)

theorem softSpoiled_inFlight (s : State) : (softSpoiled s).inFlight = false := by simp [softSpoiled]

/-- A soft reset abandons an image operation in flight and touches no other block but the flash (R184). -/
theorem abandonImage_eq (s : State) :
    abandonImage s = { s with image := (abandonImage s).image, flash := (abandonImage s).flash } := by
  unfold abandonImage
  split <;> rfl

theorem mem_softProfiles {t : List Profile} {q : Profile} : q ∈ softProfiles t ↔ ∃ p ∈ t, p.state ≠ .retiring ∧ q = p.discard := by
  simp only [softProfiles, List.mem_map, List.mem_filter, bne_iff_ne]
  constructor
  · rintro ⟨p, ⟨hp, hs⟩, rfl⟩; exact ⟨p, hp, hs, rfl⟩
  · rintro ⟨p, hp, hs, rfl⟩; exact ⟨p, ⟨hp, hs⟩, rfl⟩

theorem softProfiles_ids (t : List Profile) : ((softProfiles t).map Profile.id).Sublist (t.map Profile.id) := by
  have hids : (softProfiles t).map Profile.id = (t.filter fun p => p.state != .retiring).map Profile.id := by
    simp [softProfiles, Function.comp_def]
  rw [hids]
  exact List.Sublist.map _ List.filter_sublist

/-- The fields of a soft reset that the records are made of. -/
theorem softReset_records (s : State) :
    (softReset s).profiles = softProfiles (softSpoiled s).profiles ∧ (softReset s).setups = (softSpoiled s).setups ∧
      (softReset s).optics = softOptics (softSpoiled s).optics ∧ (softReset s).image = (abandonImage (softSpoiled s)).image := by
  have habandon := abandonImage_eq (softSpoiled s)
  refine ⟨?_, ?_, ?_, rfl⟩
  · show softProfiles (abandonImage (softSpoiled s)).profiles = _
    rw [habandon]
  · show (abandonImage (softSpoiled s)).setups = _
    rw [habandon]
  · show softOptics (abandonImage (softSpoiled s)).optics = _
    rw [habandon]

theorem abandonImage_none {s : State} (h : ImageSound s) : (abandonImage s).image.save = none ∧ (abandonImage s).image.load = none := by
  unfold abandonImage
  split
  · exact ⟨rfl, rfl⟩
  · next hbusy =>
    have himage := (State.imageBusy_false s).1 (by simpa using hbusy)
    exact ⟨h.save_none (by rw [himage]; decide), h.load_none_of_idle himage⟩

theorem softReset_sound {s : State} (h : RecordsSound s) : RecordsSound (softReset s) := by
  obtain ⟨profiles, setups, optics, image⟩ := softReset_records s
  have hsp : RecordsSound (softSpoiled s) := h.steps (softSpoiled_steps s)
  obtain ⟨hsave, hload⟩ := abandonImage_none hsp.image
  refine ⟨hsp.table.change (profiles ▸ softProfiles_ids _) (.of_eq setups) (fun q hq => ?_) fun p hp _ hu => ?_,
    ⟨fun hs => ?_, fun l hl => ?_⟩, ⟨fun _ => ⟨by rw [optics]; rfl, fun q hq => ?_⟩, nofun⟩⟩
  · rw [profiles] at hq
    obtain ⟨p, hp, -, rfl⟩ := mem_softProfiles.1 hq
    exact ⟨p, hp, by simp, by simp⟩
  · rw [profiles]
    exact ⟨p.discard, mem_softProfiles.2 ⟨p, hp, hu.not_retiring, rfl⟩, by simp, by simpa [Profile.usable] using hu⟩
  · rw [image, hsave] at hs; cases hs
  · rw [image, hload] at hl; cases hl
  · rw [profiles] at hq
    obtain ⟨p, hp, -, rfl⟩ := mem_softProfiles.1 hq
    rw [discard_pinned]
    exact (hsp.pins.idle (softSpoiled_inFlight s)).2 p hp

theorem execSoftReset_keeps (s : State) : EndsIn (execSoftReset s) (KeepsRecords s) :=
  reply_keeps (.of_not_flight (fun _ => .inr rfl) softReset_sound) _ _ _

/-! ## Every step -/

/-- Every command keeps the records sound and the pinned contents as they are. -/
theorem exec_keeps (c : Instr) (s : State) : EndsIn (exec c s) (KeepsRecords s) := by
  by_cases hc : changesRecords c = false
  · exact (exec_steps hc s).imp fun _ h => h.keeps
  · cases c with
    | powerOnReset pins => exact execPowerOnReset_keeps pins s
    | softReset => exact execSoftReset_keeps s
    | profileCreate id label => exact execProfileCreate_keeps id label s
    | profileStage id source => exact execProfileStage_keeps id source s
    | profilePutCurve id chan knots => exact execProfilePutCurve_keeps id chan knots s
    | profilePutTerms id trims darks life label => exact execProfilePutTerms_keeps id trims darks life label s
    | profileCommit id => exact execProfileCommit_keeps id s
    | profileDiscard id => exact execProfileDiscard_keeps id s
    | profileRetire id => exact execProfileRetire_keeps id s
    | opticsStage source => exact execOpticsStage_keeps source s
    | opticsPutFacets facets => exact execOpticsPutFacets_keeps facets s
    | opticsPutShading chan knots => exact execOpticsPutShading_keeps chan knots s
    | opticsCommit => exact execOpticsCommit_keeps s
    | opticsDiscard => exact execOpticsDiscard_keeps s
    | setupWrite slot fields => exact execSetupWrite_keeps slot fields s
    | setupArm slot => exact execSetupArm_keeps slot s
    | setupDisarm slot => exact execSetupDisarm_keeps slot s
    | imageSave => exact execImageSave_keeps s
    | imageLoad => exact execImageLoad_keeps s
    | headerTaken => exact execHeaderTaken_keeps s
    | imageRecordRead => exact execImageRecordRead_keeps s
    | _ => exact absurd rfl hc

/-- Every step does: it is a command, or a REFCLK period. -/
theorem step_keeps (s : State) : EndsIn (step s) (KeepsRecords s) := by
  unfold step
  split
  · next c rest _ =>
    refine (exec_keeps c { s with pending := rest }).imp fun t h => ?_
    refine ⟨fun hs => h.sound (hs.steps .same), fun hr hp ho hf ht => ?_⟩
    obtain ⟨flight, optics, profiles⟩ := h.pins (hr.steps .same) hp ⟨ho.current, ho.other, ho.loading, ho.staging, ho.flight⟩ hf ht
    exact ⟨flight, optics, profiles⟩
  · split
    · exact exec_keeps _ s
    · exact .next (pass_steps 1 s).keeps

/-- Settles O15: no step breaks the soundness of the records, by the one lemma over all commands (`exec_keeps`). -/
theorem recordsStaySound : Obligations.RecordsStaySound := fun s t h e => (step_keeps s t e).sound h

/-- Settles O17: over one step the pinned contents stand, and the frame record's figures from the latch point with them. -/
theorem frameKeepsItsCalibration : Obligations.FrameKeepsItsCalibration := by
  intro s t hr hp ho e hs ht
  obtain ⟨flight, optics, profiles⟩ := (step_keeps s t e).pins hr hp ho hs ht
  obtain ⟨-, -, l, hl, -⟩ := hr.pins.flight hs
  have hfig := flight.latched
  rw [hl, Option.map_some, Option.map_eq_some_iff] at hfig
  obtain ⟨m, hm, hfig⟩ := hfig
  simp only [Latched.figures, Prod.mk.injEq] at hfig
  obtain ⟨hid, hrev, hopt, hstale⟩ := hfig
  exact ⟨optics, l, m, hl, hm, hid, hrev, hopt, hstale, profiles l.profileId⟩

end Sys2Proof.Machine
end

section
/-! The profile requests (R7 to R15, R20, R21): their checks in order, and the one record that each changes. -/

namespace Sys2Proof.Machine

-- one theorem after another, as in the tests: a checker's memory limit leaves no room for many threads at once
set_option Elab.async false

open Sys2Proof

/-! ## Field ranges -/

theorem idInRange_iff (n : Nat) : idInRange n = true ↔ 1 ≤ n ∧ n ≤ 65534 := by simp [idInRange]

theorem labelInRange_iff (label : List Byte) :
    labelInRange label = true ↔ label.length ≤ 12 ∧ ∀ b ∈ label, 0x20 ≤ b.toNat ∧ b.toNat ≤ 0x7E := by
  simp [labelInRange, printable]

theorem trims_iff (trims : Rgb (BitVec 16)) :
    trims.all (fun t => trimInRange t.toInt) = true ↔ ∀ c, -1024 ≤ (trims.get c).toInt ∧ (trims.get c).toInt ≤ 1023 := by
  simp [Rgb.all_iff, trimInRange]

theorem darks_iff (darks : Rgb (BitVec 16)) : darks.all (fun d => codeInRange d.toNat) = true ↔ ∀ c, (darks.get c).toNat ≤ 4095 := by
  simp [Rgb.all_iff, codeInRange]

theorem knots_iff (knots : List (BitVec 16 × BitVec 16)) :
    ((curveOf knots).all fun k => codeInRange k.code && codeInRange k.exposure) = true ↔
      ∀ k ∈ knots, k.1.toNat ≤ 4095 ∧ k.2.toNat ≤ 4095 := by
  simp [curveOf, codeInRange]

theorem chanOf_eq_none (b : Byte) : chanOf b = none ↔ 3 ≤ b.toNat := by
  unfold chanOf
  split <;> simp_all
  omega

theorem copyOf_isSome (b : Byte) : (copyOf b).isSome = true ↔ b.toNat < 2 := by
  unfold copyOf
  split <;> simp_all
  omega

/-! ## The shared checks of R7 -/

section Checks

variable {req : Instr} {s : State} {id : BitVec 16} {ok : Bool} {own : Profile → Answer}

theorem withProfile_range (h : ¬(idInRange id.toNat = true ∧ ok = true)) : withProfile req s id ok own = .next (s.answer req .range) := by
  have hcheck : (!(idInRange id.toNat && ok)) = true := by
    rw [Bool.not_eq_true', Bool.eq_false_iff, Ne, Bool.and_eq_true]
    exact h
  simp only [withProfile, hcheck, if_true, reply]

theorem withProfile_busy (h : idInRange id.toNat = true ∧ ok = true) (himage : s.image.state ≠ .idle) :
    withProfile req s id ok own = .next (s.answer req .busy) := by
  simp [withProfile, h, (State.imageBusy_iff s).2 himage, reply]

theorem withProfile_notFound (h : idInRange id.toNat = true ∧ ok = true) (himage : s.image.state = .idle)
    (hnone : ∀ p, s.profile id.toNat = some p → p.state = .retiring) : withProfile req s id ok own = .next (s.answer req .notFound) := by
  simp [withProfile, h, (State.imageBusy_false s).2 himage, State.liveProfile_eq_none.2 hnone, reply]

/-- Past the shared checks the request's own rule runs on the record. -/
theorem withProfile_reachable {p : Profile} (h : Reachable s id p) (hok : ok = true) : withProfile req s id ok own = own p := by
  obtain ⟨hid, himage, hlive⟩ := h
  simp [withProfile, hid, hok, (State.imageBusy_false s).2 himage, hlive]

end Checks

/-- Checks 1 to 3 of R7 on an answer. -/
structure ChecksFirst (s : State) (c : Instr) (id : BitVec 16) (ok : Prop) (a : Answer) : Prop where
  range : ¬(1 ≤ id.toNat ∧ id.toNat ≤ 65534 ∧ ok) → a = .next (s.answer c .range)
  busy : 1 ≤ id.toNat ∧ id.toNat ≤ 65534 ∧ ok → s.image.state ≠ .idle → a = .next (s.answer c .busy)
  notFound : 1 ≤ id.toNat ∧ id.toNat ≤ 65534 ∧ ok → s.image.state = .idle →
    (∀ p, s.profile id.toNat = some p → p.state = .retiring) → a = .next (s.answer c .notFound)

theorem withProfile_checks (req : Instr) (s : State) (id : BitVec 16) {b : Bool} {ok : Prop} (hb : b = true ↔ ok)
    (own : Profile → Answer) : ChecksFirst s req id ok (withProfile req s id b own) := by
  have hall : 1 ≤ id.toNat ∧ id.toNat ≤ 65534 ∧ ok ↔ idInRange id.toNat = true ∧ b = true := by
    rw [idInRange_iff, hb, and_assoc]
  refine ⟨fun h => withProfile_range (mt hall.2 h), fun h => withProfile_busy (hall.1 h), fun h => withProfile_notFound (hall.1 h)⟩

/-- PROFILE_PUT_CURVE with a channel: its checks and its own rule (R11). -/
theorem execProfilePutCurve_chan {chan : Byte} {c : Chan} (h : chanOf chan = some c) (id : BitVec 16)
    (knots : List (BitVec 16 × BitVec 16)) (s : State) :
    execProfilePutCurve id chan knots s =
      withProfile (.profilePutCurve id chan knots) s id ((curveOf knots).all fun k => codeInRange k.code && codeInRange k.exposure)
        fun p =>
          if p.staging.isNone then reply (.profilePutCurve id chan knots) s .state
          else if !validCurve (curveOf knots) then reply (.profilePutCurve id chan knots) s .invalidCurve
          else reply (.profilePutCurve id chan knots)
            (s.modProfile p.id fun q => q.modStaged fun cal => { cal with curves := cal.curves.set c (some (curveOf knots)) }) .ok := by
  simp only [execProfilePutCurve, h]

/-- The change requests on an occupied record begin with the shared checks (R7). -/
theorem profileChange_checks (s : State) {c : Instr} {id : BitVec 16} {ok : Prop} (h : profileChange c = some (id, ok)) :
    ChecksFirst s c id ok (exec c s) := by
  cases c with
  | profileStage i source => cases h; exact withProfile_checks _ s _ (copyOf_isSome source) _
  | profilePutCurve i chan knots =>
    cases h
    cases hc : chanOf chan with
    | none =>
      have hrange : exec (.profilePutCurve id chan knots) s = .next (s.answer (.profilePutCurve id chan knots) .range) := by
        show execProfilePutCurve id chan knots s = _
        simp only [execProfilePutCurve, hc, reply]
      have hbig := (chanOf_eq_none chan).1 hc
      exact ⟨fun _ => hrange, fun hok => absurd hok.2.2.1 (Nat.not_lt.2 hbig), fun hok => absurd hok.2.2.1 (Nat.not_lt.2 hbig)⟩
    | some ch =>
      have hlt : chan.toNat < 3 := Nat.lt_of_not_le fun hle => by rw [(chanOf_eq_none chan).2 hle] at hc; cases hc
      show ChecksFirst s _ _ _ (execProfilePutCurve id chan knots s)
      rw [execProfilePutCurve_chan hc]
      exact withProfile_checks _ s _ ((knots_iff knots).trans (and_iff_right hlt).symm) _
  | profilePutTerms i trims darks life label =>
    cases h
    refine withProfile_checks _ s _ ?_ _
    rw [Bool.and_eq_true, Bool.and_eq_true, trims_iff, darks_iff, labelInRange_iff, and_assoc]
  | profileCommit i => cases h; exact withProfile_checks _ s _ (iff_of_true rfl trivial) _
  | profileDiscard i => cases h; exact withProfile_checks _ s _ (iff_of_true rfl trivial) _
  | profileRetire i => cases h; exact withProfile_checks _ s _ (iff_of_true rfl trivial) _
  | _ => cases h

/-! ## PROFILE_CREATE -/

section Create

variable {s : State} {id : BitVec 16} {label : List Byte}

theorem execProfileCreate_range (h : ¬(idInRange id.toNat = true ∧ labelInRange label = true)) :
    execProfileCreate id label s = .next (s.answer (.profileCreate id label) .range) := by
  have hcheck : (!(idInRange id.toNat && labelInRange label)) = true := by
    rw [Bool.not_eq_true', Bool.eq_false_iff, Ne, Bool.and_eq_true]
    exact h
  simp only [execProfileCreate, hcheck, if_true, reply]

variable (hrange : idInRange id.toNat = true ∧ labelInRange label = true)

include hrange

theorem execProfileCreate_busy (himage : s.image.state ≠ .idle) :
    execProfileCreate id label s = .next (s.answer (.profileCreate id label) .busy) := by
  simp [execProfileCreate, hrange, (State.imageBusy_iff s).2 himage, reply]

variable (himage : s.image.state = .idle)

include himage

theorem execProfileCreate_duplicate (hdup : s.profile id.toNat ≠ none) :
    execProfileCreate id label s = .next (s.answer (.profileCreate id label) .duplicate) := by
  simp [execProfileCreate, hrange, (State.imageBusy_false s).2 himage, Option.isSome_iff_ne_none.2 hdup, reply]

theorem execProfileCreate_tableFull (hnone : s.profile id.toNat = none) (hfull : 24 ≤ s.profiles.length) :
    execProfileCreate id label s = .next (s.answer (.profileCreate id label) .tableFull) := by
  simp [execProfileCreate, hrange, (State.imageBusy_false s).2 himage, hnone, Config.profileCapacity, hfull, reply]

theorem execProfileCreate_ok (hnone : s.profile id.toNat = none) (hroom : s.profiles.length < 24) :
    execProfileCreate id label s = .next (State.answer
      { s with profiles := insertProfile (Profile.fresh id.toNat label) s.profiles } (.profileCreate id label) .ok) := by
  simp [execProfileCreate, hrange, (State.imageBusy_false s).2 himage, hnone, Config.profileCapacity, Nat.not_le.2 hroom, reply]

end Create

/-- Settles O11: the shared checks are `withProfile`'s, and an accepted PROFILE_CREATE inserts the record of R8. -/
theorem profileChangesAreChecked : Obligations.ProfileChangesAreChecked := by
  refine ⟨fun s c id ok h => ?_, fun s id label => ?_, fun s id label h1 h2 hlen hchars himage hnone hroom => ?_⟩
  · obtain ⟨range, busy, notFound⟩ := profileChange_checks s h
    exact ⟨range, busy, notFound⟩
  · intro ok
    have hok : ok ↔ idInRange id.toNat = true ∧ labelInRange label = true := by
      rw [idInRange_iff, labelInRange_iff, and_assoc]
    exact ⟨fun h => execProfileCreate_range (mt hok.2 h), fun h => execProfileCreate_busy (hok.1 h),
      fun h => execProfileCreate_duplicate (hok.1 h), fun h => execProfileCreate_tableFull (hok.1 h)⟩
  · have hrange : idInRange id.toNat = true ∧ labelInRange label = true :=
      ⟨(idInRange_iff _).2 ⟨h1, h2⟩, (labelInRange_iff _).2 ⟨hlen, hchars⟩⟩
    have hlook (j : Nat) : lookup (insertProfile (Profile.fresh id.toNat label) s.profiles) j =
        if j = id.toNat then some (Profile.fresh id.toNat label) else lookup s.profiles j :=
      lookup_insertProfile (p := Profile.fresh id.toNat label) hnone j
    refine ⟨_, execProfileCreate_ok hrange himage hnone hroom, rfl, ?_, fun j hj => ?_, insertProfile_length _ _, fun hasc => ?_⟩
    · exact (hlook _).trans (if_pos rfl)
    · exact (hlook j).trans (if_neg hj)
    · exact insertProfile_ascend hasc (lookup_none.1 hnone)

/-! ## One record changed -/

theorem Reachable.profile {s : State} {id : BitVec 16} {p : Profile} (h : Reachable s id p) :
    s.profile id.toNat = some p := (State.liveProfile_eq_some.1 h.2.2).1

/-- A request answered OK after a change of the record's ID-keeping fields changes that record and nothing else. -/
theorem changesProfile_of {s : State} {c : Instr} {id : Nat} {p : Profile} {f : Profile → Profile} {body : List Byte}
    (hp : s.profile id = some p) (hf : ∀ q, (f q).id = q.id) (he : exec c s = reply c (s.modProfile p.id f) .ok body) :
    ChangesProfile s c id (f p) body := by
  have hid := (State.profile_some hp).2
  refine ⟨s.modProfile p.id f, he, rfl, ?_, fun j hj => ?_, modProfile_map_id _ _ _ hf⟩
  · rw [State.profile_modProfile _ _ _ hf, if_pos hid.symm, hp]
    rfl
  · rw [State.profile_modProfile _ _ _ hf, if_neg fun e => hj (e.trans hid)]

/-! ## Valid curves -/

/-- One knot stands before another on a curve (R4). -/
def Knot.before (a c : Knot) : Prop := a.code < c.code ∧ a.exposure ≤ c.exposure

theorem knotsRise_iff (k : Curve) : knotsRise k = true ↔ k.Pairwise Knot.before := by
  induction k with
  | nil => simp [knotsRise]
  | cons a t ih =>
    cases t with
    | nil => simp [knotsRise]
    | cons l rest =>
      simp only [knotsRise, Bool.and_eq_true, decide_eq_true_eq, ih]
      rw [List.pairwise_cons (a := a)]
      constructor
      · rintro ⟨hal, hrest⟩
        refine ⟨fun x hx => ?_, hrest⟩
        rcases List.mem_cons.1 hx with rfl | hx
        · exact hal
        · have hlx := (List.pairwise_cons.1 hrest).1 x hx
          exact ⟨Nat.lt_trans hal.1 hlx.1, Nat.le_trans hal.2 hlx.2⟩
      · rintro ⟨ha, hrest⟩
        exact ⟨ha l List.mem_cons_self, hrest⟩

/-- What a valid curve is (R4). -/
theorem validCurve_iff (k : Curve) : validCurve k = true ↔ 2 ≤ k.length ∧ k.length ≤ 33 ∧ k.head?.map Knot.code = some 0 ∧
    k.getLast?.map Knot.code = some 4095 ∧ k.Pairwise (fun a b => a.code < b.code ∧ a.exposure ≤ b.exposure) ∧
    ∀ x ∈ k, x.code ≤ 4095 ∧ x.exposure ≤ 4095 := by
  have hrise : knotsRise k = true ↔ k.Pairwise (fun a b => a.code < b.code ∧ a.exposure ≤ b.exposure) := knotsRise_iff k
  simp only [validCurve, Bool.and_eq_true, decide_eq_true_eq, beq_iff_eq, hrise, List.all_eq_true, codeInRange, and_assoc]

/-! ## Staging -/

theorem stagingBank_eq (p : Profile) : p.stagingBank = if p.active = some .a then .b else .a := by
  unfold Profile.stagingBank
  cases p.active with
  | none => rfl
  | some x => cases x <;> rfl

theorem bankByte_eq (k : Bank) : bankByte k = [if k = .a then 0 else 1] := by cases k <;> rfl

section Staging

variable {s : State} {id : BitVec 16} {p : Profile} (h : Reachable s id p)

include h

/-- PROFILE_STAGE past the shared checks (R9, R10). -/
theorem exec_profileStage {source : Byte} {copy : Bool} (hsource : copyOf source = some copy) :
    exec (.profileStage id source) s =
      if p.staging.isSome then reply (.profileStage id source) s .state
      else if copy = true ∧ p.state = .draft then reply (.profileStage id source) s .notReady
      else if p.pinned = some p.stagingBank then reply (.profileStage id source) s .busy
      else reply (.profileStage id source) (s.modProfile p.id fun q => q.openStaging
        (if copy = true then { (p.activeCal.getD .empty) with revision := none } else Calibration.empty)) .ok (bankByte p.stagingBank) := by
  show withProfile _ _ _ _ _ = _
  rw [withProfile_reachable h (by rw [hsource]; rfl)]
  simp only [hsource, Option.some.injEq]

/-- PROFILE_PUT_CURVE past the shared checks (R11). -/
theorem exec_profilePutCurve {chan : Byte} {c : Chan} {knots : List (BitVec 16 × BitVec 16)} (hc : chanOf chan = some c)
    (hk : ∀ k ∈ knots, k.1.toNat ≤ 4095 ∧ k.2.toNat ≤ 4095) :
    exec (.profilePutCurve id chan knots) s =
      if p.staging.isNone then reply (.profilePutCurve id chan knots) s .state
      else if !validCurve (curveOf knots) then reply (.profilePutCurve id chan knots) s .invalidCurve
      else reply (.profilePutCurve id chan knots)
        (s.modProfile p.id fun q => q.modStaged fun cal => { cal with curves := cal.curves.set c (some (curveOf knots)) }) .ok := by
  show execProfilePutCurve id chan knots s = _
  rw [execProfilePutCurve_chan hc, withProfile_reachable h ((knots_iff knots).2 hk)]

/-- PROFILE_PUT_TERMS past the shared checks (R12). -/
theorem exec_profilePutTerms {trims darks : Rgb (BitVec 16)} {label : List Byte} (life : BitVec 16)
    (ht : ∀ c, -1024 ≤ (trims.get c).toInt ∧ (trims.get c).toInt ≤ 1023) (hd : ∀ c, (darks.get c).toNat ≤ 4095)
    (hlen : label.length ≤ 12) (hchars : ∀ b ∈ label, 0x20 ≤ b.toNat ∧ b.toNat ≤ 0x7E) :
    exec (.profilePutTerms id trims darks life label) s =
      if p.staging.isNone then reply (.profilePutTerms id trims darks life label) s .state
      else reply (.profilePutTerms id trims darks life label) (s.modProfile p.id fun q =>
        let put (cal : Calibration) : Calibration :=
          { cal with trims := trims.map BitVec.toInt, darks := darks.map BitVec.toNat, life := life.toNat }
        { q.modStaged put with staging := (q.modStaged put).staging.map fun g => { g with label := label } }) .ok := by
  show withProfile _ _ _ _ _ = _
  rw [withProfile_reachable h]
  rw [Bool.and_eq_true, Bool.and_eq_true, trims_iff, darks_iff, labelInRange_iff]
  exact ⟨⟨ht, hd⟩, hlen, hchars⟩

theorem profileStage_opens {source : Byte} {copy : Bool} (hsource : copyOf source = some copy) (hs : p.staging = none)
    (hdraft : ¬(copy = true ∧ p.state = .draft)) (hpin : p.pinned ≠ some p.stagingBank) {cal : Calibration}
    (hcal : (if copy = true then { (p.activeCal.getD .empty) with revision := none } else Calibration.empty) = cal) :
    ChangesProfile s (.profileStage id source) id.toNat
      { p.setBank p.stagingBank (some cal) with staging := some ⟨p.stagingBank, p.label⟩ } [if p.stagingBank = .a then 0 else 1] := by
  rw [← hcal, ← bankByte_eq]
  refine changesProfile_of (f := fun q => q.openStaging _) h.profile (fun q => openStaging_id q _) ?_
  rw [exec_profileStage h hsource, hs, if_neg (by decide), if_neg hdraft, if_neg hpin]

end Staging

theorem modStaged_some {p : Profile} {g : Staging} {cal : Calibration} (hg : p.staging = some g) (hc : p.bank g.bank = some cal)
    (f : Calibration → Calibration) : p.modStaged f = p.setBank g.bank (some (f cal)) := by
  simp [Profile.modStaged, hg, hc]

/-- Settles O12: each staging request is its own rule past the shared checks, and changes the one record. -/
theorem stagingIsOpenedAndFilled : Obligations.StagingIsOpenedAndFilled := by
  refine ⟨fun s id source p hsrc h => ?_, validCurve_iff, fun s id p h => ⟨fun chan c knots hc hk => ?_, ?_⟩⟩
  · obtain ⟨copy, hsource, hcopy⟩ : ∃ copy, copyOf source = some copy ∧ (copy = true ↔ source = 0) := by
      rcases hsrc with rfl | rfl
      · exact ⟨true, rfl, by decide⟩
      · exact ⟨false, rfl, by decide⟩
    have hexec := exec_profileStage h hsource
    refine ⟨stagingBank_eq p, fun hs => ?_, fun hs h0 hdraft => ?_, fun hs hdraft hpin => ?_, fun hs hdraft hpin cal hempty hactive => ?_⟩
    · rw [hexec, if_pos (Option.isSome_iff_ne_none.2 hs)]; rfl
    · rw [hexec, hs, if_neg (by decide), if_pos ⟨hcopy.2 h0, hdraft⟩]; rfl
    · rw [hexec, hs, if_neg (by decide), if_neg (by rwa [hcopy]), if_pos hpin]; rfl
    · refine profileStage_opens h hsource hs (by rwa [hcopy]) hpin ?_
      rcases hsrc with rfl | rfl
      · obtain ⟨a, ha, rfl⟩ := hactive rfl
        simp [hcopy.2 rfl, ha]
      · rw [hempty rfl, if_neg fun hc => absurd (hcopy.1 hc) (by decide)]
        rfl
  · have hexec := exec_profilePutCurve h hc hk
    refine ⟨fun hs => ?_, fun g cal hg hcal => ⟨fun hbad => ?_, fun hgood => ?_⟩⟩
    · rw [hexec, hs]; rfl
    · rw [hexec, hg, if_neg (by simp), hbad]; rfl
    · rw [← modStaged_some hg hcal fun cal => { cal with curves := cal.curves.set c (some (curveOf knots)) }]
      refine changesProfile_of (f := fun q => q.modStaged _) h.profile (fun q => modStaged_id q _) ?_
      rw [hexec, hg, if_neg (by simp), hgood, if_neg (by decide)]
  · intro trims darks life label ht hd hlen hchars
    have hexec := exec_profilePutTerms h life ht hd hlen hchars
    refine ⟨fun hs => ?_, fun g cal hg hcal => ?_⟩
    · rw [hexec, hs]; rfl
    · let put (cal : Calibration) : Calibration :=
        { cal with trims := trims.map BitVec.toInt, darks := darks.map BitVec.toNat, life := life.toNat }
      have hput := modStaged_some hg hcal put
      have hchange := changesProfile_of (c := .profilePutTerms id trims darks life label) (body := [])
        (f := fun q => { q.modStaged put with staging := (q.modStaged put).staging.map fun g => { g with label := label } })
        h.profile (fun q => modStaged_id q _) (by rw [hexec, hg, if_neg (by simp)])
      simp only [hput, setBank_staging, hg, Option.map_some] at hchange
      exact hchange

/-! ## PROFILE_COMMIT -/

theorem curveMark_iff {p : Profile} {cal : Calibration} (h : p.stagedCal = some cal) (c : Chan) :
    p.curveMark c = true ↔ cal.curves.get c ≠ none := by
  simp [Profile.curveMark, h, Option.isSome_iff_ne_none]

theorem allMarks_iff {p : Profile} {cal : Calibration} (h : p.stagedCal = some cal) :
    p.allMarks = true ↔ ∀ c, cal.curves.get c ≠ none := by
  simp only [Profile.allMarks, Bool.and_eq_true, curveMark_iff h]
  exact ⟨fun ⟨⟨hr, hg⟩, hb⟩ c => by cases c <;> assumption, fun hall => ⟨⟨hall .red, hall .grn⟩, hall .blu⟩⟩

/-- PROFILE_COMMIT past the shared checks (R14, R15). -/
theorem exec_profileCommit {s : State} {id : BitVec 16} {p : Profile} (h : Reachable s id p) :
    exec (.profileCommit id) s = (match p.staging with
      | none => reply (.profileCommit id) s .notReady
      | some g =>
        if !p.allMarks then reply (.profileCommit id) s .notReady
        else reply (.profileCommit id) (s.modProfile p.id Profile.commit) .ok (u16 p.commitRevision ++ bankByte g.bank)) :=
  (withProfile_reachable h rfl).trans (by cases p.staging <;> rfl)

/-- Settles O13: the six things of R15 are `Profile.commit`, and the marks of R14 are the staged curves. -/
theorem profileCommitSwapsTheBanks : Obligations.ProfileCommitSwapsTheBanks := by
  intro s id p h
  have hexec := exec_profileCommit h
  refine ⟨fun hs => ?_, fun g cal hg hcal => ?_⟩
  · rw [hexec, hs]; rfl
  · have hstaged : p.stagedCal = some cal := by simp [Profile.stagedCal, hg, hcal]
    rw [hg] at hexec
    refine ⟨fun ⟨c, hc⟩ => ?_, fun hall rev hfirst hnext hrev => ?_⟩
    · have hmarks : p.allMarks = false := by
        rw [Bool.eq_false_iff]
        exact fun hm => (allMarks_iff hstaged).1 hm c hc
      rw [hexec, hmarks]; rfl
    · have hmarks := (allMarks_iff hstaged).2 hall
      have hcommit : p.commitRevision = rev := by
        unfold Profile.commitRevision
        cases ha : p.activeCal with
        | none => exact (hfirst ha).symm
        | some a =>
          obtain ⟨n, hn⟩ := Option.ne_none_iff_exists'.1 (hrev a ha)
          simp [hn, hnext a n ha hn, nextRevision]
      have hchange := changesProfile_of (c := .profileCommit id) (body := u16 rev ++ bankByte g.bank) h.profile commit_id
        (by rw [hexec, hmarks, hcommit]; rfl)
      simpa only [Profile.commit, hg, hcal, hcommit, Option.map_some, bankByte_eq, u16] using hchange

/-! ## PROFILE_DISCARD and PROFILE_RETIRE -/

section Retire

variable {s : State} {id : BitVec 16} {p : Profile} (h : Reachable s id p)

include h

theorem exec_profileDiscard : exec (.profileDiscard id) s =
    if p.staging.isNone then reply (.profileDiscard id) s .state
    else reply (.profileDiscard id) (s.modProfile p.id Profile.discard) .ok := withProfile_reachable h rfl

/-- PROFILE_RETIRE past the shared checks (R20). -/
theorem exec_profileRetire : exec (.profileRetire id) s =
    if 0 < p.bound then reply (.profileRetire id) s .inUse
    else if p.pinned.isSome then
      reply (.profileRetire id) (s.modProfile p.id fun q => { q.discard with state := .retiring }) .ok (u8 ProfileState.retiring.code)
    else reply (.profileRetire id) { s with profiles := freeProfile s.profiles p.id } .ok (u8 freeCode) := withProfile_reachable h rfl

end Retire

theorem discard_none {p : Profile} (h : p.staging = none) : p.discard = p := by simp [Profile.discard, h]

theorem discard_some {p : Profile} {g : Staging} (h : p.staging = some g) :
    p.discard = { p.setBank g.bank none with staging := none } := by simp [Profile.discard, h]

/-- Settles O14: a discard empties the staging bank, and a retired record is freed, or RETIRING while a frame has it pinned. -/
theorem profileDiscardAndRetire : Obligations.ProfileDiscardAndRetire := by
  intro s id p h
  have hdiscard := exec_profileDiscard h
  have hretire := exec_profileRetire h
  refine ⟨fun hs => ?_, fun g hg => ?_, fun hb => ?_, fun hb hpin => ?_, fun hb hpin q hnone hsome => ?_⟩
  · rw [hdiscard, hs]; rfl
  · rw [← discard_some hg]
    exact changesProfile_of h.profile discard_id (by rw [hdiscard, hg, if_neg (by simp)])
  · rw [hretire, if_pos hb]; rfl
  · have hlook (j : Nat) : lookup (freeProfile s.profiles p.id) j = if j = p.id then none else lookup s.profiles j :=
      lookup_freeProfile s.profiles p.id j
    have hid := (State.profile_some h.profile).2
    refine ⟨_, by rw [hretire, if_neg (by omega), hpin, if_neg (by decide)]; rfl, rfl, ?_, fun j hj => ?_⟩
    · exact (hlook _).trans (if_pos hid.symm)
    · exact (hlook j).trans (if_neg fun e => hj (e.trans hid))
  · have hq : q = p.discard := by
      cases hg : p.staging with
      | none => rw [discard_none hg]; exact hnone hg
      | some g => rw [discard_some hg]; exact hsome g hg
    rw [hq]
    refine changesProfile_of (f := fun q => { q.discard with state := .retiring }) h.profile discard_id ?_
    rw [hretire, if_neg (by omega), if_pos (Option.isSome_iff_ne_none.2 hpin)]
    rfl

end Sys2Proof.Machine
end

section
/-! The flags that an event sets (R171), a PULL's events (R152), and the header that is latched (R84). -/

namespace Sys2Proof.Machine

-- one theorem after another, as in the tests: a checker's memory limit leaves no room for many threads at once
set_option Elab.async false

open Sys2Proof

/-! ## Event flags -/

theorem Event.bit_lt (e : Event) : e.bit < 15 := by cases e <;> decide

/-- An event raised sets its own flag and leaves the others (R171). -/
theorem raise_flag (v : Events) (e : Event) (k : Nat) :
    (v.raise e).flags.getLsbD k = (v.flags.getLsbD k || decide (k = e.bit)) := by
  have hmask : e.mask.getLsbD k = decide (k = e.bit) := by
    rw [Event.mask, BitVec.getLsbD_ofNat, Nat.testBit_two_pow]
    have := e.bit_lt
    by_cases hk : k = e.bit
    · simp [hk, this]
    · simp [hk, Ne.symm hk]
  rw [Events.raise, BitVec.getLsbD_or, hmask]

/-- No flag that is set is cleared. -/
def FlagsKept (v w : Events) : Prop := ∀ k, v.flags.getLsbD k = true → w.flags.getLsbD k = true

theorem FlagsKept.refl (v : Events) : FlagsKept v v := fun _ h => h

/-! ## A PULL pulse -/

/-- A PULL raises ROLL_LOW and ROLL_END where its remaining film meets them (R152). -/
theorem issuePull_flags {s : State} {r : Roll} (h : s.transport.roll = some r) (k : Nat) :
    (issuePull s).events.flags.getLsbD k = (s.events.flags.getLsbD k || (decide (k = 10) && decide (r.remaining - 1 = r.lowMark)) ||
      (decide (k = 11) && decide (r.remaining - 1 = 0))) := by
  simp only [issuePull, h]
  split <;> split <;> simp_all [raise_flag] <;> rfl

theorem issuePull_outputs {s : State} {r : Roll} (h : s.transport.roll = some r) :
    (issuePull s).outputs = { s.outputs with pulls := s.outputs.pulls + 1 } := by
  simp only [issuePull, h]
  split <;> split <;> rfl

/-! ## The header that is latched -/

theorem slotOf_ofNat (i : Fin 8) : slotOf (BitVec.ofNat 8 i) = some i := by
  have h : (BitVec.ofNat 8 (i : Nat)).toNat = i := by simp; omega
  simp [slotOf, h]

/-- A header that passes every check is latched (R81, R84). -/
theorem takeHeader_latch {s : State} {h : Header} {i : Fin 8} (hslot : h.slot = i) (hlow : h.low = 0)
    (hcause : headerCause s (s.setup i) h = none) :
    takeHeader s h = latch { s with port := s.port.accept h (s.setup i).config.format } i h := by
  simp only [takeHeader, hlow, if_true, hslot, slotOf_ofNat, hcause]

theorem latch_transport {s : State} {r : Roll} (i : Fin 8) (h : Header) (hr : s.transport.roll = some r) :
    (latch s i h).transport = { s.transport with roll := some { r with remaining := r.remaining - 1, pulls := r.pulls + 1 } } :=
  issuePull_roll (s := { s.modProfile (s.setup i).config.profileId _ with optics := _ }) hr

theorem latch_outputs {s : State} {r : Roll} (i : Fin 8) (h : Header) (hr : s.transport.roll = some r) :
    (latch s i h).outputs = { s.outputs with pulls := s.outputs.pulls + 1 } :=
  issuePull_outputs (s := { s.modProfile (s.setup i).config.profileId _ with optics := _ }) hr

theorem latch_flags {s : State} {r : Roll} (i : Fin 8) (h : Header) (hr : s.transport.roll = some r) (k : Nat) :
    (latch s i h).events.flags.getLsbD k = (s.events.flags.getLsbD k || (decide (k = 10) && decide (r.remaining - 1 = r.lowMark)) ||
      (decide (k = 11) && decide (r.remaining - 1 = 0))) :=
  issuePull_flags (s := { s.modProfile (s.setup i).config.profileId _ with optics := _ }) hr k

theorem latch_chan (s : State) (i : Fin 8) (h : Header) (c : Chan) : (latch s i h).chan c = (s.chan c).atLatch := by
  simp [latch, State.chan]

theorem latch_frame {s : State} {i : Fin 8} {h : Header} {p : Profile} {a : Calibration} {n m : Nat}
    (hp : s.profile (s.setup i).config.profileId = some p) (ha : p.activeCal = some a) (hn : a.revision = some n)
    (hm : s.optics.cur.revision = some m) :
    (latch s i h).frame = { s.frame with
      state := .seating, slot := some i, tag := some h.tag, result := none, cause := none
      latched := some ⟨(s.setup i).config.profileId, n, m, p.state = .stale, 0, 0, 0, 0⟩
      startTimer := 0, margin := .no, stride := 0, lineWait := 0, endSeen := false } := by
  simp [latch, hp, ha, hn, hm, Bool.beq_eq_decide_eq]

/-- Settles O27: a header that passes is latched, field by field. -/
theorem headerIsLatched : Obligations.HeaderIsLatched := by
  intro s h i p a n m r hwait hflight hbusy hfail hslot hlow hcause hp ha hn hm hr
  have hexec : exec .headerTaken s = .next (latch { s with port := s.port.accept h (s.setup i).config.format } i h) := by
    show execHeaderTaken s = _
    rw [← takeHeader_latch hslot hlow hcause]
    simp [execHeaderTaken, hwait, State.free?, hflight, hbusy, hfail]
  have hid := (State.profile_some hp).2
  have hlook (j : Nat) : (latch { s with port := s.port.accept h (s.setup i).config.format } i h).profile j =
      if j = (s.setup i).config.profileId then (s.profile j).map fun q => { q with pinned := q.active } else s.profile j := by
    rw [State.profile_eq, latch_profiles]
    exact lookup_modProfile _ _ _ (fun _ => rfl)
  refine ⟨_, hexec, latch_frame hp ha hn hm, ?_, fun j hj => ?_, latch_optics _ i h, latch_transport i h hr, latch_outputs i h hr,
    latch_flags i h hr, latch_chan _ i h, ?_, latch_setups _ i h, ?_, ?_, ?_, ?_, ?_, ?_, ?_, ?_⟩
  · rw [hlook, if_pos hid, hid, hp, ← hid]; rfl
  · rw [hlook, if_neg fun e => hj (e.trans hid.symm)]
  all_goals simp [latch, Port.accept]

end Sys2Proof.Machine
end

section
/-! A line's completion and an EXPOSED settlement (R44, R90, R92), and the REFCLK periods up to it. -/

namespace Sys2Proof.Machine

-- one theorem after another, as in the tests: a checker's memory limit leaves no room for many threads at once
set_option Elab.async false

open Sys2Proof

/-! ## The line being exposed under a tick -/

/-- The line being exposed stays or ends, and the periods counted since the latest FACET stay. -/
structure LineKept (s t : State) : Prop where
  line : t.line = s.line ∨ t.line = none
  count : t.engine.periodCount = s.engine.periodCount

theorem LineKept.trans {s t u : State} (h : LineKept s t) (h' : LineKept t u) : LineKept s u where
  line := by
    rcases h'.line with e | e
    · rw [e]; exact h.line
    · exact .inr e
  count := h'.count.trans h.count

theorem LineKept.same {s t : State} (line : t.line = s.line := by simp) (count : t.engine.periodCount = s.engine.periodCount := by simp) :
    LineKept s t := ⟨.inl line, count⟩

theorem LineKept.refl (s : State) : LineKept s s := .same rfl rfl

/-- A change that begins from the state with other fields than the line and the period count. -/
theorem LineKept.after {s m t : State} (h : LineKept m t) (line : m.line = s.line := by rfl)
    (count : m.engine.periodCount = s.engine.periodCount := by rfl) : LineKept s t := .trans (.same line count) h

theorem LineKept.ite {s t u : State} (c : Prop) [Decidable c] (ht : c → LineKept s t) (hu : ¬c → LineKept s u) :
    LineKept s (if c then t else u) := by
  split
  · exact ht ‹_›
  · exact hu ‹_›

theorem setChan_lineKept (s : State) (c : Chan) (x : Channel) : LineKept s (s.setChan c x) := .same rfl rfl

theorem raise_lineKept (s : State) (e : Event) : LineKept s (s.raise e) := .same rfl rfl

theorem endWindow_lineKept (s : State) : LineKept s (endWindow s) := .same

theorem dropSample_engine (s : State) (c : Chan) :
    (dropSample s c).engine = { s.engine with window := (dropSample s c).engine.window } := by
  unfold dropSample
  simp only [State.setDrive_engine]
  split
  · split
    · split <;> simp
    · rfl
  · rfl

theorem dropSample_lineKept (s : State) (c : Chan) : LineKept s (dropSample s c) := .same (by simp) (by rw [dropSample_engine])

theorem spoil_lineKept (s : State) (c : Cause) : LineKept s (spoil s c) := by
  cases h : s.inFlight with
  | false => rw [spoil_of_idle h]; exact .refl s
  | true => exact ⟨.inr (spoil_line h), by rw [spoil_engine h]⟩

theorem enterBiased_lineKept (s : State) (c : Chan) : LineKept s (enterBiased s c) := (dropSample_lineKept _ c).after

theorem enterFault_lineKept (s : State) (c : Chan) (x : FaultCause) : LineKept s (enterFault s c x) :=
  (setChan_lineKept s c _).trans ((dropSample_lineKept _ c).trans ((raise_lineKept _ _).trans (spoil_lineKept _ _)))

theorem leaveLocked_lineKept (s : State) (next : EngineState) : LineKept s (leaveLocked s next) := by
  let r := State.raise { s with engine := { s.engine with state := next, good := 0 } } .lockLost
  have hspoil : LineKept s (if r.frame.state = .exposing then spoil r .sync else r) :=
    .ite _ (fun _ => (spoil_lineKept r .sync).after) fun _ => .same rfl rfl
  exact hspoil.trans (endWindow_lineKept _).after

theorem stallEngine_lineKept (s : State) : LineKept s (stallEngine s) := by
  unfold stallEngine
  split
  · exact .refl s
  · exact .same rfl rfl
  · exact (leaveLocked_lineKept _ _).after

theorem biasIfReady_lineKept (s : State) (c : Chan) : LineKept s (biasIfReady s c) :=
  .ite _ (fun _ => enterBiased_lineKept s c) fun _ => .refl s

theorem autoBias_lineKept (s : State) : LineKept s (autoBias s) :=
  (((biasIfReady_lineKept _ .red).trans (biasIfReady_lineKept _ .grn)).trans (biasIfReady_lineKept _ .blu)).after

theorem idleTick_lineKept (s : State) : LineKept s (idleTick s) :=
  .ite _ (fun _ => .ite _ (fun _ => (autoBias_lineKept _).after) fun _ => .same rfl rfl) fun _ => .refl s

theorem startTick_lineKept (s : State) : LineKept s (startTick s) :=
  .ite _ (fun _ => .ite _ (fun _ => .ite _ (fun _ => spoil_lineKept s _) fun _ => .refl s) fun _ => .same rfl rfl) fun _ => .refl s

theorem lineWaitTick_lineKept (s : State) : LineKept s (lineWaitTick s) :=
  .ite _ (fun _ => .ite _ (fun _ => .ite _ (fun _ => spoil_lineKept s _) fun _ => .refl s) fun _ => .same rfl rfl) fun _ => .refl s

theorem facetTick_lineKept (s : State) : LineKept s (facetTick s) := by
  unfold facetTick
  split
  · exact .refl s
  · exact .ite _ (fun _ => stallEngine_lineKept s) fun _ => .same rfl rfl

theorem warmTick_lineKept (s : State) (c : Chan) : LineKept s (warmTick s c) :=
  .ite _ (fun _ => .ite _ (fun _ => .ite _ (fun _ => enterFault_lineKept s c _) fun _ => .refl s) fun _ => .same rfl rfl) fun _ => .refl s

theorem pullTimeoutPassed_lineKept (s : State) : LineKept s (pullTimeoutPassed s) := by
  unfold pullTimeoutPassed
  split
  · exact .same rfl rfl
  · exact .refl s

theorem pullTick_lineKept (s : State) : LineKept s (pullTick s) := by
  unfold pullTick
  split
  · exact .ite _ (fun _ => pullTimeoutPassed_lineKept s) fun _ => .same rfl rfl
  · exact .refl s

theorem imageTick_lineKept (s : State) : LineKept s (imageTick s) := by
  refine .ite _ (fun _ => .ite _ (fun _ => ?_) fun _ => .same rfl rfl) fun _ => .refl s
  unfold failSave
  split
  · exact .refl s
  · rw [failFlash_eq]; exact .same rfl rfl

/-- A tick ends the line being exposed or leaves it, and counts no period. -/
theorem tick_lineKept (s : State) : LineKept s (tick s) := by
  have hframe := (((idleTick_lineKept s).trans (startTick_lineKept _)).trans (lineWaitTick_lineKept _)).trans (facetTick_lineKept _)
  have hwarm := ((hframe.trans (warmTick_lineKept _ .red)).trans (warmTick_lineKept _ .grn)).trans (warmTick_lineKept _ .blu)
  exact (hwarm.trans (pullTick_lineKept _)).trans (imageTick_lineKept _)

theorem tickIfDue_lineKept (s : State) : LineKept s (tickIfDue s) :=
  .ite _ (fun _ => (tick_lineKept _).after) fun _ => .refl s

theorem openIfDue_lineKept (s : State) : LineKept s (openIfDue s) := by
  refine .ite _ (fun _ => ?_) fun _ => .refl s
  unfold openScheduled
  split
  · exact .ite _ (fun _ => .same) fun _ => .same rfl rfl
  · exact .refl s

/-! ## The periods up to the line's end -/

theorem pass_zero (s : State) : pass 0 s = countPeriods s 0 := rfl

/-- No period counted changes nothing in a period count that is within its bound. -/
theorem countPeriods_zero {s : State} (h : s.engine.periodCount ≤ Config.maxPeriod) : countPeriods s 0 = s := by
  have hcount : min Config.maxPeriod s.engine.periodCount = s.engine.periodCount := Nat.min_eq_right h
  rw [countPeriods_eq]
  simp [hcount]

/-- Counted as often as it saturates, the period count is as far from a moment. -/
theorem Engine.periodsTo_saturated (s : State) (t : Nat) : (countPeriods s 0).engine.periodsTo t = s.engine.periodsTo t := by
  simp only [Engine.periodsTo, countPeriods_periodCount]
  omega

section LineEnd

variable {s : State} {x : LineContext} (hline : s.line = some x)

include hline

theorem toLineEnd_line : s.toLineEnd = some (s.engine.periodsTo x.ends) := by rw [State.toLineEnd, hline]; rfl

theorem execLineComplete_line : exec .lineComplete s = .next (pass (s.engine.periodsTo x.ends) s) := by
  show execLineComplete s = _
  rw [execLineComplete, toLineEnd_line hline]

/-- While a line is exposed no window opens: the next event is the tick or the line's end (log entry 14). -/
theorem toEvent_line : s.toEvent = min s.engine.toTick (s.engine.periodsTo x.ends) := by
  have hwait : s.windowWaits = false := by
    unfold State.windowWaits
    split <;> simp [hline]
  simp [State.toEvent, toLineEnd_line hline, State.toWindow, hwait, Nat.min_comm]

/-- Up to the moment of a line's end, a tick that leaves the line comes strictly before that moment. -/
theorem tick_before_lineEnd (hle : s.engine.toTick ≤ s.engine.periodsTo x.ends) (hkept : (pass s.engine.toTick s).line = s.line) :
    s.engine.toTick < s.engine.periodsTo x.ends ∧
      (pass s.engine.toTick s).engine.periodsTo x.ends = s.engine.periodsTo x.ends - s.engine.toTick := by
  have hevent : s.toEvent = s.engine.toTick := by rw [toEvent_line hline]; omega
  have hpass : pass s.engine.toTick s = countPeriods (periodEvents (countPeriods s s.engine.toTick)) 0 := by
    rw [pass_event (Nat.le_of_eq hevent), hevent, Nat.sub_self, pass_zero]
  have hcounted : (countPeriods s s.engine.toTick).line = some x := hline
  by_cases hdue : s.engine.toTick < s.engine.periodsTo x.ends
  · have hreach : (countPeriods s s.engine.toTick).engine.reached x.ends = false := by
      simp only [Engine.periodsTo, Engine.reached, countPeriods_periodCount] at hdue ⊢
      have := s.engine.toTick_pos
      exact decide_eq_false (by omega)
    have hcomplete : completeIfDue (countPeriods s s.engine.toTick) = countPeriods s s.engine.toTick := by
      simp [completeIfDue, hcounted, hreach]
    have hcount : (periodEvents (countPeriods s s.engine.toTick)).engine.periodCount = (countPeriods s s.engine.toTick).engine.periodCount := by
      rw [periodEvents, hcomplete]
      exact ((openIfDue_lineKept _).trans (tickIfDue_lineKept _)).count
    refine ⟨hdue, ?_⟩
    rw [hpass, Engine.periodsTo_saturated, Engine.periodsTo, hcount, ← Engine.periodsTo, Engine.periodsTo_count _ hdue]
  · have hreach : (countPeriods s s.engine.toTick).engine.reached x.ends = true := by
      simp only [Engine.periodsTo, Engine.reached, countPeriods_periodCount] at hdue ⊢
      exact decide_eq_true (by omega)
    have hdone : (completeIfDue (countPeriods s s.engine.toTick)).line = none := by
      simp only [completeIfDue, hcounted, hreach, if_true, completeLine]
      split <;> split <;> simp [endLine]
    have hnone : (pass s.engine.toTick s).line = none := by
      rw [hpass]
      rcases ((openIfDue_lineKept _).trans (tickIfDue_lineKept _)).line with e | e
      · exact e.trans hdone
      · exact e
    rw [hkept, hline] at hnone
    cases hnone

/-- A line's end that no tick and no window's opening comes before: the periods are counted and the line is complete (R44, R125). -/
theorem lineComplete_alone (htick : s.engine.periodsTo x.ends < s.engine.toTick)
    (hspan : ∀ k line, s.engine.window = .scheduled k line → s.engine.periodsTo x.ends < s.engine.periodsTo s.engine.config.scanSpan) :
    exec .lineComplete s = .next (completeLine (countPeriods s (s.engine.periodsTo x.ends)) x) := by
  have hpos := s.engine.periodsTo_pos x.ends
  have hevent : s.toEvent = s.engine.periodsTo x.ends := by rw [toEvent_line hline]; omega
  generalize hn : s.engine.periodsTo x.ends = n at *
  have hreach : (countPeriods s n).engine.reached x.ends = true := by
    simp only [Engine.periodsTo, Engine.reached, countPeriods_periodCount] at hn ⊢
    exact decide_eq_true (by omega)
  have hcomplete : completeIfDue (countPeriods s n) = completeLine (countPeriods s n) x := by
    have hcounted : (countPeriods s n).line = some x := hline
    simp [completeIfDue, hcounted, hreach]
  have hengine : (completeLine (countPeriods s n) x).engine = (countPeriods s n).engine := by
    simp only [completeLine]
    split <;> split <;> simp [endLine]
  have hopen : openIfDue (completeLine (countPeriods s n) x) = completeLine (countPeriods s n) x := by
    refine if_neg ?_
    rw [Bool.and_eq_true, hengine]
    rintro ⟨hwaits, hreached⟩
    unfold State.windowWaits at hwaits
    rw [hengine] at hwaits
    split at hwaits
    · next k line hw =>
      have hbefore := hspan k line hw
      have hspent : min Config.maxPeriod s.engine.config.scanSpan ≤ min Config.maxPeriod (s.engine.periodCount + n) := of_decide_eq_true hreached
      simp only [Engine.periodsTo] at hbefore
      omega
    · cases hwaits
  have htick' : tickIfDue (completeLine (countPeriods s n) x) = completeLine (countPeriods s n) x := by
    refine if_neg ?_
    rw [hengine]
    have hconfig : (countPeriods s n).engine.config = s.engine.config := rfl
    rw [hconfig, countPeriods_msCount]
    simp only [Engine.toTick] at htick
    omega
  rw [execLineComplete_line hline, hn, pass_event (Nat.le_of_eq hevent), hevent, Nat.sub_self, pass_zero, periodEvents, hcomplete, hopen,
    htick', countPeriods_zero]
  rw [hengine]
  exact Nat.min_le_left ..

end LineEnd

/-! ## The pins of a settlement -/

/-- An EXPOSED settlement turns the profile STALE (R24): its pinned bank is still active, and its count reaches a non-zero life. -/
def Profile.reachesLife (p : Profile) : Prop :=
  p.pinned = p.active ∧ p.state = .active ∧ ∃ a, p.activeCal = some a ∧ a.life ≠ 0 ∧ a.life ≤ min 65535 (p.frames + 1)

theorem life_iff (p : Profile) (n : Nat) :
    (((p.activeCal.map Calibration.life).getD 0) ≠ 0 ∧ ((p.activeCal.map Calibration.life).getD 0) ≤ n) ↔
      ∃ a, p.activeCal = some a ∧ a.life ≠ 0 ∧ a.life ≤ n := by
  cases p.activeCal <;> simp

theorem age_other {p : Profile} (h : p.pinned ≠ p.active) : p.age = p := if_neg h

theorem age_reaches {p : Profile} (h : p.reachesLife) : p.age = { p with frames := min 65535 (p.frames + 1), state := .stale } := by
  obtain ⟨hpin, hactive, hlife⟩ := h
  have hreached := (life_iff p _).2 hlife
  rw [Profile.age, if_pos hpin]
  exact congrArg (fun st => ({ p with frames := min 65535 (p.frames + 1), state := st } : Profile)) (if_pos ⟨hactive, hreached⟩)

theorem age_counts {p : Profile} (hpin : p.pinned = p.active) (h : ¬p.reachesLife) :
    p.age = { p with frames := min 65535 (p.frames + 1) } := by
  rw [Profile.age, if_pos hpin]
  exact congrArg (fun st => ({ p with frames := min 65535 (p.frames + 1), state := st } : Profile))
    (if_neg fun ⟨hactive, hreached⟩ => h ⟨hpin, hactive, (life_iff p _).1 hreached⟩)

theorem turnsStale_iff (p : Profile) : p.turnsStale = true ↔ p.reachesLife := by
  simp only [Profile.turnsStale, Bool.and_eq_true, beq_iff_eq]
  constructor
  · rintro ⟨hactive, hstale⟩
    by_contra hno
    by_cases hpin : p.pinned = p.active
    · rw [age_counts hpin hno, hactive] at hstale
      cases hstale
    · rw [age_other hpin, hactive] at hstale
      cases hstale
  · intro h
    exact ⟨h.2.1, by rw [age_reaches h]⟩

/-- PROFILE_STALE is raised where the settlement turns the profile STALE (R24); no other flag changes as the pins are returned. -/
theorem returnPins_flags {s : State} {l : Latched} {p : Profile} (hl : s.frame.latched = some l) (hp : s.profile l.profileId = some p) (k : Nat) :
    (returnPins s true).events.flags.getLsbD k =
      (s.events.flags.getLsbD k || (decide (k = Event.profileStale.bit) && p.turnsStale)) := by
  have hp' : State.profile { s with optics := { s.optics with pinned := none } } l.profileId = some p := hp
  simp only [returnPins, hl, hp']
  cases h : p.turnsStale <;> simp [h, raise_flag]

/-! ## The charge -/

theorem chargeFrame_some {s : State} {i : Fin 8} {tag : Word32} {l : Latched} (hi : s.frame.slot = some i) (ht : s.frame.tag = some tag)
    (hl : s.frame.latched = some l) (r : Result) (c : Option Cause) :
    chargeFrame s r c = s.setSetup i ((s.setup i).charge (l.report tag r c)) := by
  simp [chargeFrame, hi, ht, hl]

/-! ## The settlement -/

theorem settle_frame (s : State) : (settle s).frame = { s.frame with
    state := if s.frame.endSeen then .idle else .draining, result := some .exposed, cause := none, endSeen := false } := by
  simp [settle, leaveFlight]

theorem settle_profiles (s : State) : (settle s).profiles = (returnPins s true).profiles := by simp [settle]

theorem settle_optics (s : State) : (settle s).optics = { s.optics with pinned := none } := by simp [settle]

theorem settle_port (s : State) : (settle s).port = { s.port with buf0 := .cleared, buf1 := .cleared, settled := true } := by
  simp [settle, Port.flush]

theorem settle_idle (s : State) : (settle s).idle = { s.idle with seconds := 0, millis := 0 } := by simp [settle, leaveFlight]

section Settle

variable {s : State} {l : Latched} (hl : s.frame.latched = some l)

include hl

theorem settle_setup {i : Fin 8} {tag : Word32} (hi : s.frame.slot = some i) (ht : s.frame.tag = some tag) (j : Fin 8) :
    (settle s).setup j = if j = i then (s.setup i).charge (l.report tag .exposed none) else s.setup j := by
  have hcharge : (settle s).setups = (chargeFrame (returnPins s true) .exposed none).setups := by simp [settle]
  have hsetup (k : Fin 8) : (returnPins s true).setup k = s.setup k := by simp [State.setup]
  rw [State.setup, hcharge, chargeFrame_some (by simpa using hi) (by simpa using ht) (by simpa using hl), ← State.setup,
    State.setSetup_setup, hsetup, hsetup]

theorem settle_flags {p : Profile} (hp : s.profile l.profileId = some p) (k : Nat) : (settle s).events.flags.getLsbD k =
    (s.events.flags.getLsbD k || (decide (k = Event.profileStale.bit) && p.turnsStale) || decide (k = Event.frameDone.bit)) := by
  have hevents : (settle s).events = (returnPins s true).events.raise .frameDone := by simp [settle]
  rw [hevents, raise_flag, returnPins_flags hl hp]

theorem settle_profile (j : Nat) : (settle s).profile j = lookup (returnProfilePin s.profiles l.profileId true) j := by
  rw [State.profile_eq, settle_profiles, returnPins_profiles, hl]

end Settle

/-! ## The line that is complete -/

/-- The frame's record of a line complete (R44, R90): one line more, and its clamps. -/
def Latched.lineDone (l : Latched) (s : State) (x : LineContext) : Latched :=
  { l with
    lines := l.lines + 1
    low := min 4294967295 (l.low + (x.low + (lineCounts s x).1))
    high := min 4294967295 (l.high + (x.high + (lineCounts s x).2)) }

section EndLine

variable {s : State} {l : Latched} {i : Fin 8} (hl : s.frame.latched = some l) (hi : s.frame.slot = some i) (hlines : l.lines < 8192)

include hl hi hlines

theorem endLine_eq (x : LineContext) : endLine s x = { s with
    line := none
    drives := ⟨.off, .off, .off⟩
    port := s.port.setBuf x.buffer ⟨.empty, 0, []⟩
    frame := { s.frame with latched := some (l.lineDone s x), pendingGroup := some (s.setup i).config.stepsPerLine } } := by
  have hcount : l.countLine (driveLine s x) = l.lineDone s x := by
    have hlines : min Config.maxLines (l.lines + 1) = l.lines + 1 := Nat.min_eq_right hlines
    simp only [Latched.countLine, driveLine, satAdd, hlines]
    rfl
  simp only [endLine, hl, State.frameSetup, hi, Option.map_some, hcount]
  rfl

theorem frameComplete_endLine (x : LineContext) :
    frameComplete (endLine s x) = decide (l.lines + 1 = (s.setup i).config.y1 - (s.setup i).config.y0 + 1) := by
  rw [endLine_eq hl hi hlines]
  simp only [frameComplete, State.frameSetup, hi, Option.map_some]
  rfl

end EndLine

/-- The line complete, where its window has not yet passed: the line ends, and the frame settles where it was window line y1. -/
theorem completeLine_carries {s : State} (h : s.engine.window.carriesLine = true) (x : LineContext) :
    completeLine s x = if frameComplete (endLine s x) then settle (endLine s x) else endLine s x := by
  simp only [completeLine]
  rw [if_pos]
  split
  · simpa [endLine] using h
  · exact h

/-! ## LINE_COMPLETE -/

/-- LINE_COMPLETE of a line that no tick and no window's opening comes before: its end, and the settlement at window line y1. -/
theorem lineComplete_counts {s : State} {x : LineContext} {l : Latched} {i : Fin 8} (hline : s.line = some x)
    (hl : s.frame.latched = some l) (hi : s.frame.slot = some i) (hlines : l.lines < 8192)
    (htick : s.engine.periodsTo x.ends < s.engine.toTick)
    (hspan : ∀ k line, s.engine.window = .scheduled k line → s.engine.periodsTo x.ends < s.engine.periodsTo s.engine.config.scanSpan)
    (hcarries : s.engine.window.carriesLine = true) :
    exec .lineComplete s = .next (if l.lines + 1 = (s.setup i).config.y1 - (s.setup i).config.y0 + 1
      then settle (endLine (countPeriods s (s.engine.periodsTo x.ends)) x) else endLine (countPeriods s (s.engine.periodsTo x.ends)) x) := by
  rw [lineComplete_alone hline htick hspan, completeLine_carries (s := countPeriods s _) hcarries,
    frameComplete_endLine (s := countPeriods s _) hl hi hlines]
  simp only [decide_eq_true_eq]
  rfl

/-- The pins that a completed frame returns (R18, R23, R24), record by record. -/
theorem settle_pinned {s : State} {l : Latched} {p : Profile} (hs : idsAscend s.profiles) (hl : s.frame.latched = some l)
    (hp : s.profile l.profileId = some p) :
    (p.state = .retiring → (settle s).profile l.profileId = none) ∧
      (p.state ≠ .retiring → (settle s).profile l.profileId = some { p.age with pinned := none }) :=
  ⟨fun h => (settle_profile hl _).trans (lookup_returnProfilePin_retiring hs hp h true),
    fun h => (settle_profile hl _).trans (lookup_returnProfilePin_some hs hp h true)⟩

/-- Settles O29: the periods up to the line's end are passed as they are counted, and the line complete is `endLine`, with `settle` at window
line y1. -/
theorem linesCompleteAndSettleTheFrame : Obligations.LinesCompleteAndSettleTheFrame := by
  refine ⟨fun s hnone => ?_, fun s t x hline => ⟨fun htick => ?_, fun hle ht hkept => ?_⟩, fun s x l i hline hl hi => ?_,
    fun s x l i tag p hs hline hl hi htag hp hlines => ?_⟩
  · show execLineComplete s = _
    rw [execLineComplete, State.toLineEnd, hnone]; rfl
  · rw [execLineComplete_line hline]
    exact congrArg (fun n => Host.Outcome.next (pass n s)) htick.symm
  · obtain rfl : pass s.engine.toTick s = t := by injection ht
    obtain ⟨hlt, hrest⟩ := tick_before_lineEnd hline hle hkept
    rw [execLineComplete_line hline, execLineComplete_line (hkept.trans hline), hrest, ← pass_add, Nat.add_sub_of_le hlt.le]
  · intro n htick hspan hlines hmore hcarries
    rw [lineComplete_counts hline hl hi hlines htick hspan hcarries, if_neg hmore, endLine_eq (s := countPeriods s _) hl hi hlines]
    rfl
  · intro n htick hspan hlast hcarries low high frames turns
    have hend := endLine_eq (s := countPeriods s n) hl hi hlines x
    have hexec : exec .lineComplete s = .next (settle (endLine (countPeriods s n) x)) :=
      (lineComplete_counts hline hl hi hlines htick hspan hcarries).trans (congrArg _ (if_pos hlast))
    have hlatched : (endLine (countPeriods s n) x).frame.latched = some (l.lineDone (countPeriods s n) x) := by rw [hend]
    have hprofile : (endLine (countPeriods s n) x).profile (l.lineDone (countPeriods s n) x).profileId = some p := hp
    have hslot : (endLine (countPeriods s n) x).frame.slot = some i := hi
    have htag : (endLine (countPeriods s n) x).frame.tag = some tag := htag
    have hsetup := settle_setup hlatched hslot htag
    have hflags := settle_flags hlatched hprofile
    obtain ⟨hfreed, hunpinned⟩ := settle_pinned (s := endLine (countPeriods s n) x) hs.table.ascend hlatched hprofile
    have hturns : p.turnsStale = @decide turns (Classical.dec _) := by
      rw [Bool.eq_iff_iff, turnsStale_iff]
      exact (@decide_eq_true_iff turns (Classical.dec _)).symm
    refine ⟨_, hexec, ?_, ?_, ?_, ?_, ?_, ?_, fun j hj => ?_, ?_, fun j hj => ?_, hfreed, fun hr hne => ?_, fun hr heq => ⟨fun h => ?_, fun h => ?_⟩,
      ?_, ?_, ?_, ?_, ?_, ?_, ?_, ?_, ?_, ?_, ?_, ?_⟩
    · rw [settle_frame, hend]; rfl
    · rw [settle_frame]
    · rw [settle_frame]
    · rw [settle_frame]; exact hlatched
    · rw [settle_frame, hend]; rfl
    · rw [hsetup, if_pos rfl]; rfl
    · rw [hsetup, if_neg hj]; rfl
    · rw [settle_optics]; rfl
    · exact (settle_profile hlatched j).trans (lookup_returnProfilePin_ne hj true)
    · rw [← age_other hne]; exact hunpinned hr
    · have hage := hunpinned hr
      rw [age_reaches h] at hage
      exact hage
    · have hage := hunpinned hr
      rw [age_counts heq h] at hage
      exact hage
    · rw [hflags]; simp [Event.bit]
    · rw [hflags, ← hturns]; simp [Event.bit]; rfl
    · rw [settle_port]; rfl
    · rw [settle_port]; rfl
    · rw [settle_port]
    · rw [settle_port, hend]
      simp only [Port.setBuf]
      split <;> rfl
    · rw [settle_line]; rfl
    · rw [settle_drives]; rfl
    · rw [settle_engine]; rfl
    · rw [settle_chans]; rfl
    · rw [settle_transport]; rfl
    · rw [settle_idle]; rfl

end Sys2Proof.Machine
end

section
/-! The load set placed (R182): which flags the end of a window leaves set, a change of F without a frame in flight, and each part of the
placing. -/

namespace Sys2Proof.Machine

-- one theorem after another, as in the tests: a checker's memory limit leaves no room for many threads at once
set_option Elab.async false

open Sys2Proof

/-! ## Flags under pulls, groups and the end of a window -/

theorem issuePull_flagsKept (s : State) : FlagsKept s.events (issuePull s).events := by
  cases h : s.transport.roll with
  | none => rw [issuePull_none h]; exact .refl _
  | some r => intro k hk; rw [issuePull_flags h, hk]; rfl

theorem advancePull_flagsKept (s : State) : FlagsKept s.events (advancePull s).events := by
  unfold advancePull
  split
  · exact .refl _
  · exact issuePull_flagsKept s

theorem groupEnded_flagsKept (s : State) (k : GroupKind) : FlagsKept s.events (groupEnded s k).events := by
  unfold groupEnded
  rcases resumeAdvance_cases { s with frame := groupNotice s.frame k } with h | ⟨n, l, -, h⟩
  · rw [h]; exact .refl _
  · rw [h]; exact advancePull_flagsKept { s with frame := groupNotice s.frame k }

theorem beginGroup_flagsKept (s : State) (k : GroupKind) (n : Nat) : FlagsKept s.events (beginGroup s k n).events := by
  unfold beginGroup
  split
  · exact groupEnded_flagsKept s k
  · exact .refl _

theorem windowPassed_flagsKept (s : State) : FlagsKept s.events (windowPassed s).events := by
  unfold windowPassed
  split
  · exact .refl _
  · exact beginGroup_flagsKept { s with frame := { s.frame with pendingGroup := none } } .line _

/-- The end of a window clears no flag. -/
theorem endWindow_flagsKept (s : State) : FlagsKept s.events (endWindow s).events := by
  unfold endWindow
  split
  · exact .refl _
  · dsimp only
    split
    · exact windowPassed_flagsKept { s with engine := { s.engine with window := .none } }
    · exact .refl _
  · dsimp only
    split
    · exact windowPassed_flagsKept { s with engine := { s.engine with window := .none }, drives := _ }
    · exact .refl _

/-! ## A change of F without a frame in flight -/

section FacetsChanged

variable {s : State}

theorem facetsChanged_locked (hidle : s.inFlight = false) (h : s.engine.state = .locked) :
    (facetsChanged s).engine = { s.engine with state := .acquiring, good := 0, window := .none } ∧
      (facetsChanged s).events.flags.getLsbD Event.lockLost.bit = true := by
  simp only [facetsChanged, h]
  rw [leaveLocked_idle hidle]
  refine ⟨by simp, endWindow_flagsKept _ _ ?_⟩
  rw [State.drivesOff_events, State.raise_events, raise_flag]
  simp

theorem facetsChanged_acquiring (h : s.engine.state = .acquiring) : facetsChanged s = { s with engine := { s.engine with good := 0 } } := by
  simp only [facetsChanged, h]

theorem facetsChanged_stopped (h : s.engine.state = .stopped) : facetsChanged s = s := by simp only [facetsChanged, h]

end FacetsChanged

/-! ## The optics record placed -/

/-- A good optics record in bank A, before a change of F is told to the engine (R182). -/
def State.setOptics (s : State) (c : Corrections) : State :=
  { s with optics := ⟨.a, c, none, false, none⟩, image := { s.image with opticsLoaded := true } }

@[simp] theorem placeOptics_chans (s : State) (o : Option Corrections) : (placeOptics s o).chans = s.chans := by
  cases o with
  | none => rfl
  | some c => simp only [placeOptics]; split <;> simp

@[simp] theorem placeOptics_image (s : State) (o : Option Corrections) :
    (placeOptics s o).image = { s.image with opticsLoaded := s.image.opticsLoaded || o.isSome } := by
  cases o with
  | none => simp [placeOptics]
  | some c => simp only [placeOptics]; split <;> simp

theorem placeOptics_optics {s : State} (hidle : s.inFlight = false) (c : Corrections) :
    (placeOptics s (some c)).optics = ⟨.a, c, none, false, none⟩ := by
  simp only [placeOptics]
  split
  · exact (facetsChanged_idle (s := s.setOptics c) hidle).2.2.2
  · rfl

theorem placeOptics_same {s : State} {c : Corrections} (h : c.facets = s.optics.cur.facets) : (placeOptics s (some c)).engine = s.engine := by
  simp [placeOptics, h]

/-- A set with another F is told to the engine (R59). -/
theorem placeOptics_changed {s : State} {c : Corrections} (h : c.facets ≠ s.optics.cur.facets) :
    placeOptics s (some c) = facetsChanged (s.setOptics c) :=
  if_pos (bne_iff_ne.2 h)

/-! ## The channel record placed -/

theorem setReference_eq (x : Channel) (v : Nat) : x.setReference v =
    let kept := { x with ref := v, capture := false, lastCapture := if x.capture then .dropped else x.lastCapture }
    if x.state = .warming then { kept with stableRun := 0, first := true } else kept := by
  have hdrop : x.dropCapture = { x with capture := false, lastCapture := if x.capture then .dropped else x.lastCapture } := by
    unfold Channel.dropCapture
    split
    · rfl
    · next h => rw [Bool.not_eq_true] at h; rw [← h]
  simp only [Channel.setReference, hdrop]

theorem placeChannels_chan (s : State) (r : Rgb Nat) (c : Chan) :
    (placeChannels s (some r)).chan c = (s.chan c).setReference (r.get c) := by cases c <;> rfl

theorem placeChannels_image (s : State) (refs : Option (Rgb Nat)) :
    (placeChannels s refs).image = { s.image with channelsLoaded := s.image.channelsLoaded || refs.isSome } := by
  cases refs <;> simp [placeChannels]

/-! ## The load set placed -/

/-- The load set's profiles inserted, before its optics and its references are placed. -/
def State.fill (s : State) (set : LoadSet) : State := { s with profiles := set.profiles.foldl (fun t p => insertProfile p t) s.profiles }

section Placed

variable (s : State) (set : LoadSet)

theorem placeLoadSet_eq : placeLoadSet s set =
    (State.modImage (placeChannels (placeOptics (s.fill set) set.optics) set.channels)
      fun m => { m with state := .idle, last := .loaded, failed := none, load := none }).raise .imageDone := rfl

theorem placeLoadSet_engine : (placeLoadSet s set).engine = (placeOptics (s.fill set) set.optics).engine := by
  rw [placeLoadSet_eq, placeChannels_eq]; rfl

theorem placeLoadSet_optics : (placeLoadSet s set).optics = (placeOptics (s.fill set) set.optics).optics := by
  rw [placeLoadSet_eq, placeChannels_eq]; rfl

theorem placeLoadSet_chans : (placeLoadSet s set).chans = (placeChannels (placeOptics (s.fill set) set.optics) set.channels).chans := rfl

theorem placeLoadSet_image : (placeLoadSet s set).image = { s.image with
    state := .idle, last := .loaded, failed := none, load := none
    opticsLoaded := s.image.opticsLoaded || set.optics.isSome, channelsLoaded := s.image.channelsLoaded || set.channels.isSome } := by
  simp [placeLoadSet_eq, placeChannels_image, State.fill]

theorem placeLoadSet_flag (k : Nat) : (placeLoadSet s set).events.flags.getLsbD k =
    ((placeOptics (s.fill set) set.optics).events.flags.getLsbD k || decide (k = Event.imageDone.bit)) := by
  rw [placeLoadSet_eq, State.raise_events, raise_flag, State.modImage_events, placeChannels_eq]

end Placed

/-- Settles O60: the record read is `placeLoadSet`, part by part. -/
theorem loadSetIsPlaced : Obligations.LoadSetIsPlaced := by
  intro s l hs hl hstep refs
  obtain ⟨-, hidle, hnil, -⟩ := hs.image.load l hl
  let set : LoadSet := { l.set with channels := refs }
  have hexec : exec .imageRecordRead s = .next (placeLoadSet s set) := by
    show execImageRecordRead s = _
    simp only [execImageRecordRead, hl, hstep]
    rfl
  have hsound : RecordsSound (placeLoadSet s set) := readChannelRecord_sound hs hl
  have hprofiles : (placeLoadSet s set).profiles = l.set.profiles.foldl (fun t p => insertProfile p t) [] := by
    have hplaced := (placeOptics_records (s := s.fill set) l.set.optics hidle (hs.pins.idle hidle).1).1
    rw [placeLoadSet_eq, placeChannels_eq, ← hnil]
    exact hplaced
  have hengine : (placeLoadSet s set).engine = (placeOptics (s.fill set) l.set.optics).engine := placeLoadSet_engine s set
  have hoptics : (placeLoadSet s set).optics = (placeOptics (s.fill set) l.set.optics).optics := placeLoadSet_optics s set
  have hflag := placeLoadSet_flag s set
  have himage := placeLoadSet_image s set
  refine ⟨_, hexec, fun p => ?_, hsound.table.ascend, fun hnone => ?_, fun c hc => ?_, fun hnone => ?_, fun r hr c => ?_,
    ?_, ?_, ?_, ?_, ?_, ?_, ?_⟩
  · rw [hprofiles]
    simp [mem_insertAll]
  · rw [hengine, hoptics, hnone]
    exact ⟨rfl, rfl⟩
  · rw [hc] at hengine hoptics
    refine ⟨hoptics.trans (placeOptics_optics (s := s.fill set) hidle c), fun h => hengine.trans (placeOptics_same (s := s.fill set) h),
      fun h hlocked => ?_, fun h hacq => ?_, fun h hstop => ?_⟩
    · have hchanged := placeOptics_changed (s := s.fill set) h
      obtain ⟨heng, hlost⟩ := facetsChanged_locked (s := (s.fill set).setOptics c) hidle hlocked
      refine ⟨hengine.trans ((congrArg State.engine hchanged).trans heng), ?_⟩
      rw [hflag, show set.optics = some c from hc, hchanged]
      exact Bool.or_eq_true_iff.2 (.inl hlost)
    · rw [hengine, placeOptics_changed (s := s.fill set) h, facetsChanged_acquiring (s := (s.fill set).setOptics c) hacq]
      rfl
    · rw [hengine, placeOptics_changed (s := s.fill set) h, facetsChanged_stopped (s := (s.fill set).setOptics c) hstop]
      rfl
  · rw [placeLoadSet_chans, show set.channels = none from hnone]
    exact placeOptics_chans _ _
  · have hchan : (placeLoadSet s set).chan c = (s.chan c).setReference (r.get c) := by
      rw [State.chan, placeLoadSet_chans, show set.channels = some r from hr, ← State.chan, placeChannels_chan, State.chan, placeOptics_chans]
      rfl
    exact hchan.trans (setReference_eq _ _)
  any_goals rw [himage]
  rw [hflag]
  simp [Event.bit]

end Sys2Proof.Machine
end

section
/-! SOFT_RESET (R173): the frame in flight spoiled, the window's notice, and what each block keeps. -/

namespace Sys2Proof.Machine

-- one theorem after another, as in the tests: a checker's memory limit leaves no room for many threads at once
set_option Elab.async false

open Sys2Proof

/-! ## The notice of a window's end, where no advance waits -/

/-- The transport once the frame cycle has been told of a window's end: a pending line group of some pulses is under way (R85, R128). -/
def Transport.noticed (t : Transport) (carries : Bool) (pending : Option Nat) : Transport :=
  match carries, pending with
  | true, some (n + 1) => { t with group := some ⟨.line, n + 1⟩ }
  | _, _ => t

theorem resumeAdvance_none {s : State} (h : s.transport.advance = none) : resumeAdvance s = s := by
  rcases resumeAdvance_cases s with e | ⟨n, l, ha, -⟩
  · exact e
  · rw [h] at ha; cases ha

theorem groupEnded_transport {s : State} (h : s.transport.advance = none) (k : GroupKind) : (groupEnded s k).transport = s.transport := by
  rw [groupEnded, resumeAdvance_none (s := { s with frame := groupNotice s.frame k }) h]

theorem windowPassed_transport {s : State} (h : s.transport.advance = none) :
    (windowPassed s).transport = s.transport.noticed true s.frame.pendingGroup := by
  unfold windowPassed
  cases s.frame.pendingGroup with
  | none => rfl
  | some n =>
    cases n with
    | zero => exact groupEnded_transport (s := { s with frame := { s.frame with pendingGroup := none } }) h .line
    | succ n => rfl

theorem endWindow_transport {s : State} (h : s.transport.advance = none) :
    (endWindow s).transport = s.transport.noticed s.engine.window.carriesLine s.frame.pendingGroup := by
  unfold endWindow
  cases s.engine.window with
  | none => rfl
  | scheduled k line =>
    cases line
    · rfl
    · exact windowPassed_transport (s := { s with engine := { s.engine with window := .none } }) h
  | opened k line toRead =>
    cases line
    · rfl
    · exact windowPassed_transport (s := { s with engine := { s.engine with window := .none }, drives := _ }) h

theorem endWindow_pendingGroup (s : State) :
    (endWindow s).frame.pendingGroup = if s.engine.window.carriesLine then none else s.frame.pendingGroup := by
  unfold endWindow
  cases s.engine.window with
  | none => rfl
  | scheduled k line =>
    cases line
    · rfl
    · exact windowPassed_pendingGroup _
  | opened k line toRead =>
    cases line
    · rfl
    · exact windowPassed_pendingGroup _

/-! ## The spoil, field by field -/

section Spoil

variable {s : State} {c : Cause} (h : s.inFlight = true)

include h

theorem spoil_transport (hadv : s.transport.advance = none) :
    (spoil s c).transport = s.transport.noticed s.engine.window.carriesLine s.frame.pendingGroup := by
  simp only [spoil, h, if_true, leaveFlight_transport, State.raise_transport, chargeFrame_transport, returnPins_transport]
  exact endWindow_transport (s := State.drivesOff { s with line := none }) hadv

theorem spoil_pendingGroup : (spoil s c).frame.pendingGroup = if s.engine.window.carriesLine then none else s.frame.pendingGroup := by
  have hframe : (spoil s c).frame.pendingGroup = (endWindow (State.drivesOff { s with line := none })).frame.pendingGroup := by
    simp [spoil, h, leaveFlight]
  rw [hframe, endWindow_pendingGroup]
  rfl

theorem spoil_port : (spoil s c).port = spoilPort s.port := by simp [spoil, h]

theorem spoil_startTimeout : (spoil s c).frame.startTimeout = s.frame.startTimeout := by
  simp [spoil, h, leaveFlight, (endWindow_kept _).startTimeout]

theorem spoil_idle : (spoil s c).idle = { s.idle with seconds := 0, millis := 0 } := by simp [spoil, h, leaveFlight]

/-- The frame in flight is charged to its setup as it stood (R76, R95). -/
theorem spoil_setup {i : Fin 8} {tag : Word32} {l : Latched} (hi : s.frame.slot = some i) (ht : s.frame.tag = some tag)
    (hl : s.frame.latched = some l) : (spoil s c).setup i = (s.setup i).charge (l.report tag .spoiled (some c)) := by
  let dark := State.drivesOff { s with line := none }
  let r := { returnPins (endWindow dark) false with port := spoilPort (returnPins (endWindow dark) false).port }
  have hkept := endWindow_kept dark
  have hframe : r.frame = (endWindow dark).frame := returnPins_frame _ _
  have hcharge : chargeFrame r .spoiled (some c) = r.setSetup i ((r.setup i).charge (l.report tag .spoiled (some c))) :=
    chargeFrame_some (by rw [hframe, hkept.slot]; exact hi) (by rw [hframe, hkept.tag]; exact ht)
      (by rw [hframe, hkept.latched]; exact hl) _ _
  have hsetup : r.setup i = s.setup i := by simp [r, dark, State.setup]
  have hspoil : (spoil s c).setups = (chargeFrame r .spoiled (some c)).setups := by simp [spoil, h, r, dark]
  rw [State.setup, hspoil, hcharge, ← State.setup, State.setSetup_setup_self, hsetup]

end Spoil

/-! ## Before the reset values -/

/-- The part with its roll advance abandoned (R162). -/
def State.advanceGone (s : State) : State := { s with transport := softTransport s.transport }

theorem softSpoiled_idle {s : State} (h : s.inFlight = false) : softSpoiled s = endWindow s.advanceGone :=
  congrArg endWindow (spoil_of_idle (s := s.advanceGone) h)

/-- The spoil ends the window: none is left to end after it. -/
theorem softSpoiled_flight {s : State} (h : s.inFlight = true) : softSpoiled s = spoil s.advanceGone .reset :=
  endWindow_of_none (congrArg Engine.window (spoil_engine (s := s.advanceGone) h))

section SoftSpoiled

variable (s : State)

theorem softSpoiled_transport :
    (softSpoiled s).transport = (softTransport s.transport).noticed s.engine.window.carriesLine s.frame.pendingGroup := by
  cases h : s.inFlight with
  | false => rw [softSpoiled_idle h]; exact endWindow_transport (s := s.advanceGone) rfl
  | true => rw [softSpoiled_flight h]; exact spoil_transport (s := s.advanceGone) h rfl

theorem softSpoiled_pendingGroup :
    (softSpoiled s).frame.pendingGroup = if s.engine.window.carriesLine then none else s.frame.pendingGroup := by
  cases h : s.inFlight with
  | false => rw [softSpoiled_idle h]; exact endWindow_pendingGroup s.advanceGone
  | true => rw [softSpoiled_flight h]; exact spoil_pendingGroup (s := s.advanceGone) h

theorem softSpoiled_engine : (softSpoiled s).engine = { s.engine with window := .none } := by
  cases h : s.inFlight with
  | false => rw [softSpoiled_idle h]; exact endWindow_engine s.advanceGone
  | true => rw [softSpoiled_flight h]; exact spoil_engine (s := s.advanceGone) h

theorem softSpoiled_port : (softSpoiled s).port = if s.inFlight then spoilPort s.port else s.port := by
  cases h : s.inFlight with
  | false => rw [softSpoiled_idle h]; exact endWindow_port s.advanceGone
  | true => rw [softSpoiled_flight h]; exact spoil_port (s := s.advanceGone) h

theorem softSpoiled_startTimeout : (softSpoiled s).frame.startTimeout = s.frame.startTimeout := by
  cases h : s.inFlight with
  | false => rw [softSpoiled_idle h]; exact (endWindow_kept s.advanceGone).startTimeout
  | true => rw [softSpoiled_flight h]; exact spoil_startTimeout (s := s.advanceGone) h

theorem softSpoiled_delay : (softSpoiled s).idle.delay = s.idle.delay := by
  cases h : s.inFlight with
  | false => rw [softSpoiled_idle h]; exact congrArg IdleBias.delay (endWindow_idle s.advanceGone)
  | true => rw [softSpoiled_flight h, spoil_idle (s := s.advanceGone) h]; rfl

theorem softSpoiled_optics : (softSpoiled s).optics.current = s.optics.current ∧ (softSpoiled s).optics.cur = s.optics.cur := by
  cases h : s.inFlight with
  | false => rw [softSpoiled_idle h, endWindow_optics]; exact ⟨rfl, rfl⟩
  | true => rw [softSpoiled_flight h, spoil_optics (s := s.advanceGone) h]; exact ⟨rfl, rfl⟩

@[simp] theorem softSpoiled_chans : (softSpoiled s).chans = s.chans := by simp [softSpoiled]
@[simp] theorem softSpoiled_link : (softSpoiled s).link = s.link := by simp [softSpoiled]
@[simp] theorem softSpoiled_image : (softSpoiled s).image = s.image := by simp [softSpoiled]
@[simp] theorem softSpoiled_flash : (softSpoiled s).flash = s.flash := by simp [softSpoiled]
@[simp] theorem softSpoiled_pending : (softSpoiled s).pending = s.pending := by simp [softSpoiled]

end SoftSpoiled

theorem noticed_roll (t : Transport) (carries : Bool) (pending : Option Nat) :
    t.noticed carries pending = { t with group := (t.noticed carries pending).group } := by
  unfold Transport.noticed
  split <;> rfl

/-! ## The profiles over a soft reset -/

/-- What a soft reset's spoil leaves of one ID's record: no pin, and a record that was RETIRING stays so or is gone (R18, R28). -/
structure PinReturned (before after : Option Profile) : Prop where
  absent : before = none → after = none
  retiring : ∀ p, before = some p → p.state = .retiring → ∀ q, after = some q → q.state = .retiring
  kept : ∀ p, before = some p → p.state ≠ .retiring → after = some { p with pinned := none }

theorem PinReturned.same {r : Option Profile} (h : ∀ p, r = some p → p.pinned = none) : PinReturned r r where
  absent := id
  retiring p hp hr q hq := by rw [hp] at hq; cases hq; exact hr
  kept p hp _ := by rw [hp, ← h p hp]

theorem PinReturned.lookup {t : List Profile} (ht : idsAscend t) (id : Nat) :
    PinReturned (lookup t id) (Machine.lookup (returnProfilePin t id false) id) where
  absent h := lookup_none.2 fun q hq => by
    obtain ⟨p, hp, hid, -⟩ := mem_returnProfilePin hq
    rw [hid]
    exact lookup_none.1 h p hp
  retiring p hp hr q hq := by rw [lookup_returnProfilePin_retiring ht hp hr] at hq; cases hq
  kept p hp hr := lookup_returnProfilePin_some ht hp hr false

theorem softSpoiled_profile {s : State} (hs : RecordsSound s) (id : Nat) : PinReturned (s.profile id) ((softSpoiled s).profile id) := by
  cases h : s.inFlight with
  | false =>
    have hsame : (softSpoiled s).profile id = s.profile id := by
      rw [State.profile_eq, softSpoiled_idle h, endWindow_profiles]; rfl
    rw [hsame]
    exact .same fun p hp => (hs.pins.idle h).2 p (State.profile_some hp).1
  | true =>
    obtain ⟨-, -, l, hl, hpins⟩ := hs.pins.flight h
    have hprofiles : (softSpoiled s).profile id = lookup (returnProfilePin s.profiles l.profileId false) id := by
      rw [State.profile_eq, softSpoiled_flight h, spoil_profiles (s := s.advanceGone) h, returnPins_profiles]
      simp only [State.advanceGone, hl]
    rw [hprofiles]
    by_cases hid : id = l.profileId
    · rw [← hid]
      exact .lookup hs.table.ascend id
    · rw [lookup_returnProfilePin_ne hid]
      refine .same fun p hp => by_contra fun hne => ?_
      obtain ⟨hmem, rfl⟩ := lookup_some hp
      exact hid (hpins p hmem hne)

/-- The table over a soft reset: each record that is not RETIRING, its staging discarded (R28). -/
theorem lookup_softProfiles {t : List Profile} (ht : idsAscend t) (id : Nat) :
    lookup (softProfiles t) id = ((lookup t id).filter fun p => p.state != .retiring).map Profile.discard := by
  cases hp : lookup t id with
  | none =>
    refine lookup_none.2 fun q hq hid => ?_
    obtain ⟨p, hmem, -, rfl⟩ := mem_softProfiles.1 hq
    exact lookup_none.1 hp p hmem (by simpa using hid)
  | some p =>
    obtain ⟨hmem, hid⟩ := lookup_some hp
    have hsoft : idsAscend (softProfiles t) := (idsAscend_iff _).2 (List.Pairwise.sublist (softProfiles_ids t) ((idsAscend_iff t).1 ht))
    by_cases hr : p.state = .retiring
    · have hdrop : ((some p).filter fun p => p.state != .retiring).map Profile.discard = none := by simp [hr]
      rw [hdrop]
      refine lookup_none.2 fun q hq hqid => ?_
      obtain ⟨r, hrmem, hrs, rfl⟩ := mem_softProfiles.1 hq
      rw [discard_id] at hqid
      rw [eq_of_id ht hrmem hmem (hqid.trans hid.symm)] at hrs
      exact hrs hr
    · have hkept : p.discard ∈ softProfiles t := mem_softProfiles.2 ⟨p, hmem, hr, rfl⟩
      have hfound := lookup_mem hsoft hkept
      rw [discard_id, hid] at hfound
      rw [hfound]
      simp [hr]

/-! ## The reset values -/

section SoftReset

variable (s : State)

theorem softReset_transport : (softReset s).transport = (softSpoiled s).transport := by
  show (abandonImage (softSpoiled s)).transport = _
  rw [abandonImage_eq]

theorem softReset_frame : (softReset s).frame = softFrame (softSpoiled s).frame := by
  show softFrame (abandonImage (softSpoiled s)).frame = _
  rw [abandonImage_eq]

theorem softReset_port : (softReset s).port = softPort (softSpoiled s).port := by
  show softPort (abandonImage (softSpoiled s)).port = _
  rw [abandonImage_eq]

theorem softReset_engine : (softReset s).engine = .afterReset s.engine.config s.engine.msCount := by
  show Engine.afterReset (abandonImage (softSpoiled s)).engine.config (abandonImage (softSpoiled s)).engine.msCount = _
  rw [abandonImage_eq, softSpoiled_engine]

theorem softReset_chans : (softReset s).chans = s.chans.map softChannel := by
  show (abandonImage (softSpoiled s)).chans.map softChannel = _
  rw [abandonImage_eq, softSpoiled_chans]

theorem softReset_idle : (softReset s).idle = ⟨s.idle.delay, 0, 0⟩ := by
  show IdleBias.mk (abandonImage (softSpoiled s)).idle.delay 0 0 = _
  rw [abandonImage_eq, softSpoiled_delay]

theorem softReset_link : (softReset s).link = s.link := by
  show (abandonImage (softSpoiled s)).link = _
  rw [abandonImage_eq, softSpoiled_link]

theorem softReset_pending : (softReset s).pending = s.pending := by
  show (abandonImage (softSpoiled s)).pending = _
  rw [abandonImage_eq, softSpoiled_pending]

end SoftReset

/-- An image operation in flight is abandoned, its counts standing, and the flash completes the operation that was issued (R175, R184). -/
theorem abandonImage_busy {s : State} (h : s.image.state ≠ .idle) : abandonImage s = { s with
    flash := completeIssued s.flash s.image.save
    image := { s.image with state := .idle, last := .abandoned, failed := none, save := none, load := none } } :=
  if_pos ((State.imageBusy_iff s).2 h)

theorem abandonImage_flash (s : State) (h : s.image.save.isSome = true → s.image.state ≠ .idle) :
    (abandonImage s).flash = completeIssued s.flash s.image.save := by
  by_cases hidle : s.image.state = .idle
  · have hsave : s.image.save = none := by
      cases hv : s.image.save with
      | none => rfl
      | some v => exact absurd hidle (h (by rw [hv]; rfl))
    rw [abandonImage, if_neg (by rw [(State.imageBusy_false s).2 hidle]; decide), hsave]
    rfl
  · rw [abandonImage_busy hidle]

theorem softOptics_fields (o : Optics) :
    (softOptics o).staging = false ∧ (softOptics o).pinned = none ∧ (softOptics o).current = o.current ∧ (softOptics o).cur = o.cur := by
  unfold softOptics Optics.discard
  cases h : o.staging <;> simp [h]

/-- What a soft reset leaves of the port that its own rule does not name (R117). -/
theorem softPort_kept (p : Port) (flight : Bool) :
    let q := softPort (if flight then spoilPort p else p)
    q.strays = p.strays ∧ q.errors = p.errors ∧ q.lanes = p.lanes ∧ q.lineWaitLimit = p.lineWaitLimit := by
  cases flight
  · exact ⟨rfl, rfl, rfl, rfl⟩
  · simp only [if_true, softPort, spoilPort, Port.flush]
    split <;> exact ⟨rfl, rfl, rfl, rfl⟩

/-- Settles O5: the one step is `softReset`, block by block. -/
theorem softResetCompletes : Obligations.SoftResetCompletes := by
  intro s
  obtain ⟨hprofiles, hsetups, hoptics, himage⟩ := softReset_records s
  obtain ⟨hstaging, hpinned, hcurrent, hcur⟩ := softOptics_fields (softSpoiled s).optics
  obtain ⟨hspcurrent, hspcur⟩ := softSpoiled_optics s
  have hframe := softReset_frame s
  have hport := softReset_port s
  rw [softSpoiled_port] at hport
  have htransport := (softReset_transport s).trans (softSpoiled_transport s)
  have hroll := noticed_roll (softTransport s.transport) s.engine.window.carriesLine s.frame.pendingGroup
  have hchan (c : Chan) : (softReset s).chan c = softChannel (s.chan c) := by
    rw [State.chan, softReset_chans, Rgb.get_map]; rfl
  have hsetup (i : Fin 8) : (softReset s).setup i = (softSpoiled s).setup i := by rw [State.setup, hsetups]; rfl
  refine ⟨softReset s, rfl, rfl, softReset_link s, fun p hp => ?_, ?_, ?_, ?_, ?_, ?_, ?_, fun hf => ?_, fun i tag l hf hi ht hl => ?_,
    fun hf => ?_, ?_, softReset_engine s, rfl, rfl, fun c => ?_, softReset_idle s, ?_, fun hbusy => ?_, softReset_pending s, fun hs hstep => ?_⟩
  · rw [hprofiles] at hp
    obtain ⟨q, -, hq, rfl⟩ := mem_softProfiles.1 hp
    exact ⟨discard_staging q, by rwa [discard_state]⟩
  · rw [hoptics, hstaging]
  · rw [hoptics, hpinned]
  · rw [hoptics, hcurrent, hspcurrent]
  · rw [hoptics, hcur, hspcur]
  · rw [hframe]; rfl
  · rw [hframe]; exact softSpoiled_startTimeout s
  · rw [hframe, softSpoiled_flight hf]
    exact spoil_result (s := s.advanceGone) hf
  · rw [hsetup, softSpoiled_flight hf]
    exact spoil_setup (s := s.advanceGone) hf hi ht hl
  · rw [hsetups, softSpoiled_idle hf, endWindow_setups]
    rfl
  · rw [hport]
    exact ⟨rfl, rfl, rfl, rfl, rfl, rfl, softPort_kept s.port s.inFlight⟩
  · rw [hchan]
    exact ⟨rfl, rfl, rfl, rfl, rfl, rfl, rfl, rfl, rfl, rfl, rfl⟩
  · rw [htransport, hroll]
    exact ⟨rfl, rfl, rfl, rfl, rfl, rfl⟩
  · rw [himage, abandonImage_busy (by rwa [softSpoiled_image])]
    simp
  · have hsp : RecordsSound (softSpoiled s) := hs.steps (softSpoiled_steps s)
    have hrecord (id : Nat) : (softReset s).profile id = (((softSpoiled s).profile id).filter fun p => p.state != .retiring).map Profile.discard := by
      rw [State.profile_eq, hprofiles, lookup_softProfiles hsp.table.ascend]; rfl
    have hgroup : (softReset s).transport.group = (s.transport.noticed s.engine.window.carriesLine s.frame.pendingGroup).group := by
      rw [htransport]
      unfold Transport.noticed
      split <;> rfl
    have hflash : (softReset s).flash = completeIssued s.flash s.image.save := by
      have h := abandonImage_flash (softSpoiled s) fun hv => by rw [hsp.image.save hv]; decide
      rw [softSpoiled_flash, softSpoiled_image] at h
      exact h
    refine ⟨fun id hp => ?_, fun id p hp hr => ?_, fun id p hp hr => ⟨fun hst => ?_, fun g hg => ?_⟩, ?_, fun hnone => ?_, fun n hn hpos => ?_,
      fun hnone => ?_, fun v hv => ?_⟩
    · rw [hrecord, (softSpoiled_profile hs id).absent hp]; rfl
    · rw [hrecord]
      cases hq : (softSpoiled s).profile id with
      | none => rfl
      | some q => simp [(softSpoiled_profile hs id).retiring p hp hr q hq]
    · rw [hrecord, (softSpoiled_profile hs id).kept p hp hr]
      simp [hr, discard_none (p := { p with pinned := none }) hst]
    · rw [hrecord, (softSpoiled_profile hs id).kept p hp hr]
      have hdiscard := discard_some (p := { p with pinned := none }) hg
      simp only [Option.filter_some, bne_iff_ne, ne_eq, hr, not_false_eq_true, if_true, Option.map_some, hdiscard]
      cases g.bank <;> rfl
    · rw [hframe]
      show (softSpoiled s).frame.pendingGroup = none
      rw [softSpoiled_pendingGroup]
      cases hp : s.frame.pendingGroup with
      | none => simp
      | some n => simp [(hstep.pending (by rw [hp]; rfl)).1]
    · rw [hgroup, hnone]
      cases s.engine.window.carriesLine <;> rfl
    · obtain ⟨hcarries, -⟩ := hstep.pending (by rw [hn]; rfl)
      obtain ⟨m, rfl⟩ := Nat.exists_eq_succ_of_ne_zero hpos
      rw [hgroup, hcarries, hn]
      rfl
    · rw [hflash, hnone]; rfl
    · rw [hflash, hv]; rfl

end Sys2Proof.Machine
end

section
/-! The values after a power-on reset (R174), and the invariants that they satisfy. -/

namespace Sys2Proof.Machine

-- one theorem after another, as in the tests: a checker's memory limit leaves no room for many threads at once
set_option Elab.async false

open Sys2Proof

/-! ## The values after reset -/

theorem reset_setup (i : Fin 8) : State.reset.setup i = .powerOn := by simp [State.reset, State.setup]

theorem reset_chan (c : Chan) : State.reset.chan c = .powerOn := by cases c <;> rfl

/-- The corrections after reset are in range (R51). -/
theorem corrections_default_sound : CorrectionsSound .default where
  facets := by decide
  lengths := by decide
  gains := by decide
  delays := by decide
  shading ch x hx := by
    have hzero : (Corrections.default.shading.get ch).toList = List.replicate 65 0 := by cases ch <;> rfl
    rw [hzero] at hx
    rw [List.eq_of_mem_replicate hx]
    decide

theorem reset_records : RecordsSound State.reset := (powerOn_sound ⟨false, false, false, false, false, false⟩ State.reset).steps .same

theorem reset_laser : LaserSafe State.reset where
  dark := nofun
  guarded c hc := absurd (by cases c <;> rfl) hc
  exposing := nofun

theorem reset_optics : OpticsSound State.reset where
  current := corrections_default_sound
  other := nofun
  loading := nofun
  staging := nofun
  flight := nofun

theorem reset_sound : Sound State.reset where
  flash := reset_flash_wf
  laser := reset_laser
  drift c := by rw [reset_chan]; decide
  roll := ⟨nofun, nofun⟩
  window := ⟨fun h => absurd rfl h, nofun⟩
  records := reset_records
  profiles := ⟨List.forall_mem_nil _, nofun⟩
  optics := reset_optics
  steps := ⟨nofun, nofun, fun h => (by rcases h with h | h <;> cases h), nofun, nofun⟩
  buffers n hn := by
    have hempty : (State.reset.port.buf n).state = .empty := by unfold Port.buf; split <;> rfl
    rw [hempty] at hn
    cases hn
  numbering := ⟨⟨by decide, nofun, nofun⟩, nofun, nofun⟩
  link := .inr ⟨rfl, rfl, rfl, rfl⟩

theorem reset_counts : CountsBounded State.reset where
  strays := Nat.zero_le _
  errors := Nat.zero_le _
  setups i := by rw [reset_setup]; exact ⟨Nat.zero_le _, Nat.zero_le _, Nat.zero_le _⟩
  period := ⟨Nat.zero_le _, Nat.zero_le _⟩
  phase := by decide
  good := Nat.zero_le _
  revolution := nofun
  frame := nofun
  stride := Nat.zero_le _
  runs c := by rw [reset_chan]; exact ⟨Nat.zero_le _, Nat.zero_le _⟩
  idle := ⟨Nat.zero_le _, Nat.zero_le _⟩

theorem reset_settings : SettingsSound State.reset where
  fits i hi := by rw [reset_armed] at hi; cases hi
  setups i := .inl (by rw [reset_setup]; rfl)
  engine := .inl rfl
  millisecond := by decide
  channels c := by rw [reset_chan]; unfold ChannelConfig.inRange; decide
  idle := by decide
  start := by decide
  port := by decide

/-- Settles O3: each part of the invariant reads off the reset values. -/
theorem resetIsSound : Obligations.ResetIsSound := ⟨reset_sound, reset_counts, reset_settings, nofun, nofun⟩

/-! ## POWER_ON_RESET -/

/-- A power-on reset puts every block but the image record into its reset values, and a load begins where LOAD_AT_START is high (R174, R184). -/
theorem execPowerOnReset_image (pins : ResetPins) (s : State) :
    ∃ m : Image, exec (.powerOnReset pins) s = .next { powerOn pins s with image := m } ∧
      (m.written = 0 ∧ m.loaded = 0 ∧ m.skipped = 0 ∧ m.opticsLoaded = false ∧ m.channelsLoaded = false) ∧
      (pins.loadAtStart = false → m.state = .idle ∧ m.last = .none) ∧
      (pins.loadAtStart = true → (powerOn pins s).flash.header = none → m.state = .idle ∧ m.last = .noImage) ∧
      (pins.loadAtStart = true → (powerOn pins s).flash.header ≠ none → m.state = .loading) := by
  have hexec : exec (.powerOnReset pins) s = .next (if pins.loadAtStart then beginLoad (powerOn pins s) else powerOn pins s) := rfl
  cases hload : pins.loadAtStart with
  | false =>
    refine ⟨_, by rw [hexec, hload]; rfl, ⟨rfl, rfl, rfl, rfl, rfl⟩, fun _ => ⟨rfl, rfl⟩, nofun, nofun⟩
  | true =>
    rw [hload] at hexec
    cases hheader : (powerOn pins s).flash.header with
    | none =>
      have hbegin : exec (.powerOnReset pins) s = .next ((powerOn pins s).modImage fun m =>
          { m.clearCounts with state := .idle, last := .noImage, failed := none }) := by
        simp only [hexec, if_true, beginLoad, hheader]
      exact ⟨_, hbegin, ⟨rfl, rfl, rfl, rfl, rfl⟩, nofun, fun _ _ => ⟨rfl, rfl⟩, fun _ h => absurd rfl h⟩
    | some r =>
      obtain ⟨count, length⟩ := r
      have hbegin : exec (.powerOnReset pins) s = .next ((powerOn pins s).modImage fun m =>
          { m.clearCounts with
            state := .loading
            load := some ⟨if count = 0 then .optics else .profile, count, recordsAt, recordsAt + length - tailLength, ⟨[], none, none⟩⟩ }) := by
        simp only [hexec, if_true, beginLoad, hheader]
      exact ⟨_, hbegin, ⟨rfl, rfl, rfl, rfl, rfl⟩, nofun, nofun, fun _ _ => rfl⟩

/-- Settles O4: every block but the image record stands at the values of `State.reset`. -/
theorem powerOnResetCompletes : Obligations.PowerOnResetCompletes := by
  intro pins s
  obtain ⟨m, hexec, ⟨hwritten, hloaded, hskipped, hoptics, hchannels⟩, hidle, hnoImage, hloading⟩ := execPowerOnReset_image pins s
  exact ⟨_, hexec, rfl, rfl, reset_setup, ⟨rfl, rfl, rfl, rfl, rfl⟩, ⟨rfl, rfl, rfl, rfl, rfl, rfl, rfl, rfl, rfl, rfl⟩, rfl, rfl, rfl,
    fun c => by cases c <;> exact ⟨rfl, rfl, rfl, rfl, rfl, rfl, rfl, rfl, rfl, rfl, rfl, rfl, rfl⟩,
    rfl, rfl, ⟨rfl, rfl, rfl, rfl⟩, rfl, hwritten, hloaded, hskipped, hoptics, hchannels, hidle, hnoImage, hloading, rfl⟩

end Sys2Proof.Machine
end

section
/-! The bytes of a reply's fields, and the requests without fields that only report (R25, R97, R115, R131, R161, R173, R183). -/

namespace Sys2Proof.Machine

-- one theorem after another, as in the tests: a checker's memory limit leaves no room for many threads at once
set_option Elab.async false

open Sys2Proof

/-! ## The fields of a reply -/

theorem mark_eq (x : Bool) : mark x = [if x = true then 0 else 1] := by cases x <;> rfl

theorem opt_eq {α : Type} (f : α → List Byte) (x : Option α) : opt f x = x.elim [1] fun a => 0 :: f a := by cases x <;> rfl

theorem optIf_eq (x : Bool) (bytes : List Byte) : optIf x bytes = if x = true then 0 :: bytes else [1] := by cases x <;> rfl

theorem bufferBytes_eq (x : LineBuffer) : bufferBytes x = u8 x.state.code ++ if x.state ≠ .empty then 0 :: u16 x.line else [1] := by
  simp only [bufferBytes, optIf_eq, bne_iff_ne]

theorem advanceBytes_eq (timer : Nat) (x : Option Advance) : advanceBytes timer x =
    x.elim [0, 1, 0, 1] fun a => [1, 0] ++ u16 a.toIssue ++ if a.pull = .waitingGroup then [1, 1] else [2, 0] ++ u16 timer := by
  cases x with
  | none => rfl
  | some a =>
    obtain ⟨n, pull, l⟩ := a
    cases pull <;> simp [advanceBytes, optIf, mark, u8]

theorem toNat_mark (x : Bool) : u8 x.toNat = [if x = true then 1 else 0] := by cases x <;> rfl

/-- Settles O9: each reply's fields, written as the statement writes them. -/
theorem fieldlessQueriesChangeNothing : Obligations.FieldlessQueriesChangeNothing := by
  intro s given bit f latched p inLines buffer e g t roll
  refine ⟨rfl, ?_, ?_, ?_, ?_, ?_, ?_⟩
  · show execProfileList s = _
    simp only [execProfileList, reply, mark_eq, beq_iff_eq]
    rfl
  · show execFrameStatus s = _
    simp only [execFrameStatus, reply, mark_eq, optIf_eq, opt_eq, Bool.or_eq_true, beq_iff_eq]
    rfl
  · show execPortStatus s = _
    simp only [execPortStatus, reply, mark_eq, optIf_eq, Bool.or_eq_true, beq_iff_eq, bufferBytes_eq, p]
    cases s.port.waiting <;> rfl
  · show execEngineQuery s = _
    simp only [execEngineQuery, reply, mark_eq]
    rfl
  · show execRollQuery s = _
    simp only [execRollQuery, reply, mark_eq, opt_eq, advanceBytes_eq, toNat_mark]
    cases ht : s.transport.roll <;> simp [t, ht, roll, bit]
  · show execImageStatus s = _
    simp only [execImageStatus, reply, mark_eq, opt_eq]
    cases (if s.image.last = .fault then s.image.failed else none) <;> rfl

end Sys2Proof.Machine
end

section
/-! The lookups that name a record, and PROFILE_EVALUATE (R26, R27, R46 to R48, R63, R77, R149). -/

namespace Sys2Proof.Machine

-- one theorem after another, as in the tests: a checker's memory limit leaves no room for many threads at once
set_option Elab.async false

open Sys2Proof

/-! ## Selectors -/

theorem idInRange_id (id : BitVec 16) : idInRange id.toNat = true ↔ id ≠ 0 ∧ id ≠ 65535 := by
  rw [idInRange_iff]
  constructor
  · rintro ⟨hlow, hhigh⟩
    constructor <;> rintro rfl <;> simp at hlow hhigh
  · rintro ⟨hzero, hlast⟩
    bv_omega

theorem stagedOf_none {bank : Byte} : stagedOf bank = none ↔ 2 ≤ bank.toNat := by
  unfold stagedOf
  split <;> simp_all
  omega

theorem chanOf_lt {chan : Byte} {c : Chan} (h : chanOf chan = some c) : chan.toNat < 3 :=
  Nat.lt_of_not_le fun hle => by rw [(chanOf_eq_none chan).2 hle] at h; cases h

theorem stagedOf_lt {bank : Byte} {staged : Bool} (h : stagedOf bank = some staged) : bank.toNat < 2 :=
  Nat.lt_of_not_le fun hle => by rw [stagedOf_none.2 hle] at h; cases h

theorem stagedOf_some {bank : Byte} (h : bank.toNat < 2) : ∃ staged, stagedOf bank = some staged :=
  Option.ne_none_iff_exists'.1 fun hnone => Nat.not_le.2 h (stagedOf_none.1 hnone)

theorem chanOf_some {chan : Byte} (h : chan.toNat < 3) : ∃ c, chanOf chan = some c :=
  Option.ne_none_iff_exists'.1 fun hnone => Nat.not_le.2 h ((chanOf_eq_none chan).1 hnone)

theorem opticsPartOf_none {part : Byte} (h : 5 ≤ part.toNat) : opticsPartOf part = none := by
  unfold opticsPartOf
  split <;> simp_all

theorem opticsPartOf_facets {part : Byte} (h : part.toNat = 1) : opticsPartOf part = some .facets := by
  unfold opticsPartOf
  rw [h]
  rfl

theorem opticsPartOf_shading {part : Byte} (c : Chan) (h : part.toNat = (match c with | .red => 2 | .grn => 3 | .blu => 4)) :
    opticsPartOf part = some (.shading c) := by
  unfold opticsPartOf
  rw [h]
  cases c <;> rfl

/-! ## The calibration of the bank selected -/

/-- A bank selector reads the active or the staged calibration, and gives a revision for the active one (R27, R47). -/
theorem selected_some {p : Profile} {cal : Calibration} {bank : Byte}
    (h : bank = 0 ∧ p.activeCal = some cal ∨ bank = 1 ∧ p.stagedCal = some cal) :
    ∃ staged, stagedOf bank = some staged ∧ p.selected staged = some cal ∧
      opt u16 (if staged = true then none else cal.revision) = if bank = 0 then opt u16 cal.revision else [1] := by
  rcases h with ⟨rfl, h⟩ | ⟨rfl, h⟩
  · exact ⟨false, rfl, h, rfl⟩
  · exact ⟨true, rfl, h, rfl⟩

/-- A profile in DRAFT has no active calibration, and one without staging no staged one (R3, R5). -/
theorem selected_none {p : Profile} {bank : Byte}
    (h : (bank = 0 ∧ ProfileSound p ∧ p.state = .draft) ∨ bank = 1 ∧ p.staging = none) :
    ∃ staged, stagedOf bank = some staged ∧ p.selected staged = none := by
  rcases h with ⟨rfl, hp, hd⟩ | ⟨rfl, hs⟩
  · exact ⟨false, rfl, by simp [Profile.selected, Profile.activeCal, hp.draft.1 hd]⟩
  · exact ⟨true, rfl, by simp [Profile.selected, Profile.stagedCal, hs]⟩

/-! ## PROFILE_READ_CURVE -/

section ReadCurve

variable {s : State} {id : BitVec 16} {bank chan first count : Byte}

/-- The range check of PROFILE_READ_CURVE's numbers (R27). -/
def readCurveRange (id : BitVec 16) (first count : Byte) : Bool :=
  idInRange id.toNat && first.toNat ≤ 32 && 1 ≤ count.toNat && count.toNat ≤ 33

theorem readCurve_range (h : ¬(readCurveRange id first count = true ∧ bank.toNat < 2 ∧ chan.toNat < 3)) :
    execProfileReadCurve id bank chan first count s = .next (s.answer (.profileReadCurve id bank chan first count) .range) := by
  unfold execProfileReadCurve
  split
  · next staged c hb hc =>
    have hbad : (!readCurveRange id first count) = true := by
      rw [Bool.not_eq_true', Bool.eq_false_iff]
      exact fun hr => h ⟨hr, stagedOf_lt hb, chanOf_lt hc⟩
    exact if_pos hbad
  · rfl

variable {staged : Bool} {c : Chan} (hb : stagedOf bank = some staged) (hc : chanOf chan = some c) (hr : readCurveRange id first count = true)

include hb hc hr

theorem readCurve_notFound (hp : s.profile id.toNat = none) :
    execProfileReadCurve id bank chan first count s = .next (s.answer (.profileReadCurve id bank chan first count) .notFound) := by
  unfold readCurveRange at hr
  simp only [execProfileReadCurve, hb, hc, hr, hp]
  rfl

variable {p : Profile} (hp : s.profile id.toNat = some p)

include hp

theorem readCurve_notReady (hk : ∀ cal, p.selected staged = some cal → cal.curves.get c = none) :
    execProfileReadCurve id bank chan first count s = .next (s.answer (.profileReadCurve id bank chan first count) .notReady) := by
  unfold readCurveRange at hr
  simp only [execProfileReadCurve, hb, hc, hr, hp]
  cases hsel : p.selected staged with
  | none => rfl
  | some cal => simp [hk cal hsel, reply]

theorem readCurve_ok {cal : Calibration} (hsel : p.selected staged = some cal) {k : Curve} (hk : cal.curves.get c = some k) :
    execProfileReadCurve id bank chan first count s = .next (s.answer (.profileReadCurve id bank chan first count) .ok
      (opt u16 (if staged = true then none else cal.revision) ++ u8 k.length ++ u8 ((k.drop first.toNat).take count.toNat).length ++
        knotBytes ((k.drop first.toNat).take count.toNat))) := by
  unfold readCurveRange at hr
  simp only [execProfileReadCurve, hb, hc, hr, hp, hsel, Option.bind_some, hk, Option.map_some]
  rfl

end ReadCurve

/-! ## PROFILE_EVALUATE -/

section Evaluate

variable {s : State} {id code position : BitVec 16} {bank chan facet : Byte}

/-- The range check of PROFILE_EVALUATE's numbers (R46). -/
def evaluateRange (s : State) (id code position : BitVec 16) (facet : Byte) : Bool :=
  idInRange id.toNat && codeInRange code.toNat && position.toNat ≤ 8191 && facet.toNat < s.optics.cur.facets

theorem evaluate_range (h : ¬(evaluateRange s id code position facet = true ∧ bank.toNat < 2 ∧ chan.toNat < 3)) :
    execProfileEvaluate id bank chan code position facet s =
      .next (s.answer (.profileEvaluate id bank chan code position facet) .range) := by
  unfold execProfileEvaluate
  split
  · next staged c hb hc =>
    have hbad : (!evaluateRange s id code position facet) = true := by
      rw [Bool.not_eq_true', Bool.eq_false_iff]
      exact fun hr => h ⟨hr, stagedOf_lt hb, chanOf_lt hc⟩
    exact if_pos hbad
  · rfl

variable {staged : Bool} {c : Chan} (hb : stagedOf bank = some staged) (hc : chanOf chan = some c)
  (hr : evaluateRange s id code position facet = true)

include hb hc hr

theorem evaluate_notFound (hp : s.profile id.toNat = none) : execProfileEvaluate id bank chan code position facet s =
    .next (s.answer (.profileEvaluate id bank chan code position facet) .notFound) := by
  unfold evaluateRange at hr
  simp only [execProfileEvaluate, hb, hc, hr, hp]
  rfl

variable {p : Profile} (hp : s.profile id.toNat = some p)

include hp

theorem evaluate_notReady (hk : ∀ cal, p.selected staged = some cal → cal.curves.get c = none) :
    execProfileEvaluate id bank chan code position facet s =
      .next (s.answer (.profileEvaluate id bank chan code position facet) .notReady) := by
  have hnone : ((p.selected staged).filter fun cal => (cal.curves.get c).isSome) = none := by
    cases hsel : p.selected staged with
    | none => rfl
    | some cal => simp [hk cal hsel]
  unfold evaluateRange at hr
  simp only [execProfileEvaluate, hb, hc, hr, hp, hnone]
  rfl

/-- The evaluation reported: the exposure arithmetic with the corrections as they stand (R47, R48). -/
theorem evaluate_ok {cal : Calibration} (hsel : p.selected staged = some cal) (hk : cal.curves.get c ≠ none) :
    let gain := s.optics.cur.gains.getD facet.toNat 0
    let r := computeWith cal s.optics.cur c (s.chan c).drift gain code.toNat position.toNat
    let lit (bytes : List Byte) : List Byte := if r.result = .dark then [1] else 0 :: bytes
    execProfileEvaluate id bank chan code position facet s = .next (s.answer (.profileEvaluate id bank chan code position facet) .ok
      (u8 r.result.code ++ lit (u16 r.exposure) ++ lit (i16 r.sum) ++ u8 r.tier ++ u16 r.level ++ lit (i16 (s.chan c).drift) ++
        lit (i8 r.shading) ++ lit (i8 gain) ++ opt u16 (if staged = true then none else cal.revision) ++
        u16 (s.optics.cur.revision.getD 0))) := by
  intro gain r lit
  have hlit (bytes : List Byte) : optIf (r.result != .dark) bytes = lit bytes := by
    simp only [optIf_eq, bne_iff_ne, ne_eq, ite_not, lit]
  have hcurve : (cal.curves.get c).isSome = true := Option.isSome_iff_ne_none.2 hk
  unfold evaluateRange at hr
  simp only [execProfileEvaluate, hb, hc, hr, hp, hsel, Option.filter_some, hcurve, Bool.not_true, Bool.false_eq_true, if_false, if_true]
  simp only [← hlit]
  rfl

end Evaluate

/-! ## OPTICS_READ -/

theorem flatMap_i8 (l : List Int) : l.flatMap i8 = l.map (BitVec.ofInt 8) := (List.map_eq_flatMap ..).symm

section OpticsRead

variable {s : State} {bank part : Byte}

theorem opticsRead_range (h : 2 ≤ bank.toNat ∨ 5 ≤ part.toNat) :
    execOpticsRead bank part s = .next (s.answer (.opticsRead bank part) .range) := by
  unfold execOpticsRead
  split
  · next hb hp =>
    rcases h with h | h
    · rw [stagedOf_none.2 h] at hb; cases hb
    · rw [opticsPartOf_none h] at hp; cases hp
  · next hb hp =>
    rcases h with h | h
    · rw [stagedOf_none.2 h] at hb; cases hb
    · rw [opticsPartOf_none h] at hp; cases hp
  · rfl

theorem opticsRead_status (hb : bank.toNat < 2) : execOpticsRead bank 0 s = .next (s.answer (.opticsRead bank 0) .ok
    ([if s.optics.current = .a then 0 else 1] ++ u16 (s.optics.cur.revision.getD 0) ++ u8 s.optics.cur.facets ++
      bankOrNone (if s.optics.staging then some s.optics.current.flip else none) ++
      opt u8 ((if s.optics.staging then s.optics.other else none).map Corrections.facets) ++ bankOrNone s.optics.pinned ++
      opt u16 (s.optics.pinnedSet.bind Corrections.revision))) := by
  cases hs : stagedOf bank with
  | none => exact absurd (stagedOf_none.1 hs) (Nat.not_le.2 hb)
  | some staged =>
    have hpart : opticsPartOf 0 = some .status := rfl
    simp only [execOpticsRead, hs, hpart, bankByte_eq]
    rfl

theorem opticsRead_notReady {what : OpticsPart} (hwhat : opticsPartOf part = some what) (hne : what ≠ .status) (hs : s.optics.staging = false) :
    execOpticsRead 1 part s = .next (s.answer (.opticsRead 1 part) .notReady) := by
  have hbank : stagedOf 1 = some true := rfl
  have hnone : s.optics.staged = none := by simp [Optics.staged, hs]
  simp only [execOpticsRead, hbank, hwhat, hnone]
  cases what with
  | status => exact absurd rfl hne
  | facets => rfl
  | shading c => rfl

/-- A part other than STATUS is read from the set of the bank selected (R63). -/
theorem opticsRead_part {staged : Bool} (hb : stagedOf bank = some staged) {c : Corrections}
    (hsel : (if staged = true then s.optics.staged else some s.optics.cur) = some c) :
    (opticsPartOf part = some .facets → execOpticsRead bank part s = .next (s.answer (.opticsRead bank part) .ok
      (opt u16 (if staged = true then none else c.revision) ++ [BitVec.ofNat 8 c.facets] ++ c.gains.map (BitVec.ofInt 8) ++
        c.delays.map (BitVec.ofInt 8)))) ∧
    ∀ ch, opticsPartOf part = some (.shading ch) → execOpticsRead bank part s = .next (s.answer (.opticsRead bank part) .ok
      (opt u16 (if staged = true then none else c.revision) ++ (c.shading.get ch).toList.map (BitVec.ofInt 8))) := by
  refine ⟨fun hpart => ?_, fun ch hpart => ?_⟩
  · simp only [execOpticsRead, hb, hpart, hsel, flatMap_i8]
    rfl
  · simp only [execOpticsRead, hb, hpart, hsel, flatMap_i8]
    rfl

/-- The set that a bank selector reads, with the revision that a read of it gives (R63). -/
theorem selectedSet_some {o : Optics} {c : Corrections} {rev : List Byte}
    (h : bank = 0 ∧ c = o.cur ∧ rev = opt u16 c.revision ∨ bank = 1 ∧ o.staging = true ∧ o.other = some c ∧ rev = [1]) :
    ∃ staged, stagedOf bank = some staged ∧ (if staged = true then o.staged else some o.cur) = some c ∧
      opt u16 (if staged = true then none else c.revision) = rev := by
  rcases h with ⟨rfl, rfl, rfl⟩ | ⟨rfl, hs, ho, rfl⟩
  · exact ⟨false, rfl, rfl, rfl⟩
  · exact ⟨true, rfl, by simp [Optics.staged, hs, ho], rfl⟩

end OpticsRead

/-! ## SETUP_QUERY and CHANNEL_QUERY -/

theorem slotOf_none {slot : Byte} (h : 8 ≤ slot.toNat) : slotOf slot = none := dif_neg (Nat.not_lt.2 h)

theorem bindingCode_some {s : State} {x : Setup} {p : Profile} (ha : x.armed = false) (hp : s.profile x.config.profileId = some p) :
    bindingCode s x = if p.state = .draft then 2 else if p.state = .retiring then 3 else 4 := by
  simp only [bindingCode, ha, hp]
  cases p.state <;> rfl

theorem setupQuery_ok {s : State} {slot : Byte} {i : Fin 8} (h : slotOf slot = some i) :
    execSetupQuery slot s = .next (s.answer (.setupQuery slot) .ok ([if (s.setup i).armed then 1 else 0] ++ configBytes (s.setup i).config ++
      u32 (s.setup i).exposed ++ u32 (s.setup i).spoiled ++ u32 (s.setup i).refused ++ opt reportBytes (s.setup i).report ++
      u8 (bindingCode s (s.setup i)))) := by
  simp only [execSetupQuery, h, toNat_mark]
  cases (s.setup i).report <;> rfl

/-- The fault cause is given in FAULT alone (R149). -/
theorem opt_fault (x : Channel) : opt (fun f => u8 (FaultCause.code f)) (if x.state = .fault then x.faultCause else none) =
    if x.state = .fault then opt (fun f => u8 (FaultCause.code f)) x.faultCause else [1] := by
  split <;> rfl

/-! ## The lookups -/

theorem marks_eq (front : List Byte) (x y z : Bool) : front ++ mark x ++ mark y ++ mark z =
    front ++ [if x = true then 0 else 1, if y = true then 0 else 1, if z = true then 0 else 1] := by simp [mark_eq]

theorem profileQuery_lookups (s : State) (id : BitVec 16) :
    ((id = 0 ∨ id = 65535) → exec (.profileQuery id) s = .next (s.answer (.profileQuery id) .range)) ∧
    (id ≠ 0 → id ≠ 65535 → s.profile id.toNat = none → exec (.profileQuery id) s = .next (s.answer (.profileQuery id) .notFound)) := by
  have hexec : exec (.profileQuery id) s = execProfileQuery id s := rfl
  refine ⟨fun h => ?_, fun h0 h1 hp => ?_⟩
  · have hbad : idInRange id.toNat = false := by
      rw [Bool.eq_false_iff, Ne, idInRange_id]
      rintro ⟨h0, h1⟩
      exact h.elim h0 h1
    rw [hexec]
    simp only [execProfileQuery, hbad]
    rfl
  · have hgood := (idInRange_id id).2 ⟨h0, h1⟩
    rw [hexec]
    simp only [execProfileQuery, hgood, hp]
    rfl

theorem readCurveRange_iff (id : BitVec 16) (first count : Byte) : readCurveRange id first count = true ↔
    1 ≤ id.toNat ∧ id.toNat ≤ 65534 ∧ first.toNat ≤ 32 ∧ 1 ≤ count.toNat ∧ count.toNat ≤ 33 := by
  simp only [readCurveRange, Bool.and_eq_true, idInRange_iff, decide_eq_true_eq, and_assoc]

theorem evaluateRange_iff (s : State) (id code position : BitVec 16) (facet : Byte) : evaluateRange s id code position facet = true ↔
    1 ≤ id.toNat ∧ id.toNat ≤ 65534 ∧ code.toNat ≤ 4095 ∧ position.toNat ≤ 8191 ∧ facet.toNat < s.optics.cur.facets := by
  simp only [evaluateRange, Bool.and_eq_true, idInRange_iff, codeInRange, decide_eq_true_eq, and_assoc]

/-- Settles O10: each lookup by its request's own cases. -/
theorem lookupsChangeNothing : Obligations.LookupsChangeNothing := by
  refine ⟨fun s id => ?_, ?_, ?_, ?_, fun s slot => ⟨fun h => ?_, ?_⟩, fun s chan => ⟨fun h => ?_, ?_⟩⟩
  · obtain ⟨hrange, hnone⟩ := profileQuery_lookups s id
    refine ⟨hrange, hnone, fun p h0 h1 hp => ?_⟩
    have hgood := (idInRange_id id).2 ⟨h0, h1⟩
    show execProfileQuery id s = _
    simp only [execProfileQuery, hgood, hp, marks_eq]
    cases p.staging <;> rfl
  · intro s id bank chan first count req ok
    have hok : ok ↔ readCurveRange id first count = true ∧ bank.toNat < 2 ∧ chan.toNat < 3 := by
      rw [readCurveRange_iff]
      tauto
    refine ⟨fun h => readCurve_range (mt hok.2 h), fun h hp => ?_, fun p c h hp hc => ?_⟩
    · obtain ⟨hr, hbank, hchan⟩ := hok.1 h
      obtain ⟨staged, hb⟩ := stagedOf_some hbank
      obtain ⟨c, hc⟩ := chanOf_some hchan
      exact readCurve_notFound hb hc hr hp
    · have hr := (hok.1 h).1
      have hnothing (hsel : (bank = 0 ∧ ProfileSound p ∧ p.state = .draft) ∨ bank = 1 ∧ p.staging = none) :
          exec req s = .next (s.answer req .notReady) := by
        obtain ⟨staged, hb, hnone⟩ := selected_none hsel
        exact readCurve_notReady hb hc hr hp fun cal hcal => by rw [hnone] at hcal; cases hcal
      refine ⟨fun h0 hs hd => hnothing (.inl ⟨h0, hs, hd⟩), fun h1 hs => hnothing (.inr ⟨h1, hs⟩), fun cal hcal => ?_⟩
      obtain ⟨staged, hb, hsel, hrev⟩ := selected_some hcal
      refine ⟨fun hk => readCurve_notReady hb hc hr hp fun cal' h' => ?_, fun k hk => ?_⟩
      · rw [hsel] at h'; cases h'; exact hk
      · rw [← hrev]
        exact readCurve_ok hb hc hr hp hsel hk
  · intro s id code position bank chan facet req ok
    have hok : ok ↔ evaluateRange s id code position facet = true ∧ bank.toNat < 2 ∧ chan.toNat < 3 := by
      rw [evaluateRange_iff]
      tauto
    refine ⟨fun h => evaluate_range (mt hok.2 h), fun h hp => ?_, fun p c h hp hc => ?_⟩
    · obtain ⟨hr, hbank, hchan⟩ := hok.1 h
      obtain ⟨staged, hb⟩ := stagedOf_some hbank
      obtain ⟨c, hc⟩ := chanOf_some hchan
      exact evaluate_notFound hb hc hr hp
    · have hr := (hok.1 h).1
      have hnothing (hsel : (bank = 0 ∧ ProfileSound p ∧ p.state = .draft) ∨ bank = 1 ∧ p.staging = none) :
          exec req s = .next (s.answer req .notReady) := by
        obtain ⟨staged, hb, hnone⟩ := selected_none hsel
        exact evaluate_notReady hb hc hr hp fun cal hcal => by rw [hnone] at hcal; cases hcal
      refine ⟨fun h0 hs hd => hnothing (.inl ⟨h0, hs, hd⟩), fun h1 hs => hnothing (.inr ⟨h1, hs⟩), fun cal hcal => ?_⟩
      obtain ⟨staged, hb, hsel, hrev⟩ := selected_some hcal
      refine ⟨fun hk => evaluate_notReady hb hc hr hp fun cal' h' => ?_, fun hk => ?_⟩
      · rw [hsel] at h'; cases h'; exact hk
      · rw [← hrev]
        exact evaluate_ok hb hc hr hp hsel hk
  · intro s bank part o
    refine ⟨opticsRead_range, ?_, fun hbank hlow hhigh hs => ?_, fun c rev h => ?_⟩
    · rintro hb rfl
      exact opticsRead_status hb
    · subst hbank
      have hpart : ∃ what, opticsPartOf part = some what ∧ what ≠ .status := by
        obtain h | h | h | h : part.toNat = 1 ∨ part.toNat = 2 ∨ part.toNat = 3 ∨ part.toNat = 4 := by omega
        · exact ⟨_, opticsPartOf_facets h, nofun⟩
        · exact ⟨_, opticsPartOf_shading .red h, nofun⟩
        · exact ⟨_, opticsPartOf_shading .grn h, nofun⟩
        · exact ⟨_, opticsPartOf_shading .blu h, nofun⟩
      obtain ⟨what, hwhat, hne⟩ := hpart
      exact opticsRead_notReady hwhat hne hs
    · obtain ⟨staged, hb, hsel, rfl⟩ := selectedSet_some h
      obtain ⟨hfacets, hshading⟩ := opticsRead_part (s := s) (part := part) hb hsel
      exact ⟨fun hp => hfacets (opticsPartOf_facets (by rw [hp]; rfl)), fun ch hp => hshading ch (opticsPartOf_shading ch hp)⟩
  · show execSetupQuery slot s = _
    simp only [execSetupQuery, slotOf_none h]
    rfl
  · intro i hi x binding
    have hbinding : u8 (bindingCode s x) = [binding] := by
      cases ha : x.armed with
      | true => simp [binding, bindingCode, ha, u8]
      | false =>
        cases hp : s.profile x.config.profileId with
        | none => simp [binding, bindingCode, ha, hp, u8]
        | some p =>
          rw [bindingCode_some ha hp]
          simp only [binding, ha, hp]
          cases p.state <;> rfl
    rw [← hbinding, ← opt_eq]
    exact setupQuery_ok hi
  · show execChannelQuery chan s = _
    simp only [execChannelQuery, withChan, (chanOf_eq_none chan).2 h]
    rfl
  · intro c hc x g given
    show execChannelQuery chan s = _
    simp only [execChannelQuery, withChan, hc, mark_eq, opt_fault, optIf_eq, beq_iff_eq, toNat_mark]
    rfl

end Sys2Proof.Machine
end

section
/-! The limits of each block, one by one: what a change must keep of them (sections 0.4.5 and 9.1, R75, R118, R130, R133, R146, R152, R166). -/

namespace Sys2Proof.Machine

-- one theorem after another, as in the tests: a checker's memory limit leaves no room for many threads at once
set_option Elab.async false

open Sys2Proof

/-! ## The blocks of CountsBounded and SettingsSound -/

/-- The counts of the port (R104, R114). -/
def Port.bounded (p : Port) : Prop := p.strays ≤ Config.max16 ∧ p.errors ≤ Config.max16

/-- The settings of the port (R116). -/
def Port.inRange (p : Port) : Prop := p.lanes ∈ [1, 2, 4] ∧ 1 ≤ p.lineWaitLimit ∧ p.lineWaitLimit ≤ 65535

/-- The three counts of a setup (R75). -/
def Setup.bounded (x : Setup) : Prop := x.exposed ≤ Config.max32 ∧ x.spoiled ≤ Config.max32 ∧ x.refused ≤ Config.max32

/-- The counts of the engine record (Table 7-1). -/
def Engine.bounded (e : Engine) : Prop :=
  (e.periodCount ≤ Config.maxPeriod ∧ e.lastPeriod ≤ Config.maxPeriod) ∧ e.samplePhase < 128 ∧ e.good ≤ 2 ∧
    ∀ m, e.revCount = some m → m ≤ 255

/-- The counts of a frame since its latch point (Table 5-1). -/
def Latched.bounded (l : Latched) : Prop :=
  l.lines ≤ Config.maxLines ∧ l.starved ≤ Config.max32 ∧ l.low ≤ Config.max32 ∧ l.high ≤ Config.max32

/-- The counts of the frame record (Table 5-1). -/
def FrameCycle.bounded (f : FrameCycle) : Prop := (∀ l, f.latched = some l → l.bounded) ∧ f.stride ≤ 4

/-- The start timeout (R98). -/
def FrameCycle.inRange (f : FrameCycle) : Prop := 1 ≤ f.startTimeout ∧ f.startTimeout ≤ 65535

/-- The two runs of a channel (R137, R139). -/
def Channel.bounded (x : Channel) : Prop := x.stableRun ≤ 64 ∧ x.outRun ≤ 4

/-- The settings of a channel: its configuration, its target and its reference (Tables 8-1 and 8-2). -/
def Channel.inRange (x : Channel) : Prop := x.config.inRange ∧ 1 ≤ x.target ∧ x.target ≤ 64 ∧ 1 ≤ x.ref ∧ x.ref ≤ 4095

/-- A channel's D is within its drift limit (R133). -/
def Channel.driftWithin (x : Channel) : Prop := x.drift.natAbs ≤ x.config.driftLimit

/-- The idle timer (R146). -/
def IdleBias.bounded (t : IdleBias) : Prop := t.seconds ≤ Config.max16 ∧ t.millis ≤ 999

theorem countsBounded_iff (s : State) : CountsBounded s ↔
    s.port.bounded ∧ (∀ i, (s.setup i).bounded) ∧ s.engine.bounded ∧ s.frame.bounded ∧ (∀ c, (s.chan c).bounded) ∧ s.idle.bounded := by
  constructor
  · rintro ⟨strays, errors, setups, period, phase, good, revolution, frame, stride, runs, idle⟩
    exact ⟨⟨strays, errors⟩, setups, ⟨period, phase, good, revolution⟩, ⟨frame, stride⟩, runs, idle⟩
  · rintro ⟨⟨strays, errors⟩, setups, ⟨period, phase, good, revolution⟩, ⟨frame, stride⟩, runs, idle⟩
    exact ⟨strays, errors, setups, period, phase, good, revolution, frame, stride, runs, idle⟩

/-! ## What a change keeps of each block -/

/-- A change of a channel that keeps each of its limits. -/
structure ChannelLimits (x y : Channel) : Prop where
  drift : x.driftWithin → y.driftWithin
  runs : x.bounded → y.bounded
  settings : x.inRange → y.inRange

/-- A change of the port that keeps its counts and its settings in range. -/
structure PortLimits (p q : Port) : Prop where
  counts : p.bounded → q.bounded
  settings : p.inRange → q.inRange

/-- A change of a setup that keeps its counts within their maximum, and its state and configuration. -/
structure SetupLimits (x y : Setup) : Prop where
  counts : x.bounded → y.bounded
  armed : y.armed = x.armed
  config : y.config = x.config

/-- A change of the engine that keeps its counts within their maximum, its configuration and the millisecond in progress. -/
structure EngineLimits (e f : Engine) : Prop where
  counts : e.bounded → f.bounded
  config : f.config = e.config
  msCount : f.msCount = e.msCount

/-- A change of the frame record that keeps its counts and the start timeout in range. -/
structure FrameLimits (f g : FrameCycle) : Prop where
  counts : f.bounded → g.bounded
  settings : f.inRange → g.inRange

/-- A change of the idle timer that keeps the timer and the delay in range. -/
structure IdleLimits (t u : IdleBias) : Prop where
  counts : t.bounded → u.bounded
  settings : t.delay ≤ 65535 → u.delay ≤ 65535

theorem ChannelLimits.refl (x : Channel) : ChannelLimits x x := ⟨id, id, id⟩
theorem PortLimits.refl (p : Port) : PortLimits p p := ⟨id, id⟩
theorem SetupLimits.refl (x : Setup) : SetupLimits x x := ⟨id, rfl, rfl⟩
theorem EngineLimits.refl (e : Engine) : EngineLimits e e := ⟨id, rfl, rfl⟩
theorem FrameLimits.refl (f : FrameCycle) : FrameLimits f f := ⟨id, id⟩
theorem IdleLimits.refl (t : IdleBias) : IdleLimits t t := ⟨id, id⟩

theorem ChannelLimits.trans {x y z : Channel} (h : ChannelLimits x y) (k : ChannelLimits y z) : ChannelLimits x z :=
  ⟨k.drift ∘ h.drift, k.runs ∘ h.runs, k.settings ∘ h.settings⟩

theorem PortLimits.trans {p q r : Port} (h : PortLimits p q) (k : PortLimits q r) : PortLimits p r :=
  ⟨k.counts ∘ h.counts, k.settings ∘ h.settings⟩

theorem SetupLimits.trans {x y z : Setup} (h : SetupLimits x y) (k : SetupLimits y z) : SetupLimits x z :=
  ⟨k.counts ∘ h.counts, k.armed.trans h.armed, k.config.trans h.config⟩

theorem EngineLimits.trans {e f g : Engine} (h : EngineLimits e f) (k : EngineLimits f g) : EngineLimits e g :=
  ⟨k.counts ∘ h.counts, k.config.trans h.config, k.msCount.trans h.msCount⟩

theorem FrameLimits.trans {f g h : FrameCycle} (j : FrameLimits f g) (k : FrameLimits g h) : FrameLimits f h :=
  ⟨k.counts ∘ j.counts, k.settings ∘ j.settings⟩

theorem IdleLimits.trans {t u v : IdleBias} (h : IdleLimits t u) (k : IdleLimits u v) : IdleLimits t v :=
  ⟨k.counts ∘ h.counts, k.settings ∘ h.settings⟩

/-- A change of the state that keeps every limit by itself, with the setups' configurations, the engine's and the millisecond in progress
as they are. A block that is not named is the same. -/
structure LimitsKept (s t : State) : Prop where
  chans : ∀ c, ChannelLimits (s.chan c) (t.chan c) := by exact fun _ => .refl _
  roll : RollCounted s.transport → RollCounted t.transport := by exact fun h => h
  flash : FlashCanonical s → FlashCanonical t := by exact fun h => h
  link : LinkSound s.link → LinkSound t.link := by exact fun h => h
  port : PortLimits s.port t.port := by exact .refl _
  setups : ∀ i, SetupLimits (s.setup i) (t.setup i) := by exact fun _ => .refl _
  engine : EngineLimits s.engine t.engine := by exact .refl _
  frame : FrameLimits s.frame t.frame := by exact .refl _
  idle : IdleLimits s.idle t.idle := by exact .refl _

theorem LimitsKept.refl (s : State) : LimitsKept s s := {}

theorem LimitsKept.trans {s t u : State} (h : LimitsKept s t) (k : LimitsKept t u) : LimitsKept s u where
  chans c := (h.chans c).trans (k.chans c)
  roll := k.roll ∘ h.roll
  flash := k.flash ∘ h.flash
  link := k.link ∘ h.link
  port := h.port.trans k.port
  setups i := (h.setups i).trans (k.setups i)
  engine := h.engine.trans k.engine
  frame := h.frame.trans k.frame
  idle := h.idle.trans k.idle

/-- A change after one that keeps the limits; without a proof given, the change before it touches no block that has any. -/
theorem LimitsKept.after {s t u : State} (k : LimitsKept t u) (h : LimitsKept s t := by exact {}) : LimitsKept s u := h.trans k

/-- The limits are kept where the blocks that have some are equal. -/
theorem LimitsKept.of_eq {s t : State} (chans : t.chans = s.chans := by simp) (transport : t.transport = s.transport := by simp)
    (flash : t.flash = s.flash := by simp) (link : t.link = s.link := by simp) (port : t.port = s.port := by simp)
    (setups : t.setups = s.setups := by simp) (engine : t.engine = s.engine := by simp) (frame : t.frame = s.frame := by simp)
    (idle : t.idle = s.idle := by simp) : LimitsKept s t where
  chans c := by rw [State.chan, State.chan, chans]; exact .refl _
  roll := by rw [transport]; exact id
  flash := by unfold FlashCanonical; rw [flash]; exact id
  link := by rw [link]; exact id
  port := by rw [port]; exact .refl _
  setups i := by rw [State.setup, State.setup, setups]; exact .refl _
  engine := by rw [engine]; exact .refl _
  frame := by rw [frame]; exact .refl _
  idle := by rw [idle]; exact .refl _

/-- A choice between two changes. -/
theorem LimitsKept.ite {s t u : State} (c : Prop) [Decidable c] (ht : c → LimitsKept s t) (hu : ¬c → LimitsKept s u) :
    LimitsKept s (if c then t else u) := by
  split
  · exact ht ‹_›
  · exact hu ‹_›

/-! ## Changes of one block -/

theorem raise_limits (s : State) (e : Event) : LimitsKept s (s.raise e) := {}

theorem drivesOff_limits (s : State) : LimitsKept s s.drivesOff := {}

theorem setDrive_limits (s : State) (c : Chan) (d : Drive) : LimitsKept s (s.setDrive c d) := {}

theorem setChan_limits {s : State} {c : Chan} {x : Channel} (h : ChannelLimits (s.chan c) x) : LimitsKept s (s.setChan c x) where
  chans d := by
    rw [State.setChan_chan]
    split
    · next hd => rw [hd]; exact h
    · exact .refl _

theorem setSetup_limits {s : State} {i : Fin 8} {x : Setup} (h : SetupLimits (s.setup i) x) : LimitsKept s (s.setSetup i x) where
  setups j := by
    rw [State.setSetup_setup]
    split
    · next hj => rw [hj]; exact h
    · exact .refl _

/-- The frame record changes in fields that no group changes, and perhaps its stride count, which becomes 0. -/
theorem FrameCycle.bounded.congr {f g : FrameCycle} (h : f.bounded) (latched : g.latched = f.latched) (stride : g.stride ≤ 4) :
    g.bounded := ⟨latched ▸ h.1, stride⟩

theorem groupNotice_limits (f : FrameCycle) (k : GroupKind) : FrameLimits f (groupNotice f k) := by
  rcases groupNotice_cases f k with h | ⟨m, h⟩ <;> rw [h]
  · exact .refl f
  · exact ⟨fun hf => hf.congr rfl (Nat.zero_le 4), id⟩

/-! ## A channel's own changes -/

theorem clampTo_natAbs (limit : Nat) (x : Int) : (clampTo limit x).natAbs ≤ limit := by
  unfold clampTo
  omega

/-- A quotient rounded toward zero lies between zero and what is divided. -/
theorem tdiv_between (a : Int) (d : Nat) : min 0 a ≤ a.tdiv d ∧ a.tdiv d ≤ max 0 a := by
  have habs : (a.tdiv d).natAbs ≤ a.natAbs := by
    rw [Int.natAbs_tdiv]
    exact Nat.div_le_self ..
  rcases Int.le_total 0 a with ha | ha
  · have := Int.tdiv_nonneg ha (Int.natCast_nonneg d)
    omega
  · have := Int.tdiv_nonneg (Int.neg_nonneg_of_nonpos ha) (Int.natCast_nonneg d)
    rw [Int.neg_tdiv] at this
    omega

theorem dropCapture_limits (x : Channel) : ChannelLimits x x.dropCapture := by
  unfold Channel.dropCapture
  split
  · exact ⟨id, id, id⟩
  · exact .refl x

theorem dropCapture_config (x : Channel) : x.dropCapture.config = x.config := by
  unfold Channel.dropCapture
  split <;> rfl

/-- A channel whose drift correction becomes 0 is within every drift limit. -/
theorem driftWithin_zero {x : Channel} (h : x.drift = 0) : x.driftWithin := by simp [Channel.driftWithin, h]

/-- Entry to WARMING with a target that the settings give (R137, R141). -/
theorem warm_limits (x : Channel) {n : Nat} (h : x.config.inRange → 1 ≤ n ∧ n ≤ 64) : ChannelLimits x (x.warm n) where
  drift := id
  runs hx := ⟨Nat.zero_le _, hx.2⟩
  settings := fun ⟨hconfig, _, _, href⟩ => ⟨hconfig, (h hconfig).1, (h hconfig).2, href⟩

theorem warm_settle_limits (x : Channel) : ChannelLimits x (x.warm x.config.settleCount) :=
  warm_limits x fun ⟨_, _, hlow, hhigh, _⟩ => ⟨by omega, hhigh⟩

theorem warm_rewake_limits (x : Channel) : ChannelLimits x (x.warm x.config.rewakeCount) :=
  warm_limits x fun ⟨_, _, _, _, hlow, hhigh, _⟩ => ⟨hlow, by omega⟩

theorem atLatch_limits (x : Channel) : ChannelLimits x x.atLatch := by
  refine (dropCapture_limits x).trans ?_
  unfold Channel.atLatch
  dsimp only
  split
  · exact warm_rewake_limits _
  · exact .refl _

theorem setReference_limits (x : Channel) {v : Nat} (h : 1 ≤ v ∧ v ≤ 4095) : ChannelLimits x (x.setReference v) := by
  have href : ChannelLimits x.dropCapture { x.dropCapture with ref := v } :=
    ⟨id, id, fun ⟨hconfig, hlow, hhigh, _⟩ => ⟨hconfig, hlow, hhigh, h⟩⟩
  refine (dropCapture_limits x).trans (href.trans ?_)
  unfold Channel.setReference
  dsimp only
  split
  · exact ⟨id, fun hx => ⟨Nat.zero_le _, hx.2⟩, id⟩
  · exact .refl _

/-- A capture completed by a reading in 1..4095 sets a reference below 4095 (R145). -/
theorem read_limits (x : Channel) {m : Nat} (h0 : m ≠ 0) (hm : m ≤ 4095) : ChannelLimits x (x.read m) := by
  unfold Channel.read Channel.takeCapture
  split
  · split
    · exact ⟨id, id, id⟩
    · exact ⟨id, id, fun ⟨hconfig, hlow, hhigh, _⟩ => ⟨hconfig, hlow, hhigh, Nat.pos_of_ne_zero h0, hm⟩⟩
  · exact ⟨id, id, id⟩

theorem warmSample_limits (x : Channel) (m : Nat) (raw : Int) (last : Option Int) :
    ChannelLimits x { x.warmSample m raw with lastRaw := last } where
  drift _ := clampTo_natAbs _ _
  runs hx := by
    refine ⟨?_, hx.2⟩
    show (if x.stable m raw then satAdd 64 x.stableRun 1 else 0) ≤ 64
    unfold satAdd
    split <;> omega
  settings := id

theorem driftSample_limits (x : Channel) (m : Nat) (raw : Int) (last : Option Int) :
    ChannelLimits x { x.driftSample m raw with lastRaw := last } := by
  unfold Channel.driftSample
  split
  · refine ⟨fun _ => ?_, fun hx => ⟨hx.1, Nat.min_le_left ..⟩, id⟩
    simp only [Channel.driftWithin]
    split <;> simp
  · next hin =>
    refine ⟨fun hx => ?_, fun hx => ⟨hx.1, Nat.zero_le _⟩, id⟩
    have hraw : raw.natAbs ≤ x.config.driftLimit := by
      simp only [Channel.outOfLimit, Bool.or_eq_true, decide_eq_true_eq, not_or, Nat.not_lt] at hin
      exact hin.2
    have hstep := tdiv_between (raw - x.drift) x.config.driftDivisor
    simp only [Channel.driftWithin] at hx ⊢
    omega

theorem configure_limits (x : Channel) {c : ChannelConfig} (h : c.inRange) : ChannelLimits x (x.configure c) where
  drift _ := clampTo_natAbs _ _
  runs := id
  settings := fun ⟨_, hrest⟩ => ⟨h, hrest⟩

theorem softChannel_limits (x : Channel) : ChannelLimits x (softChannel x) where
  drift _ := driftWithin_zero rfl
  runs _ := ⟨Nat.zero_le _, Nat.zero_le _⟩
  settings := id

/-! ## A setup's and a frame's own changes -/

theorem charge_limits (x : Setup) (r : Report) : SetupLimits x (x.charge r) := by
  refine ⟨fun ⟨hexposed, hspoiled, hrefused⟩ => ?_, charge_armed x r, charge_config x r⟩
  unfold Setup.charge
  split
  · exact ⟨Nat.min_le_left .., hspoiled, hrefused⟩
  · exact ⟨hexposed, Nat.min_le_left .., hrefused⟩
  · exact ⟨hexposed, hspoiled, Nat.min_le_left ..⟩

theorem starve_bounded {l : Latched} (h : l.bounded) : l.starve.bounded := by
  obtain ⟨hlines, -, hlow, hhigh⟩ := h
  exact ⟨hlines, Nat.min_le_left .., hlow, hhigh⟩

theorem countLine_bounded {l : Latched} (h : l.bounded) (x : LineContext) : (l.countLine x).bounded := by
  obtain ⟨-, hstarved, -, -⟩ := h
  exact ⟨Nat.min_le_left .., hstarved, Nat.min_le_left .., Nat.min_le_left ..⟩

theorem strideNext_le (f : FrameCycle) : f.strideNext ≤ 4 := Nat.min_le_left ..

theorem advance_limits (t : IdleBias) : IdleLimits t t.advance := by
  unfold IdleBias.advance
  split
  · next h => exact ⟨fun ht => ⟨ht.1, h⟩, id⟩
  · split
    · next h => exact ⟨fun _ => ⟨h, Nat.zero_le _⟩, id⟩
    · exact .refl t

/-! ## The engine's own changes -/

theorem nextPhase_limits (e : Engine) : EngineLimits e e.nextPhase :=
  ⟨fun ⟨period, _, rest⟩ => ⟨period, Nat.mod_lt _ (by decide), rest⟩, rfl, rfl⟩

theorem start_limits (e : Engine) : EngineLimits e e.start :=
  ⟨fun ⟨period, phase, _, _⟩ => ⟨⟨Nat.zero_le _, period.2⟩, phase, Nat.zero_le _, nofun⟩, rfl, rfl⟩

/-- The period captured is the period count (R119). -/
theorem capture_limits (e : Engine) : EngineLimits e (e.capture e.periodCount) :=
  ⟨fun ⟨period, rest⟩ => ⟨⟨Nat.zero_le _, period.1⟩, rest⟩, rfl, rfl⟩

theorem number_limits (e : Engine) (m f : Nat) : EngineLimits e (e.number m f) := by
  refine ⟨fun ⟨period, phase, good, _⟩ => ⟨period, phase, good, fun n hn => ?_⟩, rfl, rfl⟩
  cases hn
  exact Nat.min_le_left ..

/-- The good revolutions become 0. -/
theorem notGood_limits (e : Engine) : EngineLimits e { e with good := 0 } :=
  ⟨fun ⟨period, phase, _, revolution⟩ => ⟨period, phase, Nat.zero_le _, revolution⟩, rfl, rfl⟩

theorem acquiringFacet_limits (e : Engine) (p f : Nat) : EngineLimits e (e.acquiringFacet p f) := by
  unfold Engine.acquiringFacet
  cases e.revCount with
  | none => exact .refl e
  | some m =>
    refine (number_limits e m f).trans ?_
    dsimp only
    split
    · exact ⟨(notGood_limits _).counts, rfl, rfl⟩
    · exact .refl _

theorem newRevolution_limits (e : Engine) : EngineLimits e e.newRevolution := by
  refine ⟨fun ⟨period, phase, good, _⟩ => ⟨period, phase, good, fun n hn => ?_⟩, rfl, rfl⟩
  cases hn
  exact Nat.zero_le _

theorem goodNext_le {e : Engine} (h : e.good ≤ 2) (f : Nat) : e.goodNext f ≤ 2 := by
  unfold Engine.goodNext
  split
  · exact Nat.min_le_left ..
  · split
    · exact h
    · exact Nat.zero_le _

theorem stalled_limits (e : Engine) : EngineLimits e e.stalled :=
  ⟨fun ⟨period, phase, _, _⟩ => ⟨period, phase, Nat.zero_le _, nofun⟩, rfl, rfl⟩

end Sys2Proof.Machine
end

section
/-! Every shared operation keeps the limits: pulls, groups and windows, the end of a flight, the channels, the engine, the timers, the words of
the port and the save. -/

namespace Sys2Proof.Machine

-- one theorem after another, as in the tests: a checker's memory limit leaves no room for many threads at once
set_option Elab.async false

open Sys2Proof

/-! ## Pulls, groups and windows -/

/-- One PULL with film to pull keeps the roll's accounts (R152). -/
theorem issuePull_counted {s : State} {r : Roll} (h : RollCounted s.transport) (hr : s.transport.roll = some r) (hleft : 1 ≤ r.remaining)
    (hadv : s.transport.advance = none) : RollCounted (issuePull s).transport := by
  obtain ⟨hsum, hlow⟩ := h.roll r hr
  rw [issuePull_roll hr]
  refine ⟨fun q hq => ?_, fun a ha => ?_⟩
  · cases hq
    exact ⟨by dsimp only; omega, hlow⟩
  · rw [show s.transport.advance = some a from ha] at hadv
    cases hadv

/-- A pull of a roll advance with pulls still to issue keeps the roll's accounts (R152, R159). -/
theorem advancePull_counted {s : State} {a : Advance} (h : RollCounted s.transport) (ha : s.transport.advance = some a)
    (hissue : 1 ≤ a.toIssue) : RollCounted (advancePull s).transport := by
  obtain ⟨r, hr, hroom, -⟩ := h.advance a ha
  obtain ⟨hsum, hlow⟩ := h.roll r hr
  rw [advancePull_transport ha hr]
  refine ⟨fun q hq => ?_, fun b hb => ?_⟩
  · cases hq
    exact ⟨by dsimp only; omega, hlow⟩
  · cases hb
    exact ⟨_, rfl, by dsimp only; omega, nofun⟩

/-- The limits are kept where only the transport, the outputs and the events differ, and the roll's accounts are kept. -/
theorem LimitsKept.of_roll {s t : State} (roll : RollCounted s.transport → RollCounted t.transport)
    (chans : t.chans = s.chans := by simp) (flash : t.flash = s.flash := by simp) (link : t.link = s.link := by simp)
    (port : t.port = s.port := by simp) (setups : t.setups = s.setups := by simp) (engine : t.engine = s.engine := by simp)
    (frame : t.frame = s.frame := by simp) (idle : t.idle = s.idle := by simp) : LimitsKept s t :=
  have hrest : LimitsKept s { t with transport := s.transport } := .of_eq chans rfl flash link port setups engine frame idle
  ⟨hrest.chans, roll, hrest.flash, hrest.link, hrest.port, hrest.setups, hrest.engine, hrest.frame, hrest.idle⟩

theorem advancePull_limits {s : State} (h : ∀ a, s.transport.advance = some a → RollCounted s.transport → 1 ≤ a.toIssue) :
    LimitsKept s (advancePull s) := by
  refine .of_roll fun hroll => ?_
  cases ha : s.transport.advance with
  | none => simpa [advancePull, ha] using hroll
  | some a => exact advancePull_counted hroll ha (h a ha hroll)

theorem resumeAdvance_limits (s : State) : LimitsKept s (resumeAdvance s) := by
  rcases resumeAdvance_cases s with h | ⟨n, l, ha, h⟩
  · rw [h]; exact .refl s
  · rw [h]
    refine advancePull_limits fun a ha' hroll => ?_
    rw [ha] at ha'
    cases ha'
    obtain ⟨r, -, -, hwait⟩ := hroll.advance _ ha
    exact hwait rfl

theorem endAdvance_limits (s : State) (x : LastAdvance) : LimitsKept s (endAdvance s x) where
  roll h := ⟨h.roll, nofun⟩

theorem groupEnded_limits (s : State) (k : GroupKind) : LimitsKept s (groupEnded s k) :=
  (resumeAdvance_limits _).after { frame := groupNotice_limits s.frame k }

theorem beginGroup_limits (s : State) (k : GroupKind) (n : Nat) : LimitsKept s (beginGroup s k n) :=
  .ite _ (fun _ => groupEnded_limits s k) fun _ => { roll := fun h => ⟨h.roll, h.advance⟩ }

theorem windowPassed_limits (s : State) : LimitsKept s (windowPassed s) := by
  unfold windowPassed
  split
  · exact .refl s
  · exact (beginGroup_limits _ _ _).after { frame := ⟨id, id⟩ }

/-- The monitor window is no limit. -/
theorem window_limits (s : State) (w : Window) (d : Rgb Drive) :
    LimitsKept s { s with engine := { s.engine with window := w }, drives := d } where
  engine := ⟨id, rfl, rfl⟩

theorem endWindow_limits (s : State) : LimitsKept s (endWindow s) := by
  unfold endWindow
  split
  · exact .refl s
  · exact (window_limits s .none s.drives).trans (.ite _ (fun _ => windowPassed_limits _) fun _ => .refl _)
  · exact (window_limits s .none _).trans (.ite _ (fun _ => windowPassed_limits _) fun _ => .refl _)

theorem dropSample_limits (s : State) (c : Chan) : LimitsKept s (dropSample s c) := by
  refine (setDrive_limits s c .off).trans ?_
  unfold dropSample
  dsimp only
  split
  · refine .ite _ (fun _ => ?_) fun _ => .refl _
    exact (window_limits _ _ _).trans (.ite _ (fun _ => endWindow_limits _) fun _ => .refl _)
  · exact .refl _

/-! ## The end of a flight -/

theorem returnPins_limits (s : State) (x : Bool) : LimitsKept s (returnPins s x) := .of_eq

theorem chargeFrame_limits (s : State) (r : Result) (c : Option Cause) : LimitsKept s (chargeFrame s r c) := by
  unfold chargeFrame
  split
  · exact setSetup_limits (charge_limits _ _)
  · exact .refl s

theorem leaveFlight_limits (s : State) (r : Result) (c : Option Cause) : LimitsKept s (leaveFlight s r c) where
  frame := ⟨id, id⟩
  idle := ⟨fun _ => ⟨Nat.zero_le _, Nat.zero_le _⟩, id⟩

theorem spoilPort_limits (p : Port) : PortLimits p (spoilPort p) := by
  unfold spoilPort
  dsimp only
  split <;> exact ⟨id, id⟩

theorem spoil_limits (s : State) (c : Cause) : LimitsKept s (spoil s c) := by
  refine .ite _ (fun _ => ?_) fun _ => .refl s
  have hdark : LimitsKept s (State.drivesOff { s with line := none }) := {}
  have hpins := (hdark.trans (endWindow_limits _)).trans (returnPins_limits _ false)
  exact (leaveFlight_limits _ _ _).after ((raise_limits _ _).after ((chargeFrame_limits _ _ _).after (hpins.trans
    { port := spoilPort_limits _ })))

theorem settle_limits (s : State) : LimitsKept s (settle s) := by
  let charged := chargeFrame (returnPins s true) .exposed none
  have hcharge : LimitsKept s charged := (chargeFrame_limits _ _ _).after (returnPins_limits s true)
  exact (leaveFlight_limits _ _ _).after (hcharge.trans { port := ⟨id, id⟩ })

/-! ## Readiness and the channels -/

theorem enterExposing_limits (s : State) : LimitsKept s (enterExposing s) :=
  (beginGroup_limits _ _ _).after { frame := ⟨fun h => ⟨h.1, Nat.zero_le 4⟩, id⟩ }

theorem testReady_limits (s : State) : LimitsKept s (testReady s) := .ite _ (fun _ => enterExposing_limits s) fun _ => .refl s

theorem darken_limits (s : State) (c : Chan) : LimitsKept s (darken s c) := by
  refine (dropSample_limits _ c).after (setChan_limits ((dropCapture_limits _).trans ?_))
  exact ⟨fun _ => driftWithin_zero rfl, id, id⟩

theorem enterBiased_limits (s : State) (c : Chan) : LimitsKept s (enterBiased s c) := by
  refine (dropSample_limits _ c).after (setChan_limits ((dropCapture_limits _).trans ?_))
  exact ⟨id, id, id⟩

theorem enterDark_limits (s : State) (c : Chan) : LimitsKept s (enterDark s c) := (darken_limits s c).trans (spoil_limits _ _)

theorem enterFault_limits (s : State) (c : Chan) (x : FaultCause) : LimitsKept s (enterFault s c x) := by
  refine (spoil_limits _ _).after ((raise_limits _ _).after ((dropSample_limits _ c).after (setChan_limits ((dropCapture_limits _).trans ?_))))
  exact ⟨id, id, id⟩

theorem enterReady_limits (s : State) (c : Chan) : LimitsKept s (enterReady s c) := by
  refine (testReady_limits _).after ((raise_limits _ _).after (setChan_limits ?_))
  exact ⟨id, fun h => ⟨h.1, Nat.zero_le _⟩, id⟩

/-! ## The engine -/

/-- The engine's state changes and its good revolutions become 0. -/
theorem engine_limits {s : State} {e : Engine} (h : EngineLimits s.engine e) : LimitsKept s { s with engine := e } := { engine := h }

theorem leaveLocked_limits (s : State) (next : EngineState) : LimitsKept s (leaveLocked s next) := by
  let r := State.raise { s with engine := { s.engine with state := next, good := 0 } } .lockLost
  have hleft : LimitsKept s r := { engine := ⟨(notGood_limits s.engine).counts, rfl, rfl⟩ }
  have hspoil : LimitsKept s (if r.frame.state = .exposing then spoil r .sync else r) :=
    hleft.trans (.ite _ (fun _ => spoil_limits r .sync) fun _ => .refl r)
  exact (hspoil.trans (drivesOff_limits _)).trans (endWindow_limits _)

theorem facetsChanged_limits (s : State) : LimitsKept s (facetsChanged s) := by
  unfold facetsChanged
  split
  · exact leaveLocked_limits s _
  · exact engine_limits (notGood_limits _)
  · exact .refl s

theorem periodFiguresChanged_limits (s : State) : LimitsKept s (periodFiguresChanged s) := by
  unfold periodFiguresChanged
  split
  · exact leaveLocked_limits s _
  · exact engine_limits (notGood_limits _)
  · exact .refl s

theorem stallEngine_limits (s : State) : LimitsKept s (stallEngine s) := by
  unfold stallEngine
  split
  · exact .refl s
  · exact engine_limits (stalled_limits _)
  · exact (leaveLocked_limits _ _).after (engine_limits (stalled_limits _))

theorem gainLock_limits (s : State) : LimitsKept s (gainLock s) := (testReady_limits _).after { engine := ⟨id, rfl, rfl⟩ }

theorem exposeLine_limits (s : State) (k : Nat) : LimitsKept s (exposeLine s k) := by
  unfold exposeLine
  split
  · next l _ _ _ =>
    refine { engine := ⟨id, rfl, rfl⟩, port := ?_ }
    unfold Port.setBuf
    split <;> exact ⟨id, id⟩
  · exact .refl s

/-- The stride count raised by 1, saturating at 4 (R89). -/
theorem stride_limits (s : State) : LimitsKept s { s with frame := { s.frame with stride := s.frame.strideNext } } where
  frame := ⟨fun h => ⟨h.1, strideNext_le _⟩, id⟩

theorem offerFacet_limits (s : State) (k : Nat) : LimitsKept s (offerFacet s k) := by
  unfold offerFacet
  cases facetUse s with
  | uncounted => exact .refl s
  | passes => exact stride_limits s
  | starved =>
    refine { frame := ⟨fun h => ⟨fun k hk => ?_, strideNext_le _⟩, id⟩ }
    obtain ⟨l, hl, rfl⟩ := Option.map_eq_some_iff.1 hk
    exact starve_bounded (h.1 l hl)
  | carries => exact (stride_limits s).trans (exposeLine_limits _ _)

theorem scheduleSample_limits (s : State) (phase k : Nat) (carries : Bool) : LimitsKept s (scheduleSample s phase k carries) :=
  .ite _ (fun _ => { engine := ⟨id, rfl, rfl⟩ }) fun _ => .refl s

theorem lockedFacet_limits (s : State) (phase p : Nat) : LimitsKept s (lockedFacet s phase p) := by
  have hnumber := engine_limits (s := s) (number_limits s.engine (s.engine.revCount.getD 0) s.optics.cur.facets)
  refine .ite _ (fun _ => (leaveLocked_limits _ _).after (hnumber.trans { engine := ⟨id, rfl, rfl⟩ })) fun _ => ?_
  exact (hnumber.trans (offerFacet_limits _ _)).trans (scheduleSample_limits _ _ _ _)

theorem takeFacet_limits (s : State) : LimitsKept s (takeFacet s) := by
  have hcount : s.engine.periodCount = (endWindow s).engine.nextPhase.periodCount := by simp [Engine.nextPhase]
  refine ((endWindow_limits s).trans (engine_limits (nextPhase_limits _))).trans ?_
  unfold takeFacet
  dsimp only
  split
  · exact engine_limits (start_limits _)
  · refine engine_limits (.trans ?_ (acquiringFacet_limits _ _ _))
    rw [hcount]
    exact capture_limits _
  · refine .trans (engine_limits ?_) (lockedFacet_limits _ _ _)
    rw [hcount]
    exact capture_limits _

/-! ## A line's end, the window and the readings -/

theorem setBuf_limits (p : Port) (n : Nat) (b : LineBuffer) : PortLimits p (p.setBuf n b) := by
  unfold Port.setBuf
  split <;> exact ⟨id, id⟩

theorem endLine_limits (s : State) (x : LineContext) : LimitsKept s (endLine s x) where
  port := setBuf_limits _ _ _
  frame := ⟨fun h => ⟨fun k hk => by
    obtain ⟨l, hl, rfl⟩ := Option.map_eq_some_iff.1 hk
    exact countLine_bounded (h.1 l hl) _, h.2⟩, id⟩

theorem completeLine_limits (s : State) (x : LineContext) : LimitsKept s (completeLine s x) := by
  have hline : LimitsKept s (if frameComplete (endLine s x) then settle (endLine s x) else endLine s x) :=
    (endLine_limits s x).trans (.ite _ (fun _ => settle_limits _) fun _ => .refl _)
  exact hline.trans (.ite _ (fun _ => .refl _) fun _ => windowPassed_limits _)

theorem completeIfDue_limits (s : State) : LimitsKept s (completeIfDue s) := by
  unfold completeIfDue
  split
  · exact .ite _ (fun _ => completeLine_limits s _) fun _ => .refl s
  · exact .refl s

theorem openWindow_limits (s : State) (k : Nat) (line : Bool) : LimitsKept s (openWindow s k line) :=
  .ite _ (fun _ => endWindow_limits s) fun _ => window_limits s _ _

theorem openIfDue_limits (s : State) : LimitsKept s (openIfDue s) := by
  refine .ite _ (fun _ => ?_) fun _ => .refl s
  unfold openScheduled
  split
  · exact openWindow_limits s _ _
  · exact .refl s

theorem closeRead_limits (s : State) : LimitsKept s (closeRead s) := by
  unfold closeRead
  split
  · exact endWindow_limits s
  · exact .refl s

theorem handleSample_limits (s : State) (c : Chan) {m : Nat} (h0 : m ≠ 0) (hm : m ≤ 4095) : LimitsKept s (handleSample s c m) := by
  have hread := read_limits (s.chan c) h0 hm
  simp only [handleSample]
  split
  · exact (setChan_limits (hread.trans (warmSample_limits _ m _ _))).trans
      (.ite _ (fun _ => enterReady_limits _ c) fun _ => .refl _)
  · exact (setChan_limits (hread.trans (driftSample_limits _ m _ _))).trans
      (.ite _ (fun _ => enterFault_limits _ c _) fun _ => .refl _)
  · exact .refl s

theorem handleReading_limits (s : State) (c : Chan) {m : Nat} (hm : m ≤ 4095) : LimitsKept s (handleReading s c m) :=
  .ite _ (fun _ => (enterFault_limits _ c _).after (setChan_limits ⟨id, id, id⟩)) fun h0 => handleSample_limits s c h0 hm

/-! ## The timers -/

theorem biasIfReady_limits (s : State) (c : Chan) : LimitsKept s (biasIfReady s c) :=
  .ite _ (fun _ => enterBiased_limits s c) fun _ => .refl s

theorem autoBias_limits (s : State) : LimitsKept s (autoBias s) := by
  have hidle : LimitsKept s { s with idle := { s.idle with seconds := 0, millis := 0 } } :=
    { idle := ⟨fun _ => ⟨Nat.zero_le _, Nat.zero_le _⟩, id⟩ }
  exact ((hidle.trans (biasIfReady_limits _ .red)).trans (biasIfReady_limits _ .grn)).trans (biasIfReady_limits _ .blu)

theorem startTimeoutPassed_limits (s : State) : LimitsKept s (startTimeoutPassed s) :=
  .ite _ (fun _ => spoil_limits s _) fun _ => .refl s

theorem lineWaitPassed_limits (s : State) : LimitsKept s (lineWaitPassed s) :=
  .ite _ (fun _ => spoil_limits s _) fun _ => .refl s

theorem warmTimeoutPassed_limits (s : State) (c : Chan) : LimitsKept s (warmTimeoutPassed s c) :=
  .ite _ (fun _ => enterFault_limits s c _) fun _ => .refl s

theorem pullTimeoutPassed_limits (s : State) : LimitsKept s (pullTimeoutPassed s) := by
  unfold pullTimeoutPassed
  split
  · exact (endAdvance_limits s _).trans (raise_limits _ _)
  · exact .refl s

theorem idleTick_limits (s : State) : LimitsKept s (idleTick s) := by
  have hadvance : LimitsKept s { s with idle := s.idle.advance } := { idle := advance_limits _ }
  exact .ite _ (fun _ => hadvance.trans (.ite _ (fun _ => autoBias_limits _) fun _ => .refl _)) fun _ => .refl s

/-- The timers of the frame record are no limit. -/
theorem frameTimer_limits (s : State) (start wait : Nat) :
    LimitsKept s { s with frame := { s.frame with startTimer := start, lineWait := wait } } where
  frame := ⟨id, id⟩

theorem startTick_limits (s : State) : LimitsKept s (startTick s) :=
  .ite _ (fun _ => .ite _ (fun _ => startTimeoutPassed_limits s) fun _ => frameTimer_limits s _ _) fun _ => .refl s

theorem lineWaitTick_limits (s : State) : LimitsKept s (lineWaitTick s) :=
  .ite _ (fun _ => .ite _ (fun _ => lineWaitPassed_limits s) fun _ => frameTimer_limits s _ _) fun _ => .refl s

theorem facetTick_limits (s : State) : LimitsKept s (facetTick s) := by
  unfold facetTick
  split
  · exact .refl s
  · exact .ite _ (fun _ => stallEngine_limits s) fun _ => { engine := ⟨id, rfl, rfl⟩ }

theorem warmTick_limits (s : State) (c : Chan) : LimitsKept s (warmTick s c) :=
  .ite _ (fun _ => .ite _ (fun _ => warmTimeoutPassed_limits s c) fun _ => setChan_limits ⟨id, id, id⟩) fun _ => .refl s

theorem pullTick_limits (s : State) : LimitsKept s (pullTick s) := by
  unfold pullTick
  split
  · exact .ite _ (fun _ => pullTimeoutPassed_limits s) fun _ => { roll := fun h => ⟨h.roll, h.advance⟩ }
  · exact .refl s

theorem failFlash_limits (s : State) (v : Save) : LimitsKept s (failFlash s v) := by
  unfold failFlash
  split
  · exact {}
  · exact .refl s
  · exact { flash := fun h => carryOut_wf v.op h }

theorem failSave_limits (s : State) : LimitsKept s (failSave s) := by
  unfold failSave
  split
  · exact .refl s
  · exact (failFlash_limits s _).trans {}

theorem imageTick_limits (s : State) : LimitsKept s (imageTick s) :=
  .ite _ (fun _ => .ite _ (fun _ => failSave_limits s) fun _ => {}) fun _ => .refl s

theorem tick_limits (s : State) : LimitsKept s (tick s) := by
  have hframe := (((idleTick_limits s).trans (startTick_limits _)).trans (lineWaitTick_limits _)).trans (facetTick_limits _)
  have hwarm := ((hframe.trans (warmTick_limits _ .red)).trans (warmTick_limits _ .grn)).trans (warmTick_limits _ .blu)
  exact (hwarm.trans (pullTick_limits _)).trans (imageTick_limits _)

/-! ## The words of the port -/

theorem tellEnd_limits (f : FrameCycle) : FrameLimits f (tellEnd f) := by
  unfold tellEnd
  split <;> exact ⟨id, id⟩

theorem endTold_limits (s : State) (isEnd : Bool) : LimitsKept s (endTold s isEnd) :=
  .ite _ (fun _ => { frame := tellEnd_limits _ }) fun _ => .refl s

theorem portError_limits (s : State) : LimitsKept s (portError s) where
  port := ⟨fun h => ⟨h.1, Nat.min_le_left ..⟩, id⟩

theorem refuse_limits (f : FrameCycle) (slot : Option (Fin 8)) (tag : Option Word32) (c : Cause) : FrameLimits f (f.refuse slot tag c) :=
  ⟨fun h => ⟨nofun, h.2⟩, id⟩

theorem refuseFormat_limits (s : State) : LimitsKept s (refuseFormat s) where
  frame := refuse_limits _ _ _ _

theorem refuseIn_limits (s : State) (i : Fin 8) (tag : Word32) (c : Cause) : LimitsKept s (refuseIn s i tag c) :=
  (setSetup_limits (charge_limits _ (refusedReport tag c))).trans { frame := refuse_limits _ _ _ _ }

theorem takeFailure_limits (s : State) (withEnd : Bool) : LimitsKept s (takeFailure s withEnd) :=
  (refuseFormat_limits s).trans (endTold_limits _ withEnd)

theorem headerFailed_limits (s : State) (isEnd : Bool) : LimitsKept s (headerFailed s isEnd) :=
  .ite _ (fun _ => takeFailure_limits s isEnd) fun _ => { frame := ⟨id, id⟩ }

theorem deliver_limits (s : State) : LimitsKept s (deliver s) :=
  .ite _ (fun _ => { frame := ⟨id, id⟩ }) fun _ => .refl s

/-- A change of the port in fields that have no limit. -/
theorem port_limits {s : State} {p : Port} (h : PortLimits s.port p) : LimitsKept s { s with port := p } := { port := h }

theorem framingError_limits (s : State) (next : PortState) (isEnd : Bool) : LimitsKept s (framingError s next isEnd) := by
  refine (portError_limits s).trans ?_
  unfold framingError
  dsimp only
  split
  · exact (headerFailed_limits _ _).after { port := ⟨id, id⟩ }
  · let p := portError s
    have hspoil : LimitsKept p (if p.port.settled then p else spoil p .format) := .ite _ (fun _ => .refl _) fun _ => spoil_limits _ _
    exact (endTold_limits _ _).after (hspoil.trans { port := ⟨id, id⟩ })

theorem strayWord_limits (s : State) : LimitsKept s (strayWord s) :=
  .after (.ite _ (fun _ => raise_limits _ _) fun _ => .refl _) { port := ⟨fun h => ⟨Nat.min_le_left .., h.2⟩, id⟩ }

theorem lineReceived_limits (s : State) : LimitsKept s (lineReceived s) := by
  have hcounted : PortLimits s.port { s.port with
      state := .betweenLines, received := s.port.received + 1, expected := s.port.expected + 1 } := ⟨id, id⟩
  unfold lineReceived
  dsimp only
  split
  · exact .ite _ (fun _ => { port := hcounted.trans (setBuf_limits _ _ _), frame := ⟨id, id⟩ }) fun _ => port_limits hcounted
  · exact port_limits hcounted

theorem storeWord_limits (s : State) (w : Word32) : PortLimits s.port (storeWord s w) := by
  unfold storeWord
  dsimp only
  split
  · exact ⟨id, id⟩
  · split
    · exact (setBuf_limits _ _ _).trans ⟨id, id⟩
    · exact ⟨id, id⟩

theorem headerWord_limits (p : Port) (w : Word32) : PortLimits p (headerWord p w) := by
  unfold headerWord
  split <;> exact ⟨id, id⟩

theorem takeWord_limits (s : State) (start : WordStart) {handle : State → State} (h : ∀ s, LimitsKept s (handle s)) :
    LimitsKept s (takeWord s start handle) :=
  .ite _ (fun _ => .refl s) fun _ => .ite _ (fun _ => framingError_limits s _ _) fun _ => h s

theorem wordFrameStart_limits (s : State) : LimitsKept s (wordFrameStart s) := by
  unfold wordFrameStart
  split
  · exact port_limits ⟨id, id⟩
  · exact port_limits ⟨id, id⟩
  · exact framingError_limits s _ _

theorem wordLineStart_limits (n : Word32) (s : State) : LimitsKept s (wordLineStart n s) := by
  unfold wordLineStart
  dsimp only
  split
  · exact strayWord_limits s
  · exact .refl s
  · exact .ite _ (fun _ => port_limits ⟨id, id⟩) fun _ => framingError_limits s _ _
  · exact framingError_limits s _ _

theorem wordFrameEnd_limits (s : State) : LimitsKept s (wordFrameEnd s) := by
  have htold : LimitsKept s { s with port := { s.port with state := .waitFrame }, frame := tellEnd s.frame } :=
    { port := ⟨id, id⟩, frame := tellEnd_limits _ }
  unfold wordFrameEnd
  dsimp only
  split
  · exact strayWord_limits s
  · exact htold
  · exact .ite _ (fun _ => htold) fun _ => framingError_limits s _ _
  · exact framingError_limits s _ _

theorem wordUndefined_limits (s : State) : LimitsKept s (wordUndefined s) := by
  unfold wordUndefined
  split
  · exact strayWord_limits s
  · exact .refl s
  · exact framingError_limits s _ _

theorem wordData_limits (w : Word32) (s : State) : LimitsKept s (wordData w s) := by
  unfold wordData
  split
  · exact strayWord_limits s
  · exact .refl s
  · exact (port_limits (headerWord_limits _ w)).trans (deliver_limits _)
  · exact framingError_limits s _ _
  · exact (port_limits (storeWord_limits s w)).trans (.ite _ (fun _ => lineReceived_limits _) fun _ => .refl _)

/-! ## The header that is taken -/

/-- A header whose checks pass finds film to pull and no roll advance (R81, checks 5 and 6). -/
theorem headerCause_roll {s : State} {x : Setup} {h : Header} (hc : headerCause s x h = none) :
    (∃ r, s.transport.roll = some r ∧ 1 ≤ r.remaining) ∧ s.transport.advance = none := by
  simp only [headerCause] at hc
  split at hc; · cases hc
  split at hc; · cases hc
  split at hc; · cases hc
  split at hc; · cases hc
  next hroll =>
  split at hc; · cases hc
  next hadv =>
  constructor
  · cases hr : s.transport.roll with
    | none => simp [hr] at hroll
    | some r => exact ⟨r, rfl, Nat.pos_of_ne_zero (by simpa [hr] using hroll)⟩
  · simp only [Bool.or_eq_true, not_or, Bool.not_eq_true, Option.isSome_eq_false_iff, Option.isNone_iff_eq_none] at hadv
    exact hadv.2

theorem latch_limits {s : State} (i : Fin 8) (h : Header) {r : Roll} (hr : s.transport.roll = some r) (hleft : 1 ≤ r.remaining)
    (hadv : s.transport.advance = none) : LimitsKept s (latch s i h) := by
  let pinned : State := { s.modProfile (s.setup i).config.profileId fun q => { q with pinned := q.active } with
    optics := { s.optics with pinned := some s.optics.current } }
  have hpull : LimitsKept s (issuePull pinned) :=
    .trans (t := pinned) {} (.of_roll fun hroll => issuePull_counted hroll hr hleft hadv)
  refine hpull.trans { chans := fun c => ?_, frame := ⟨fun hf => ⟨fun l hl => ?_, Nat.zero_le 4⟩, id⟩ }
  · rw [show (latch s i h).chan c = ((issuePull pinned).chan c).atLatch from Rgb.get_map _ _ _]
    exact atLatch_limits _
  · cases hl
    exact ⟨Nat.zero_le _, Nat.zero_le _, Nat.zero_le _, Nat.zero_le _⟩

theorem takeHeader_limits (s : State) (h : Header) : LimitsKept s (takeHeader s h) := by
  have hrefused : LimitsKept s { s with port := s.port.refuse } := port_limits ⟨id, id⟩
  simp only [takeHeader]
  split
  · exact (hrefused.trans (portError_limits _)).trans (refuseFormat_limits _)
  · split
    · exact hrefused.trans (refuseIn_limits _ _ _ _)
    · next i _ _ hc =>
      obtain ⟨⟨r, hr, hleft⟩, hadv⟩ := headerCause_roll hc
      exact .trans (t := { s with port := s.port.accept h (s.setup i).config.format }) (port_limits ⟨id, id⟩) (latch_limits i h hr hleft hadv)

/-! ## The transport and the image memory -/

theorem advanceSeated_limits (s : State) : LimitsKept s (advanceSeated s) := by
  unfold advanceSeated
  split
  · next n limit ha =>
    refine .ite _ (fun _ => endAdvance_limits s _) fun hn => advancePull_limits fun a ha' _ => ?_
    rw [ha] at ha'
    cases ha'
    exact Nat.pos_of_ne_zero hn
  · exact .refl s

theorem darkenIfLit_limits (s : State) (c : Chan) : LimitsKept s (darkenIfLit s c) :=
  .ite _ (fun _ => darken_limits s c) fun _ => .refl s

/-- A roll advance of some pulls starts with film for all of them (R158, R159). -/
theorem startAdvance_limits {s : State} {r : Roll} (hr : s.transport.roll = some r) {n : Nat} (hn : 1 ≤ n) (hroom : n ≤ r.remaining) :
    LimitsKept s (startAdvance s n) := by
  have hwait : LimitsKept s { s with transport := { s.transport with advance := some ⟨n, .waitingGroup, s.frame.startTimeout⟩ } } := by
    refine { roll := fun h => ⟨h.roll, fun a ha => ?_⟩ }
    cases ha
    exact ⟨r, hr, hroom, fun _ => hn⟩
  refine .ite _ (fun _ => hwait) fun _ => hwait.trans (advancePull_limits fun a ha _ => ?_)
  cases ha
  exact hn

theorem issueOps_limits (s : State) (v : Save) (ops : List FlashOp) : LimitsKept s (issueOps s v ops) := by
  cases ops with
  | nil => exact .refl s
  | cons op later => exact {}

theorem issueRecord_limits (s : State) (v : Save) (a : Nat) (bytes : List Byte) : LimitsKept s (issueRecord s v a bytes) :=
  issueOps_limits s v _

theorem formProfile_limits (s : State) (v : Save) : LimitsKept s (formProfile s v) := by
  unfold formProfile
  split
  · exact issueRecord_limits s _ _ _
  · exact issueRecord_limits s _ _ _

theorem saveNext_limits (s : State) (v : Save) : LimitsKept s (saveNext s v) := by
  have hwritten : LimitsKept s (recordWritten s) := {}
  unfold saveNext
  split
  · exact formProfile_limits s v
  · exact hwritten.trans (formProfile_limits _ v)
  · exact hwritten.trans (issueRecord_limits _ _ _ _)
  · exact hwritten.trans (issueRecord_limits _ _ _ _)
  · exact {}

theorem beginLoad_limits (s : State) : LimitsKept s (beginLoad s) := by
  unfold beginLoad
  split <;> exact {}

theorem placeOptics_limits (s : State) (o : Option Corrections) : LimitsKept s (placeOptics s o) := by
  cases o with
  | none => exact .refl s
  | some c =>
    exact .trans (t := { s with optics := ⟨.a, c, none, false, none⟩, image := { s.image with opticsLoaded := true } }) {}
      (.ite _ (fun _ => facetsChanged_limits _) fun _ => .refl _)

/-- The references that a channel record gives are in 1..4095 (R182). -/
theorem readChannels_range (bytes : List Byte) : ∀ r, readChannels bytes = some r → ∀ c, 1 ≤ r.get c ∧ r.get c ≤ 4095 := by
  refine bind_result fun _ => bind_result fun _ => bind_result fun _ => ?_
  intro r hr c
  dsimp only at hr
  split at hr
  · next hgood =>
    cases hr
    rw [Rgb.get_map]
    simpa [refInRange] using (Rgb.all_iff _ _).1 hgood.2.2.2.2 c
  · cases hr

theorem placeChannels_limits (s : State) {refs : Option (Rgb Nat)} (h : ∀ r, refs = some r → ∀ c, 1 ≤ r.get c ∧ r.get c ≤ 4095) :
    LimitsKept s (placeChannels s refs) := by
  cases refs with
  | none => exact .refl s
  | some r =>
    refine { chans := fun c => ?_ }
    rw [show (placeChannels s (some r)).chan c = (s.chan c).setReference (r.get c) by cases c <;> rfl]
    exact setReference_limits _ (h r rfl c)

theorem readProfileRecord_limits (s : State) (l : Load) : LimitsKept s (readProfileRecord s l) := by
  simp only [readProfileRecord]
  split
  · exact {}
  · split <;> exact {}

theorem readChannelRecord_limits (s : State) (l : Load) : LimitsKept s (readChannelRecord s l) := by
  have hfill : LimitsKept s (s.fill l.set) := {}
  have hoptics := hfill.trans (placeOptics_limits _ l.set.optics)
  exact (raise_limits _ _).after ((hoptics.trans (placeChannels_limits _ (readChannels_range _))).trans {})

end Sys2Proof.Machine
end

section
/-! Every command keeps the limits: the requests and events that leave the setups' and the engine's settings alone, those that set them, the
passing of REFCLK periods, and the resets. -/

namespace Sys2Proof.Machine

-- one theorem after another, as in the tests: a checker's memory limit leaves no room for many threads at once
set_option Elab.async false

open Sys2Proof

/-! ## The control link -/

/-- An owner's answer goes to the request in process alone, so an IDLE link stays without one (R166). -/
theorem answer_limits (s : State) (req : Instr) (st : Status) (body : List Byte) : LimitsKept s (s.answer req st body) where
  link h := by
    rcases h with h | ⟨hidle, hreq, hans, hheld⟩
    · exact .inl h
    · refine .inr ⟨hidle, hreq, ?_, hheld⟩
      have hawaits : s.link.awaits req = false := by simp [Link.awaits, hidle]
      simpa [State.answer, hawaits] using hans

/-- An answer given after a change; without a proof given, the change touches no block that has limits. -/
theorem reply_limits {s u : State} {req : Instr} {st : Status} {body : List Byte} (h : LimitsKept s u := by exact {}) :
    EndsIn (reply req u st body) (LimitsKept s) := .next ((answer_limits u req st body).after h)

theorem skipStraddling_limits (s : State) : LimitsKept s (skipStraddling s) where
  link := id

theorem readOut_limits (s : State) (read : ReadTransfer) : LimitsKept s (readOut s read) :=
  .ite _ (fun _ => skipStraddling_limits s) fun _ => {}

/-- A request taken puts an IDLE link into PROCESSING, or leaves it IDLE with the reply of a failed check (R166). -/
theorem takeRequest_sound {l : Link} (h : LinkSound l) (bytes : List Byte) : LinkSound (takeRequest l bytes) := by
  rcases h with ⟨hproc, hreq, hheld⟩ | ⟨hidle, hreq, -, -⟩
  · rw [takeRequest, if_pos hproc]
    exact .inl ⟨hproc, hreq, hheld⟩
  · rw [takeRequest, if_neg (by simp [hidle])]
    dsimp only
    split
    · exact .inr ⟨hidle, hreq, rfl, rfl⟩
    · exact .inl ⟨rfl, rfl, rfl⟩

theorem execRequestTransaction_limits (bytes : List Byte) (s : State) : EndsIn (execRequestTransaction bytes s) (LimitsKept s) := by
  cases bytes with
  | nil => exact .next (.ite _ (fun _ => skipStraddling_limits s) fun _ => .refl s)
  | cons code rest =>
    refine .next (.ite _ (fun _ => skipStraddling_limits s) fun _ => .ite _ (fun _ => readOut_limits s _) fun _ => ?_)
    exact { link := fun h => takeRequest_sound h _ }

theorem execRequestAnswered_limits (s : State) : EndsIn (execRequestAnswered s) (LimitsKept s) := by
  refine .next ?_
  split
  · exact { link := fun _ => .inr ⟨rfl, rfl, rfl, rfl⟩ }
  · exact .refl s

/-! ## Queries -/

theorem execProfileQuery_limits (id : BitVec 16) (s : State) : EndsIn (execProfileQuery id s) (LimitsKept s) := by
  refine .ite _ (fun _ => reply_limits) fun _ => ?_
  split <;> exact reply_limits

theorem execProfileReadCurve_limits (id : BitVec 16) (bank chan first count : Byte) (s : State) :
    EndsIn (execProfileReadCurve id bank chan first count s) (LimitsKept s) := by
  simp only [execProfileReadCurve]
  split
  · refine .ite _ (fun _ => reply_limits) fun _ => ?_
    split
    · exact reply_limits
    · split <;> exact reply_limits
  · exact reply_limits

theorem execProfileEvaluate_limits (id : BitVec 16) (bank chan : Byte) (code position : BitVec 16) (facet : Byte) (s : State) :
    EndsIn (execProfileEvaluate id bank chan code position facet s) (LimitsKept s) := by
  simp only [execProfileEvaluate]
  split
  · refine .ite _ (fun _ => reply_limits) fun _ => ?_
    split
    · exact reply_limits
    · split <;> exact reply_limits
  · exact reply_limits

theorem execOpticsRead_limits (bank part : Byte) (s : State) : EndsIn (execOpticsRead bank part s) (LimitsKept s) := by
  simp only [execOpticsRead]
  split
  · exact reply_limits
  · split
    · exact reply_limits
    · split <;> exact reply_limits
  · exact reply_limits

theorem execSetupQuery_limits (slot : Byte) (s : State) : EndsIn (execSetupQuery slot s) (LimitsKept s) := by
  simp only [execSetupQuery]
  split <;> exact reply_limits

/-! ## The profiles and the optics set -/

theorem execProfileCreate_limits (id : BitVec 16) (label : List Byte) (s : State) : EndsIn (execProfileCreate id label s) (LimitsKept s) :=
  .ite _ (fun _ => reply_limits) fun _ => .ite _ (fun _ => reply_limits) fun _ => .ite _ (fun _ => reply_limits) fun _ =>
    .ite _ (fun _ => reply_limits) fun _ => reply_limits

theorem execProfileStage_limits (id : BitVec 16) (source : Byte) (s : State) : EndsIn (execProfileStage id source s) (LimitsKept s) :=
  withProfile_ends (fun _ => reply_limits) fun _ _ _ _ => .ite _ (fun _ => reply_limits) fun _ => .ite _ (fun _ => reply_limits) fun _ =>
    .ite _ (fun _ => reply_limits) fun _ => reply_limits

theorem execProfilePutCurve_limits (id : BitVec 16) (chan : Byte) (knots : List (BitVec 16 × BitVec 16)) (s : State) :
    EndsIn (execProfilePutCurve id chan knots s) (LimitsKept s) := by
  simp only [execProfilePutCurve]
  split
  · exact reply_limits
  · exact withProfile_ends (fun _ => reply_limits) fun _ _ _ _ => .ite _ (fun _ => reply_limits) fun _ =>
      .ite _ (fun _ => reply_limits) fun _ => reply_limits

theorem execProfilePutTerms_limits (id : BitVec 16) (trims darks : Rgb (BitVec 16)) (life : BitVec 16) (label : List Byte) (s : State) :
    EndsIn (execProfilePutTerms id trims darks life label s) (LimitsKept s) :=
  withProfile_ends (fun _ => reply_limits) fun _ _ _ _ => .ite _ (fun _ => reply_limits) fun _ => reply_limits

theorem execProfileCommit_limits (id : BitVec 16) (s : State) : EndsIn (execProfileCommit id s) (LimitsKept s) := by
  refine withProfile_ends (fun _ => reply_limits) fun _ _ _ _ => ?_
  split
  · exact reply_limits
  · exact .ite _ (fun _ => reply_limits) fun _ => reply_limits

theorem execProfileDiscard_limits (id : BitVec 16) (s : State) : EndsIn (execProfileDiscard id s) (LimitsKept s) :=
  withProfile_ends (fun _ => reply_limits) fun _ _ _ _ => .ite _ (fun _ => reply_limits) fun _ => reply_limits

theorem execProfileRetire_limits (id : BitVec 16) (s : State) : EndsIn (execProfileRetire id s) (LimitsKept s) :=
  withProfile_ends (fun _ => reply_limits) fun _ _ _ _ => .ite _ (fun _ => reply_limits) fun _ => .ite _ (fun _ => reply_limits) fun _ =>
    reply_limits

theorem execOpticsStage_limits (source : Byte) (s : State) : EndsIn (execOpticsStage source s) (LimitsKept s) :=
  withOptics_ends (fun _ => reply_limits) (.ite _ (fun _ => reply_limits) fun _ => .ite _ (fun _ => reply_limits) fun _ => reply_limits)

theorem execOpticsPutFacets_limits (facets : List (Byte × Byte)) (s : State) : EndsIn (execOpticsPutFacets facets s) (LimitsKept s) :=
  withOptics_ends (fun _ => reply_limits) (.ite _ (fun _ => reply_limits) fun _ => reply_limits)

theorem execOpticsPutShading_limits (chan : Byte) (knots : Vector Byte 65) (s : State) :
    EndsIn (execOpticsPutShading chan knots s) (LimitsKept s) := by
  simp only [execOpticsPutShading]
  split
  · exact reply_limits
  · exact withOptics_ends (fun _ => reply_limits) (.ite _ (fun _ => reply_limits) fun _ => reply_limits)

theorem execOpticsCommit_limits (s : State) : EndsIn (execOpticsCommit s) (LimitsKept s) := by
  refine withOptics_ends (fun _ => reply_limits) ?_
  split
  · exact reply_limits
  · next staged _ =>
    refine .ite _ (fun _ => reply_limits) fun _ => reply_limits ?_
    have hcommit : LimitsKept s { s with optics := s.optics.commit staged } := {}
    exact .ite _ (fun _ => (facetsChanged_limits _).after) fun _ => hcommit

theorem execOpticsDiscard_limits (s : State) : EndsIn (execOpticsDiscard s) (LimitsKept s) :=
  withOptics_ends (fun _ => reply_limits) (.ite _ (fun _ => reply_limits) fun _ => reply_limits)

/-! ## The frame cycle, the port and the engine -/

theorem execFrameCancel_limits (s : State) : EndsIn (execFrameCancel s) (LimitsKept s) :=
  .ite _ (fun _ => reply_limits (spoil_limits s _)) fun _ => reply_limits

theorem execFrameConfigure_limits (v : BitVec 16) (s : State) : EndsIn (execFrameConfigure v s) (LimitsKept s) := by
  refine .ite _ (fun _ => reply_limits) fun hv => .ite _ (fun _ => reply_limits) fun _ => reply_limits ?_
  have hpos : v.toNat ≠ 0 := fun h => hv (BitVec.eq_of_toNat_eq (by simpa using h))
  exact { frame := ⟨id, fun _ => ⟨Nat.pos_of_ne_zero hpos, Nat.le_of_lt_succ v.isLt⟩⟩ }

theorem execPortConfigure_limits (lanes : Byte) (v : BitVec 16) (s : State) : EndsIn (execPortConfigure lanes v s) (LimitsKept s) := by
  refine .ite _ (fun _ => reply_limits) fun hok => .ite _ (fun _ => reply_limits) fun _ => reply_limits ?_
  simp only [Bool.not_eq_true', Bool.not_eq_false, Bool.and_eq_true, List.contains_iff_mem, bne_iff_ne] at hok
  obtain ⟨hlanes, hv⟩ := hok
  have hpos : v.toNat ≠ 0 := fun h => hv (BitVec.eq_of_toNat_eq (by simpa using h))
  exact { port := ⟨id, fun _ => ⟨hlanes, Nat.pos_of_ne_zero hpos, Nat.le_of_lt_succ v.isLt⟩⟩ }

theorem execHeaderTaken_limits (s : State) : EndsIn (execHeaderTaken s) (LimitsKept s) := by
  refine .next ?_
  split
  · exact .refl s
  · exact .ite _ (fun _ => takeHeader_limits s _) fun _ => .refl s

theorem execHeaderFailureTaken_limits (s : State) : EndsIn (execHeaderFailureTaken s) (LimitsKept s) := by
  refine .next ?_
  split
  · exact .refl s
  · exact .ite _ (fun _ => (deliver_limits _).after ((takeFailure_limits _ _).after { frame := ⟨id, id⟩ })) fun _ => .refl s

theorem execIndex_limits (s : State) : EndsIn (execIndex s) (LimitsKept s) := by
  have hjudged : LimitsKept s { s with engine := { s.engine.newRevolution with good := s.engine.goodNext s.optics.cur.facets } } :=
    { engine := ⟨fun h => by
        obtain ⟨period, phase, -, revolution⟩ := (newRevolution_limits s.engine).counts h
        exact ⟨period, phase, goodNext_le h.2.2.1 _, revolution⟩, rfl, rfl⟩ }
  refine .next ?_
  dsimp only
  split
  · exact .refl s
  · exact .ite _ (fun _ => (gainLock_limits _).after hjudged) fun _ => hjudged
  · refine .ite _ (fun _ => ?_) fun _ => (leaveLocked_limits _ _).after (engine_limits (newRevolution_limits _))
    exact engine_limits ⟨(newRevolution_limits s.engine).counts, rfl, rfl⟩

theorem execMonitorReading_limits (c : Chan) (reading : BitVec 12) (s : State) : EndsIn (execMonitorReading c reading s) (LimitsKept s) := by
  refine .next ?_
  split
  · refine .ite _ (fun _ => ?_) fun _ => .refl s
    exact (closeRead_limits _).after ((handleReading_limits _ c (Nat.le_of_lt_succ reading.isLt)).after (window_limits s _ _))
  · exact .refl s

theorem execStepGroupEnd_limits (s : State) : EndsIn (execStepGroupEnd s) (LimitsKept s) := by
  refine .next ?_
  split
  · exact .refl s
  · exact (groupEnded_limits _ _).after { roll := fun h => ⟨h.roll, h.advance⟩ }

theorem execAutoBias_limits (s : State) : EndsIn (execAutoBias s) (LimitsKept s) :=
  .next (.ite _ (fun _ => autoBias_limits s) fun _ => .refl s)

/-! ## The channels -/

theorem withChan_limits {s : State} {own : Chan → Answer} (req : Instr) (chan : Byte) (h : ∀ c, EndsIn (own c) (LimitsKept s)) :
    EndsIn (withChan req s chan own) (LimitsKept s) := by
  unfold withChan
  split
  · exact reply_limits
  · exact h _

theorem execChannelOn_limits (chan : Byte) (s : State) : EndsIn (execChannelOn chan s) (LimitsKept s) := by
  refine withChan_limits _ _ fun c => ?_
  refine .ite _ (fun _ => reply_limits) fun _ => .ite _ (fun _ => reply_limits) fun _ => ?_
  split
  · exact reply_limits (setChan_limits (warm_settle_limits _))
  · exact reply_limits (setChan_limits (warm_rewake_limits _))
  · exact reply_limits

theorem execChannelBias_limits (chan : Byte) (s : State) : EndsIn (execChannelBias chan s) (LimitsKept s) := by
  refine withChan_limits _ _ fun c => .ite _ (fun _ => reply_limits) fun _ => ?_
  split
  · exact reply_limits (enterBiased_limits s c)
  · exact reply_limits (enterBiased_limits s c)
  · exact reply_limits
  · exact reply_limits

theorem execChannelOff_limits (chan : Byte) (s : State) : EndsIn (execChannelOff chan s) (LimitsKept s) := by
  refine withChan_limits _ _ fun c => ?_
  split
  · exact reply_limits
  · exact reply_limits
  · exact reply_limits (enterDark_limits s c)

theorem execChannelClear_limits (chan : Byte) (s : State) : EndsIn (execChannelClear chan s) (LimitsKept s) :=
  withChan_limits _ _ fun c => .ite _ (fun _ => reply_limits (enterDark_limits s c)) fun _ => reply_limits

/-- CHANNEL_CONFIGURE's fields in range make a configuration in range (R134, Table 8-2). -/
theorem channelConfigOf_inRange {f : ChannelFields} {c : ChannelConfig} (h : channelConfigOf f = some c) : c.inRange := by
  unfold channelConfigOf at h
  dsimp only at h
  split at h
  · next hok =>
    cases h
    simp only [Bool.and_eq_true, decide_eq_true_eq, List.contains_iff_mem] at hok
    obtain ⟨⟨⟨⟨⟨⟨⟨⟨h1, h2⟩, h3⟩, h4⟩, h5⟩, h6⟩, h7⟩, h8⟩, h9⟩ := hok
    exact ⟨h1, h2, h3, h4, h5, h6, h7, Nat.le_of_lt_succ f.warmTimeout.isLt, h8, Nat.le_of_lt_succ f.driftLimit.isLt, h9⟩
  · cases h

theorem execChannelConfigure_limits (chan : Byte) (fields : ChannelFields) (delay : BitVec 16) (s : State) :
    EndsIn (execChannelConfigure chan fields delay s) (LimitsKept s) := by
  refine withChan_limits _ _ fun c => ?_
  split
  · exact reply_limits
  · next cfg hcfg =>
    refine .ite _ (fun _ => reply_limits) fun _ => reply_limits ?_
    exact (setChan_limits (configure_limits _ (channelConfigOf_inRange hcfg))).trans
      { idle := ⟨id, fun _ => Nat.le_of_lt_succ delay.isLt⟩ }

theorem execChannelSetReference_limits (chan : Byte) (value : BitVec 16) (s : State) :
    EndsIn (execChannelSetReference chan value s) (LimitsKept s) := by
  refine withChan_limits _ _ fun c => .ite _ (fun _ => reply_limits) fun hv => .ite _ (fun _ => reply_limits) fun _ => reply_limits ?_
  exact setChan_limits (setReference_limits _ (by simpa [refInRange, Nat.one_le_iff_ne_zero] using hv))

theorem execChannelCaptureReference_limits (chan : Byte) (s : State) : EndsIn (execChannelCaptureReference chan s) (LimitsKept s) :=
  withChan_limits _ _ fun _ => .ite _ (fun _ => reply_limits) fun _ => .ite _ (fun _ => reply_limits) fun _ =>
    reply_limits (setChan_limits ⟨id, id, id⟩)

/-! ## The transport and the input lines -/

theorem execRollLoad_limits (tag : Word32) (capacity lowMark : BitVec 16) (s : State) :
    EndsIn (execRollLoad tag capacity lowMark s) (LimitsKept s) := by
  refine .ite _ (fun _ => reply_limits) fun hok => .ite _ (fun _ => reply_limits) fun hnone => reply_limits { roll := fun h => ⟨?_, ?_⟩ }
  · intro r hr
    cases hr
    exact ⟨rfl, Nat.lt_of_not_le fun hle => hok (.inr hle)⟩
  · intro a ha
    obtain ⟨r, hr, -⟩ := h.advance a ha
    simp [hr] at hnone

theorem execRollUnload_limits (s : State) : EndsIn (execRollUnload s) (LimitsKept s) := by
  simp only [execRollUnload]
  split
  · exact reply_limits
  · refine .ite _ (fun _ => reply_limits) fun hbusy => reply_limits { roll := fun _ => ⟨nofun, fun a ha => ?_⟩ }
    have ha : s.transport.advance = some a := ha
    simp [ha] at hbusy

theorem execRollAdvance_limits (frames : BitVec 16) (s : State) : EndsIn (execRollAdvance frames s) (LimitsKept s) := by
  refine .ite _ (fun _ => reply_limits) fun hframes => ?_
  split
  · exact reply_limits
  · next r hr =>
    refine .ite _ (fun _ => reply_limits) fun _ => .ite _ (fun _ => reply_limits) fun _ => .ite _ (fun _ => reply_limits) fun hroom => ?_
    have hpos : frames.toNat ≠ 0 := fun h => hframes (BitVec.eq_of_toNat_eq (by simpa using h))
    exact reply_limits (startAdvance_limits hr (Nat.pos_of_ne_zero hpos) (Nat.le_of_not_lt hroom))

/-- The levels of the inputs are no limit. -/
theorem levels_limits (s : State) (seated fault safeOpen : Bool) :
    LimitsKept s { s with transport := { s.transport with seated := seated, xportFault := fault, safeOpen := safeOpen } } where
  roll h := ⟨h.roll, h.advance⟩

theorem execSeatedRise_limits (s : State) : EndsIn (execSeatedRise s) (LimitsKept s) :=
  have hlevel := levels_limits s true s.transport.xportFault s.transport.safeOpen
  .next (.ite _ (fun _ => (testReady_limits _).after (hlevel.trans { frame := ⟨id, id⟩ })) fun _ => (advanceSeated_limits _).after hlevel)

theorem execSeatedFall_limits (s : State) : EndsIn (execSeatedFall s) (LimitsKept s) :=
  have hlevel := levels_limits s false s.transport.xportFault s.transport.safeOpen
  .next (.ite _ (fun _ => (spoil_limits _ _).after hlevel) fun _ => hlevel)

theorem execXportFaultAsserted_limits (s : State) : EndsIn (execXportFaultAsserted s) (LimitsKept s) := by
  have hlevel := (levels_limits s s.transport.seated true s.transport.safeOpen).trans (raise_limits _ .xportFault)
  exact .next ((spoil_limits _ _).after (.ite _ (fun _ => (endAdvance_limits _ _).after hlevel) fun _ => hlevel))

theorem execSafeOpen_limits (s : State) : EndsIn (execSafeOpen s) (LimitsKept s) := by
  have hlevel := (levels_limits s s.transport.seated s.transport.xportFault true).trans (raise_limits _ .interlockOpen)
  have hdark := (((hlevel.trans (spoil_limits _ .interlock)).trans (darkenIfLit_limits _ .red)).trans
    (darkenIfLit_limits _ .grn)).trans (darkenIfLit_limits _ .blu)
  exact .next (hdark.trans (drivesOff_limits _))

/-! ## The image memory and the soft reset -/

theorem execFlashOperationDone_limits (s : State) : EndsIn (execFlashOperationDone s) (LimitsKept s) := by
  refine .next ?_
  split
  · exact .refl s
  · next v _ =>
    have hflash : LimitsKept s { s with flash := s.flash.carryOut v.op } := { flash := fun h => carryOut_wf v.op h }
    dsimp only
    split
    · exact hflash.trans (saveNext_limits _ v)
    · exact hflash.trans (issueOps_limits _ v _)

theorem execImageSave_limits (s : State) : EndsIn (execImageSave s) (LimitsKept s) :=
  .ite _ (fun _ => reply_limits) fun _ => reply_limits

theorem execImageLoad_limits (s : State) : EndsIn (execImageLoad s) (LimitsKept s) := by
  refine .ite _ (fun _ => reply_limits) fun _ => .ite _ (fun _ => reply_limits) fun _ => ?_
  split
  · exact reply_limits (beginLoad_limits s)
  · exact reply_limits (beginLoad_limits s)

theorem execImageRecordRead_limits (s : State) : EndsIn (execImageRecordRead s) (LimitsKept s) := by
  refine .next ?_
  split
  · exact .refl s
  · split
    · exact readProfileRecord_limits s _
    · exact {}
    · exact readChannelRecord_limits s _

theorem abandonImage_limits (s : State) : LimitsKept s (abandonImage s) :=
  .ite _ (fun _ => { flash := fun h => completeIssued_wf _ h }) fun _ => .refl s

theorem softSpoiled_limits (s : State) : LimitsKept s (softSpoiled s) :=
  (endWindow_limits _).after ((spoil_limits _ _).after { roll := fun h => ⟨h.roll, nofun⟩ })

/-- The engine's counts are 0 after a reset, its configuration and the millisecond in progress as given (R132). -/
theorem afterReset_limits (e : Engine) : EngineLimits e (.afterReset e.config e.msCount) :=
  ⟨fun _ => ⟨⟨Nat.zero_le _, Nat.zero_le _⟩, Nat.zero_lt_succ _, Nat.zero_le _, nofun⟩, rfl, rfl⟩

theorem softReset_limits (s : State) : LimitsKept s (softReset s) := by
  refine .after (t := abandonImage (softSpoiled s)) ?_ ((abandonImage_limits _).after (softSpoiled_limits s))
  refine { chans := fun c => ?_, engine := afterReset_limits _, frame := ⟨id, id⟩, port := ⟨id, id⟩
           idle := ⟨fun _ => ⟨Nat.zero_le _, Nat.zero_le _⟩, id⟩ }
  rw [show (softReset s).chan c = softChannel ((abandonImage (softSpoiled s)).chan c) from Rgb.get_map _ _ _]
  exact softChannel_limits _

/-! ## The commands that set no configuration of a setup or the engine and let no period pass -/

/-- The commands that change a setup's state or configuration or the engine's configuration, or let REFCLK periods pass. -/
def movesSettings : Instr → Bool
  | .powerOnReset _ | .setupWrite .. | .setupArm _ | .setupDisarm _ | .engineConfigure _ | .facet _ | .millisecondTick | .lineComplete
  | .monitorWindowOpen => true
  | _ => false

theorem exec_limits {c : Instr} (h : movesSettings c = false) (s : State) : EndsIn (exec c s) (LimitsKept s) := by
  cases c with
  | powerOnReset | setupWrite | setupArm | setupDisarm | engineConfigure | facet | millisecondTick | lineComplete
  | monitorWindowOpen => cases h
  | requestTransaction bytes => exact execRequestTransaction_limits bytes s
  | readTransaction read => exact .next (readOut_limits s read)
  | requestAnswered => exact execRequestAnswered_limits s
  | softReset => exact reply_limits (softReset_limits s)
  | identify => exact reply_limits
  | eventsRead => exact reply_limits
  | eventsClear mask => exact .ite _ (fun _ => reply_limits) fun _ => reply_limits
  | eventsEnable mask => exact .ite _ (fun _ => reply_limits) fun _ => reply_limits
  | profileCreate id label => exact execProfileCreate_limits id label s
  | profileStage id source => exact execProfileStage_limits id source s
  | profilePutCurve id chan knots => exact execProfilePutCurve_limits id chan knots s
  | profilePutTerms id trims darks life label => exact execProfilePutTerms_limits id trims darks life label s
  | profileCommit id => exact execProfileCommit_limits id s
  | profileDiscard id => exact execProfileDiscard_limits id s
  | profileRetire id => exact execProfileRetire_limits id s
  | profileList => exact reply_limits
  | profileQuery id => exact execProfileQuery_limits id s
  | profileReadCurve id bank chan first count => exact execProfileReadCurve_limits id bank chan first count s
  | profileEvaluate id bank chan code position facet => exact execProfileEvaluate_limits id bank chan code position facet s
  | opticsStage source => exact execOpticsStage_limits source s
  | opticsPutFacets facets => exact execOpticsPutFacets_limits facets s
  | opticsPutShading chan knots => exact execOpticsPutShading_limits chan knots s
  | opticsCommit => exact execOpticsCommit_limits s
  | opticsDiscard => exact execOpticsDiscard_limits s
  | opticsRead bank part => exact execOpticsRead_limits bank part s
  | setupQuery slot => exact execSetupQuery_limits slot s
  | frameCancel => exact execFrameCancel_limits s
  | frameStatus => exact reply_limits
  | frameConfigure v => exact execFrameConfigure_limits v s
  | portConfigure lanes v => exact execPortConfigure_limits lanes v s
  | portStatus => exact reply_limits
  | engineQuery => exact reply_limits
  | channelOn chan => exact execChannelOn_limits chan s
  | channelBias chan => exact execChannelBias_limits chan s
  | channelOff chan => exact execChannelOff_limits chan s
  | channelClear chan => exact execChannelClear_limits chan s
  | channelConfigure chan fields delay => exact execChannelConfigure_limits chan fields delay s
  | channelSetReference chan value => exact execChannelSetReference_limits chan value s
  | channelCaptureReference chan => exact execChannelCaptureReference_limits chan s
  | channelQuery chan => exact withChan_limits _ _ fun _ => reply_limits
  | rollLoad tag capacity lowMark => exact execRollLoad_limits tag capacity lowMark s
  | rollUnload => exact execRollUnload_limits s
  | rollAdvance frames => exact execRollAdvance_limits frames s
  | rollQuery => exact reply_limits
  | imageSave => exact execImageSave_limits s
  | imageLoad => exact execImageLoad_limits s
  | imageStatus => exact reply_limits
  | imageRecordRead => exact execImageRecordRead_limits s
  | frameStart start => exact .next (takeWord_limits s start wordFrameStart_limits)
  | lineStart start number => exact .next (takeWord_limits s start (wordLineStart_limits number))
  | dataWord start payload => exact .next (takeWord_limits s start (wordData_limits payload))
  | frameEnd start => exact .next (takeWord_limits s start wordFrameEnd_limits)
  | undefinedTagWord start tagLow => exact .next (takeWord_limits s start wordUndefined_limits)
  | headerTaken => exact execHeaderTaken_limits s
  | headerFailureTaken => exact execHeaderFailureTaken_limits s
  | seatedRise => exact execSeatedRise_limits s
  | seatedFall => exact execSeatedFall_limits s
  | xportFaultAsserted => exact execXportFaultAsserted_limits s
  | xportFaultDeasserted => exact .next (levels_limits s s.transport.seated false s.transport.safeOpen)
  | safeOpen => exact execSafeOpen_limits s
  | safeClose => exact .next ((raise_limits _ _).after (levels_limits s s.transport.seated s.transport.xportFault false))
  | index => exact execIndex_limits s
  | monitorReading chan reading => exact execMonitorReading_limits chan reading s
  | stepGroupEnd => exact execStepGroupEnd_limits s
  | startTimeout => exact .next (startTimeoutPassed_limits s)
  | lineWaitLimitPassed => exact .next (lineWaitPassed_limits s)
  | stall => exact .next (stallEngine_limits s)
  | warmTimeout chan => exact .next (warmTimeoutPassed_limits s chan)
  | autoBias => exact execAutoBias_limits s
  | advancePullTimeout => exact .next (pullTimeoutPassed_limits s)
  | flashOperationDone => exact execFlashOperationDone_limits s
  | imageOperationTimeout => exact .next (failSave_limits s)

end Sys2Proof.Machine
end

section
/-! The commands that set a setup or the engine or let REFCLK periods pass, and every step: the limits stay as they are stated (O52). -/

namespace Sys2Proof.Machine

-- one theorem after another, as in the tests: a checker's memory limit leaves no room for many threads at once
set_option Elab.async false

open Sys2Proof

/-! ## The limits of the whole part -/

/-- The drift limits, the roll's accounts, the flash's form, the link and the counts, each kept by itself. -/
structure AccountsKept (s t : State) : Prop where
  drift : DriftBounded s → DriftBounded t
  roll : RollCounted s.transport → RollCounted t.transport
  flash : FlashCanonical s → FlashCanonical t
  link : LinkSound s.link → LinkSound t.link
  counts : CountsBounded s → CountsBounded t

/-- The accounts and the settings, each kept by itself. -/
structure StaysWithin (s t : State) : Prop extends AccountsKept s t where
  settings : SettingsSound s → SettingsSound t

theorem AccountsKept.trans {s t u : State} (h : AccountsKept s t) (k : AccountsKept t u) : AccountsKept s u :=
  ⟨k.drift ∘ h.drift, k.roll ∘ h.roll, k.flash ∘ h.flash, k.link ∘ h.link, k.counts ∘ h.counts⟩

theorem StaysWithin.trans {s t u : State} (h : StaysWithin s t) (k : StaysWithin t u) : StaysWithin s u :=
  ⟨h.toAccountsKept.trans k.toAccountsKept, k.settings ∘ h.settings⟩

theorem StaysWithin.after {s t u : State} (k : StaysWithin t u) (h : StaysWithin s t) : StaysWithin s u := h.trans k

theorem LimitsKept.accounts {s t : State} (h : LimitsKept s t) : AccountsKept s t where
  drift hs c := (h.chans c).drift (hs c)
  roll := h.roll
  flash := h.flash
  link := h.link
  counts hs := by
    obtain ⟨port, setups, engine, frame, runs, idle⟩ := (countsBounded_iff s).1 hs
    exact (countsBounded_iff t).2 ⟨h.port.counts port, fun i => (h.setups i).counts (setups i), h.engine.counts engine,
      h.frame.counts frame, fun c => (h.chans c).runs (runs c), h.idle.counts idle⟩

theorem LimitsKept.settings {s t : State} (h : LimitsKept s t) (hs : SettingsSound s) : SettingsSound t where
  fits i hi := by
    rw [(h.setups i).config, h.engine.config]
    exact hs.fits i ((h.setups i).armed ▸ hi)
  setups i := (h.setups i).config ▸ hs.setups i
  engine := h.engine.config ▸ hs.engine
  millisecond := by
    rw [h.engine.config, h.engine.msCount]
    exact hs.millisecond
  channels c := (h.chans c).settings (hs.channels c)
  idle := h.idle.settings hs.idle
  start := h.frame.settings hs.start
  port := h.port.settings hs.port

theorem LimitsKept.stays {s t : State} (h : LimitsKept s t) : StaysWithin s t := ⟨h.accounts, h.settings⟩

/-! ## The millisecond in progress -/

/-- The state at the beginning of a millisecond (R129). -/
def State.freshMs (s : State) : State := { s with engine := { s.engine with msCount := 0 } }

/-- The settings but for the millisecond in progress are those at its beginning. -/
theorem SettingsSound.freshMs {s : State} (h : SettingsSound s) : SettingsSound s.freshMs :=
  ⟨h.fits, h.setups, h.engine, Nat.zero_lt_of_lt h.millisecond, h.channels, h.idle, h.start, h.port⟩

theorem SettingsSound.of_freshMs {s : State} (h : SettingsSound s.freshMs) (ms : s.engine.msCount < s.engine.config.refclkPerMs) :
    SettingsSound s := ⟨h.fits, h.setups, h.engine, ms, h.channels, h.idle, h.start, h.port⟩

theorem LimitsKept.freshMs {s t : State} (h : LimitsKept s t) : LimitsKept s.freshMs t.freshMs :=
  ⟨h.chans, h.roll, h.flash, h.link, h.port, h.setups, ⟨h.engine.counts, h.engine.config, rfl⟩, h.frame, h.idle⟩

theorem freshMs_accounts (s : State) : AccountsKept s s.freshMs :=
  ⟨id, id, id, id, fun h => (countsBounded_iff _).2 ((countsBounded_iff s).1 h)⟩

theorem tickIfDue_accounts (s : State) : AccountsKept s (tickIfDue s) := by
  unfold tickIfDue
  split
  · exact (freshMs_accounts s).trans (tick_limits s.freshMs).accounts
  · exact (LimitsKept.refl s).accounts

/-- The tick that is due begins a new millisecond, so after it none is due (R129). -/
theorem tickIfDue_settings {s : State} (h : SettingsSound s.freshMs) : SettingsSound (tickIfDue s) := by
  unfold tickIfDue
  split
  · exact (tick_limits s.freshMs).settings h
  · next hms => exact h.of_freshMs (Nat.lt_of_not_le hms)

/-! ## REFCLK periods -/

theorem countPeriods_accounts (s : State) (n : Nat) : AccountsKept s (countPeriods s n) := by
  refine ⟨id, id, id, id, fun h => (countsBounded_iff _).2 ?_⟩
  obtain ⟨port, setups, ⟨period, rest⟩, frame, runs, idle⟩ := (countsBounded_iff s).1 h
  exact ⟨port, setups, ⟨⟨Nat.min_le_left .., period.2⟩, rest⟩, frame, runs, idle⟩

/-- Periods that the millisecond in progress still lacks leave it in progress (R129). -/
theorem countPeriods_settings {s : State} (h : SettingsSound s) {n : Nat} (hn : n < s.engine.toTick) : SettingsSound (countPeriods s n) := by
  have hms := h.millisecond
  have hcount : s.engine.msCount + n < s.engine.config.refclkPerMs := by
    simp only [Engine.toTick] at hn
    omega
  exact ⟨h.fits, h.setups, h.engine, hcount, h.channels, h.idle, h.start, h.port⟩

/-- The periods up to a moment on which something falls, with all that falls on it. -/
theorem event_stays (s : State) (n : Nat) : StaysWithin s (periodEvents (countPeriods s n)) := by
  have hmoments : LimitsKept (countPeriods s n) (openIfDue (completeIfDue (countPeriods s n))) :=
    (completeIfDue_limits _).trans (openIfDue_limits _)
  refine ⟨(countPeriods_accounts s n).trans (hmoments.accounts.trans (tickIfDue_accounts _)), fun h => tickIfDue_settings ?_⟩
  refine hmoments.freshMs.settings ?_
  exact ⟨h.fits, h.setups, h.engine, Nat.zero_lt_of_lt h.millisecond, h.channels, h.idle, h.start, h.port⟩

theorem pass_stays (n : Nat) (s : State) : StaysWithin s (pass n s) := by
  induction n using Nat.strongRecOn generalizing s with
  | _ n ih =>
    have hpos := s.toEvent_pos
    by_cases hn : n < s.toEvent
    · rw [pass_short hn]
      exact ⟨countPeriods_accounts s n, fun h => countPeriods_settings h (State.lt_toEvent.1 hn).1⟩
    · rw [pass_event (Nat.le_of_not_lt hn)]
      exact (event_stays s _).trans (ih _ (by omega) _)

/-! ## The setup requests -/

/-- A setup replaced by one with counts and a configuration in range, that fits the scan where it is ARMED. -/
theorem setSetup_stays {s : State} {i : Fin 8} {x : Setup} (counts : (s.setup i).bounded → x.bounded)
    (config : (s.setup i).config = .null ∨ (s.setup i).config.inRange → x.config = .null ∨ x.config.inRange)
    (fits : x.armed = true → fitsScan x.config s.engine.config.scanLead s.engine.config.scanSpan = true) :
    StaysWithin s (s.setSetup i x) where
  drift := id
  roll := id
  flash := id
  link := id
  counts h := by
    obtain ⟨port, setups, rest⟩ := (countsBounded_iff s).1 h
    refine (countsBounded_iff _).2 ⟨port, fun j => ?_, rest⟩
    rw [State.setSetup_setup]
    split
    · exact counts (setups i)
    · exact setups j
  settings h := by
    refine ⟨fun j hj => ?_, fun j => ?_, h.engine, h.millisecond, h.channels, h.idle, h.start, h.port⟩
    · rw [State.setSetup_setup] at hj ⊢
      split at hj
      · next hji => rw [if_pos hji]; exact fits hj
      · next hji => rw [if_neg hji]; exact h.fits j hj
    · rw [State.setSetup_setup]
      split
      · exact config (h.setups i)
      · exact h.setups j

theorem reply_stays {s u : State} {req : Instr} {st : Status} {body : List Byte} (h : StaysWithin s u) :
    EndsIn (reply req u st body) (StaysWithin s) := .next (h.trans (answer_limits u req st body).stays)

/-- A request that only answers. -/
theorem refused_stays {s : State} {req : Instr} {st : Status} {body : List Byte} : EndsIn (reply req s st body) (StaysWithin s) :=
  reply_stays (LimitsKept.refl s).stays

/-- SETUP_WRITE's fields in range make a configuration in range (R67). -/
theorem setupConfigOf_inRange {f : SetupFields} : ∀ c, setupConfigOf f = some c → c.inRange := by
  refine bind_result fun _ => bind_result fun _ => bind_result fun _ => ?_
  intro c hc
  dsimp only at hc
  split at hc
  · next hok =>
    cases hc
    simp only [Bool.and_eq_true, decide_eq_true_eq, List.contains_iff_mem, idInRange] at hok
    obtain ⟨⟨⟨⟨⟨⟨⟨⟨⟨⟨⟨⟨⟨⟨⟨⟨⟨⟨⟨hid, hid'⟩, h1⟩, h2⟩, h3⟩, h4⟩, h5⟩, h6⟩, h7⟩, h8⟩, h9⟩, h10⟩, h11⟩, h12⟩, h13⟩, h14⟩, h15⟩, h16⟩, h17⟩, h18⟩ := hok
    exact ⟨hid, hid', h1, h2, h3, h4, h5, h6, h7, h8, h9, h10, h11, h12, h13, h14, h15, h16, h17, h18⟩
  · cases hc

theorem execSetupWrite_stays (slot : Byte) (fields : SetupFields) (s : State) : EndsIn (execSetupWrite slot fields s) (StaysWithin s) := by
  simp only [execSetupWrite]
  split
  · next i c _ hc =>
    refine .ite _ (fun _ => refused_stays) fun _ => reply_stays (setSetup_stays (fun _ => ?_) (fun _ => ?_) nofun)
    · exact ⟨Nat.zero_le _, Nat.zero_le _, Nat.zero_le _⟩
    · exact .inr (setupConfigOf_inRange c hc)
  · exact refused_stays

theorem modProfile_stays (s : State) (id : Nat) (f : Profile → Profile) : StaysWithin s (s.modProfile id f) := LimitsKept.stays {}

theorem execSetupArm_stays (slot : Byte) (s : State) : EndsIn (execSetupArm slot s) (StaysWithin s) := by
  simp only [execSetupArm]
  split
  · exact refused_stays
  · refine .ite _ (fun _ => refused_stays) fun _ => ?_
    split
    · exact refused_stays
    · refine .ite _ (fun _ => refused_stays) fun _ => .ite _ (fun _ => refused_stays) fun hfit => reply_stays ?_
      refine (modProfile_stays _ _ _).after (setSetup_stays id id fun _ => ?_)
      simpa using hfit

theorem execSetupDisarm_stays (slot : Byte) (s : State) : EndsIn (execSetupDisarm slot s) (StaysWithin s) := by
  simp only [execSetupDisarm]
  split
  · exact refused_stays
  · refine .ite _ (fun _ => refused_stays) fun _ => .ite _ (fun _ => refused_stays) fun _ => reply_stays ?_
    exact (modProfile_stays _ _ _).after (setSetup_stays id id nofun)

/-! ## ENGINE_CONFIGURE -/

/-- ENGINE_CONFIGURE's fields in range make a configuration in range (R130). -/
theorem engineConfigOf_inRange {f : EngineFields} {c : EngineConfig} (h : engineConfigOf f = some c) : c.inRange := by
  unfold engineConfigOf at h
  dsimp only at h
  split at h
  · next hok =>
    cases h
    simp only [Bool.and_eq_true, decide_eq_true_eq] at hok
    obtain ⟨⟨⟨⟨⟨⟨⟨⟨⟨⟨⟨h1, h2⟩, h3⟩, h4⟩, h5⟩, h6⟩, h7⟩, h8⟩, h9⟩, h10⟩, h11⟩, h12⟩ := hok
    exact ⟨h1, h2, h3, h4, Nat.le_of_lt_succ f.scanLead.isLt, h5, h6, h7, h8, h9, h10, h11, h12⟩
  · cases h

/-- No ARMED setup would miss the scan under a configuration that ENGINE_CONFIGURE takes (R130, check 3). -/
theorem anyUnfit_false {s : State} {c : EngineConfig} (h : anyUnfit s c = false) (i : Fin 8) (hi : (s.setup i).armed = true) :
    fitsScan (s.setup i).config c.scanLead c.scanSpan = true := by
  have hmem : s.setup i ∈ s.setups.toList := by simp [State.setup]
  simpa [hi] using List.any_eq_false.1 h _ hmem

/-- A configuration of the engine set leaves the accounts as they are; what follows it keeps the limits (R123, R129, R130). -/
theorem configured_stays {s u : State} {c : EngineConfig} (hc : c.inRange) (hfit : anyUnfit s c = false)
    (h : LimitsKept { s with engine := { s.engine with config := c } } u) : StaysWithin s (tickIfDue u) := by
  have hset : AccountsKept s { s with engine := { s.engine with config := c } } :=
    ⟨id, id, id, id, fun k => (countsBounded_iff _).2 ((countsBounded_iff s).1 k)⟩
  refine ⟨hset.trans (h.accounts.trans (tickIfDue_accounts u)), fun k => tickIfDue_settings (h.freshMs.settings ?_)⟩
  obtain ⟨-, -, -, -, -, -, -, -, -, -, hms, -⟩ := id hc
  exact ⟨anyUnfit_false hfit, k.setups, .inr hc, Nat.lt_of_lt_of_le (Nat.zero_lt_succ _) hms, k.channels, k.idle, k.start, k.port⟩

theorem execEngineConfigure_stays (fields : EngineFields) (s : State) : EndsIn (execEngineConfigure fields s) (StaysWithin s) := by
  unfold execEngineConfigure
  cases hc : engineConfigOf fields with
  | none => exact refused_stays
  | some c =>
    refine .ite _ (fun _ => refused_stays) fun _ => .ite _ (fun _ => refused_stays) fun hfit => reply_stays ?_
    refine configured_stays (engineConfigOf_inRange hc) (by simpa using hfit) ?_
    dsimp only
    split
    · exact periodFiguresChanged_limits _
    · exact .refl _

/-! ## POWER_ON_RESET -/

/-- The reset values are within every limit, and a flash operation already issued is carried out (R174, R175). -/
theorem powerOn_stays (pins : ResetPins) (s : State) : StaysWithin s (powerOn pins s) where
  drift _ := reset_sound.drift
  roll _ := ⟨nofun, nofun⟩
  flash h := completeIssued_wf _ h
  link _ := .inr ⟨rfl, rfl, rfl, rfl⟩
  counts _ :=
    have ⟨strays, errors, setups, period, phase, good, revolution, frame, stride, runs, idle⟩ := reset_counts
    ⟨strays, errors, setups, period, phase, good, revolution, frame, stride, runs, idle⟩
  settings _ :=
    have ⟨fits, setups, engine, millisecond, channels, idle, start, port⟩ := reset_settings
    ⟨fits, setups, engine, millisecond, channels, idle, start, port⟩

/-! ## Every command and every step -/

theorem exec_stays (c : Instr) (s : State) : EndsIn (exec c s) (StaysWithin s) := by
  by_cases hc : movesSettings c = false
  · exact (exec_limits hc s).imp fun _ h => h.stays
  · cases c with
    | powerOnReset pins =>
      refine .next ((powerOn_stays pins s).trans (LimitsKept.stays ?_))
      exact .ite _ (fun _ => beginLoad_limits _) fun _ => .refl _
    | setupWrite slot fields => exact execSetupWrite_stays slot fields s
    | setupArm slot => exact execSetupArm_stays slot s
    | setupDisarm slot => exact execSetupDisarm_stays slot s
    | engineConfigure fields => exact execEngineConfigure_stays fields s
    | facet periods => exact .next ((pass_stays periods s).trans (takeFacet_limits _).stays)
    | millisecondTick => exact .next (pass_stays _ s)
    | lineComplete =>
      refine .next ?_
      split
      · exact (LimitsKept.refl s).stays
      · exact pass_stays _ s
    | monitorWindowOpen =>
      refine .next ?_
      split
      · exact pass_stays _ s
      · exact (LimitsKept.refl s).stays
    | _ => exact absurd rfl hc

/-- Every step keeps the limits: it is a command, or a REFCLK period. -/
theorem step_stays (s : State) : EndsIn (step s) (StaysWithin s) := by
  unfold step
  split
  · next c rest _ => exact (exec_stays c { s with pending := rest }).imp fun _ h => StaysWithin.trans (LimitsKept.stays {}) h
  · split
    · exact exec_stays _ s
    · exact .next (pass_stays 1 s)

/-- Settles O52: each of the six is a part of `StaysWithin`, which the one lemma over all steps gives. -/
theorem limitsAndAccountsAreKept : Obligations.LimitsAndAccountsAreKept :=
  ⟨fun s t h e => (step_stays s t e).drift h, fun s t h e => (step_stays s t e).roll h, fun s t h e => (step_stays s t e).flash h,
    fun s t h e => (step_stays s t e).link h, fun s t h e => (step_stays s t e).counts h, fun s t h e => (step_stays s t e).settings h⟩

end Sys2Proof.Machine
end

section
/-! The exposure arithmetic of Chapter 2: the two tables as rounded real figures (O18), the curve and the shading stage (O19), the clamps (O20)
and the drive stage (O21). -/

namespace Sys2Proof.Machine

-- one theorem after another, as in the tests: a checker's memory limit leaves no room for many threads at once
set_option Elab.async false

open Sys2Proof

/-! ## The two tables -/

/-- The inequalities of `antilog_bounds` for any exponent `n`, with the `n`-th root taken. -/
theorem near_of_pow_bounds {n k f a : Nat} (hn : n ≠ 0) (ha : 1 ≤ 2 * a) (hlow : (2 * a - 1) ^ n ≤ 2 ^ (k * n + f))
    (hhigh : 2 ^ (k * n + f) < (2 * a + 1) ^ n) :
    2 * (a : ℝ) - 1 ≤ 2 ^ k * (2 : ℝ) ^ ((f : ℝ) / n) ∧ 2 ^ k * (2 : ℝ) ^ ((f : ℝ) / n) < 2 * (a : ℝ) + 1 := by
  have hn' : (n : ℝ) ≠ 0 := Nat.cast_ne_zero.2 hn
  have hpow : ((2 : ℝ) ^ k * (2 : ℝ) ^ ((f : ℝ) / n)) ^ n = ((2 ^ (k * n + f) : ℕ) : ℝ) := by
    rw [mul_pow, ← Real.rpow_natCast ((2 : ℝ) ^ ((f : ℝ) / n)), ← Real.rpow_mul zero_le_two, div_mul_cancel₀ _ hn', Real.rpow_natCast,
      ← pow_mul, ← pow_add, Nat.cast_pow, Nat.cast_ofNat]
  constructor
  · refine le_of_pow_le_pow_left₀ hn (by positivity) ?_
    rw [hpow]
    calc (2 * (a : ℝ) - 1) ^ n = (((2 * a - 1) ^ n : ℕ) : ℝ) := by push_cast [ha]; rfl
      _ ≤ _ := Nat.cast_le.2 hlow
  · refine lt_of_pow_lt_pow_left₀ n (by positivity) ?_
    rw [hpow]
    calc ((2 ^ (k * n + f) : ℕ) : ℝ) < (((2 * a + 1) ^ n : ℕ) : ℝ) := Nat.cast_lt.2 hhigh
      _ = _ := by push_cast; rfl

/-- The inequalities of `logEntry_bounds` for any denominator `d` and exponent `n`, with the logarithm taken. -/
theorem logb_near_of_pow_bounds {n d i l : Nat} (hd : d ≠ 0) (hlow : 2 ^ (2 * l) * d ^ n ≤ 2 * (d + i) ^ n)
    (hhigh : (d + i) ^ n < 2 ^ (2 * l + 1) * d ^ n) :
    2 * (l : ℝ) ≤ n * Real.logb 2 (1 + (i : ℝ) / d) + 1 ∧ n * Real.logb 2 (1 + (i : ℝ) / d) < 2 * (l : ℝ) + 1 := by
  have hd' : (0 : ℝ) < d := Nat.cast_pos.2 (Nat.pos_of_ne_zero hd)
  have hscale : (0 : ℝ) < (d : ℝ) ^ n := pow_pos hd' n
  have hbase : (0 : ℝ) < 1 + (i : ℝ) / d := by positivity
  have hfrac : (1 + (i : ℝ) / d) ^ n * (d : ℝ) ^ n = ((d : ℝ) + i) ^ n := by
    rw [← mul_pow, add_mul, one_mul, div_mul_cancel₀ _ hd'.ne']
  rw [← Real.logb_pow]
  constructor
  · have hdouble : Real.logb 2 ((1 + (i : ℝ) / d) ^ n) + 1 = Real.logb 2 ((1 + (i : ℝ) / d) ^ n * 2) := by
      rw [Real.logb_mul (pow_pos hbase n).ne' two_ne_zero, Real.logb_self_eq_one one_lt_two]
    rw [hdouble, Real.le_logb_iff_rpow_le one_lt_two (mul_pos (pow_pos hbase n) two_pos)]
    refine le_of_mul_le_mul_right ?_ hscale
    have hcast : ((2 ^ (2 * l) * d ^ n : ℕ) : ℝ) ≤ ((2 * (d + i) ^ n : ℕ) : ℝ) := Nat.cast_le.2 hlow
    calc (2 : ℝ) ^ (2 * (l : ℝ)) * (d : ℝ) ^ n = ((2 ^ (2 * l) * d ^ n : ℕ) : ℝ) := by
          push_cast; rw [← Real.rpow_natCast 2 (2 * l)]; push_cast; rfl
      _ ≤ ((2 * (d + i) ^ n : ℕ) : ℝ) := hcast
      _ = (1 + (i : ℝ) / d) ^ n * 2 * (d : ℝ) ^ n := by push_cast; rw [← hfrac]; ring
  · rw [Real.logb_lt_iff_lt_rpow one_lt_two (pow_pos hbase n)]
    refine lt_of_mul_lt_mul_right ?_ hscale.le
    rw [hfrac]
    calc ((d : ℝ) + i) ^ n = (((d + i) ^ n : ℕ) : ℝ) := by push_cast; rfl
      _ < ((2 ^ (2 * l + 1) * d ^ n : ℕ) : ℝ) := Nat.cast_lt.2 hhigh
      _ = _ := by push_cast; rw [← Real.rpow_natCast 2 (2 * l + 1)]; push_cast; rfl

/-- An entry of the antilog table is within one half of its formula (R40). -/
theorem antilog_near {f : Nat} (hf : f ≤ 255) :
    2 * (antilog f : ℝ) - 1 ≤ 4096 * (2 : ℝ) ^ ((f : ℝ) / 256) ∧ 4096 * (2 : ℝ) ^ ((f : ℝ) / 256) < 2 * (antilog f : ℝ) + 1 := by
  obtain ⟨hlow, hhigh⟩ := antilog_bounds f hf
  have hpos : 1 ≤ 2 * antilog f := by have := (antilog_range f hf).1; omega
  have hnear := near_of_pow_bounds (n := 256) (k := 12) (by decide) hpos hlow hhigh
  rwa [show (2 : ℝ) ^ 12 = 4096 by norm_num, Nat.cast_ofNat] at hnear

/-- An entry of the log table is within one half of its formula (R41). -/
theorem logEntry_near {i : Nat} (hi : i ≤ 255) :
    2 * (logEntry i : ℝ) ≤ 512 * Real.logb 2 (1 + (i : ℝ) / 256) + 1 ∧
      512 * Real.logb 2 (1 + (i : ℝ) / 256) < 2 * (logEntry i : ℝ) + 1 := by
  obtain ⟨hlow, hhigh⟩ := logEntry_bounds i hi
  exact logb_near_of_pow_bounds (d := 256) (n := 512) (by decide) hlow hhigh

/-- The entries of the antilog table rise strictly. -/
theorem antilog_lt {f g : Nat} (hfg : f < g) (hg : g ≤ 255) : antilog f < antilog g := by
  induction g, hfg using Nat.le_induction with
  | base => exact antilog_step f (by omega)
  | succ g _ ih => exact (ih (by omega)).trans (antilog_step g (by omega))

/-- The entries of the log table do not fall. -/
theorem logEntry_le {i j : Nat} (hij : i ≤ j) (hj : j ≤ 255) : logEntry i ≤ logEntry j := by
  induction j, hij using Nat.le_induction with
  | base => exact le_rfl
  | succ j _ ih => exact (ih (by omega)).trans (logEntry_step j (by omega))

/-- Settles O18: an entry within one half of its formula is the formula rounded. -/
theorem stopTablesAreRounded : Obligations.StopTablesAreRounded := by
  refine ⟨fun f hf => ?_, fun f g => antilog_lt, rfl, rfl, fun i hi => ?_, fun i j => logEntry_le, rfl, rfl⟩
  · obtain ⟨hlow, hhigh⟩ := antilog_near hf
    refine (Int.floor_eq_iff.2 ?_).symm
    push_cast
    constructor <;> linarith
  · obtain ⟨hlow, hhigh⟩ := logEntry_near hi
    refine (Int.floor_eq_iff.2 ?_).symm
    push_cast
    constructor <;> linarith

/-! ## The curve stage -/

section Segment

variable {a b : Knot} {c : Nat} (hcode : a.code < b.code) (hexp : a.exposure ≤ b.exposure)

include hcode

/-- The exposure within a segment is the straight line's, within one half (R33). -/
theorem segmentAt_near : a.exposure ≤ segmentAt a b c ∧
    2 * ((segmentAt a b c - a.exposure) * (b.code - a.code)) ≤ 2 * ((c - a.code) * (b.exposure - a.exposure)) + (b.code - a.code) ∧
    2 * ((c - a.code) * (b.exposure - a.exposure)) < 2 * ((segmentAt a b c - a.exposure) * (b.code - a.code)) + (b.code - a.code) + 1 := by
  have hwidth : 0 < b.code - a.code := by omega
  simp only [segmentAt, Nat.add_sub_cancel_left]
  generalize b.code - a.code = d at *
  generalize (c - a.code) * (b.exposure - a.exposure) = n
  have hlow := Nat.div_mul_le_self (n + d / 2) d
  have hhigh := Nat.lt_div_mul_add (a := n + d / 2) hwidth
  generalize (n + d / 2) / d = q at *
  generalize q * d = p at *
  omega

include hexp

/-- The exposure within a segment does not exceed its upper knot's. -/
theorem segmentAt_le (hc : c ≤ b.code) : segmentAt a b c ≤ b.exposure := by
  have hwidth : 0 < b.code - a.code := by omega
  have hrise : (c - a.code) * (b.exposure - a.exposure) ≤ (b.exposure - a.exposure) * (b.code - a.code) := by
    rw [Nat.mul_comm]
    exact Nat.mul_le_mul_left _ (by omega)
  have hquot : ((c - a.code) * (b.exposure - a.exposure) + (b.code - a.code) / 2) / (b.code - a.code) < b.exposure - a.exposure + 1 := by
    rw [Nat.div_lt_iff_lt_mul hwidth, Nat.add_mul]
    omega
  simp only [segmentAt]
  omega

end Segment

theorem segmentAt_mono (a b : Knot) {c d : Nat} (h : c ≤ d) : segmentAt a b c ≤ segmentAt a b d := by
  have hfirst : (c - a.code) * (b.exposure - a.exposure) ≤ (d - a.code) * (b.exposure - a.exposure) :=
    Nat.mul_le_mul_right _ (by omega)
  exact Nat.add_le_add_left (Nat.div_le_div_right (by omega)) _

theorem curveAt_cons (a b : Knot) (rest : Curve) (c : Nat) :
    curveAt (a :: b :: rest) c = if c < b.code then segmentAt a b c else curveAt (b :: rest) c := rfl

/-- Knots that rise: what holds of a knot and the next one, and of the rest (R4). -/
theorem knots_cons {a b : Knot} {rest : Curve} (h : (a :: b :: rest).Pairwise Knot.before) :
    a.before b ∧ (b :: rest).Pairwise Knot.before := ⟨List.rel_of_pairwise_cons h List.mem_cons_self, h.of_cons⟩

/-- The segment whose codes enclose a code gives its exposure (R32). -/
theorem curveAt_segment {a b : Knot} {after : Curve} {c : Nat} (ha : a.code ≤ c) (hb : c < b.code) (before : Curve)
    (h : (before ++ a :: b :: after).Pairwise Knot.before) : curveAt (before ++ a :: b :: after) c = segmentAt a b c := by
  induction before with
  | nil => exact if_pos hb
  | cons x rest ih =>
    rw [← ih h.of_cons]
    cases rest with
    | nil => exact if_neg (Nat.not_lt.2 ha)
    | cons y rest =>
      have hya : y.before a := List.rel_of_pairwise_cons h.of_cons (List.mem_append_right rest List.mem_cons_self)
      exact if_neg (Nat.not_lt.2 (hya.1.le.trans ha))

/-- At or above its last knot a curve gives the last exposure (R32). -/
theorem curveAt_last {e : Knot} {c : Nat} (hc : e.code ≤ c) : ∀ k : Curve, k.Pairwise Knot.before → k.getLast? = some e →
    curveAt k c = e.exposure
  | [], _, he => by cases he
  | [a], _, he => by cases he; rfl
  | a :: b :: rest, h, he => by
    have he' : (b :: rest).getLast? = some e := by rwa [List.getLast?_cons_cons] at he
    have hbe : b.code ≤ e.code := by
      rcases List.mem_cons.1 (List.mem_of_getLast? he') with rfl | hmem
      · exact le_rfl
      · exact (List.rel_of_pairwise_cons (knots_cons h).2 hmem).1.le
    rw [curveAt_cons, if_neg (by omega)]
    exact curveAt_last hc _ (knots_cons h).2 he'

/-- A curve's first knot has its least exposure. -/
theorem head_le_curveAt {a : Knot} {rest : Curve} (h : (a :: rest).Pairwise Knot.before) (c : Nat) : a.exposure ≤ curveAt (a :: rest) c := by
  induction rest generalizing a with
  | nil => exact le_rfl
  | cons b rest ih =>
    obtain ⟨hab, hrest⟩ := knots_cons h
    rw [curveAt_cons]
    split
    · exact (segmentAt_near hab.1).1
    · exact hab.2.trans (ih hrest)

/-- A curve rises with the code (R33). -/
theorem curveAt_mono {c d : Nat} (hcd : c ≤ d) : ∀ k : Curve, k.Pairwise Knot.before → curveAt k c ≤ curveAt k d
  | [], _ => le_rfl
  | [_], _ => le_rfl
  | a :: b :: rest, h => by
    obtain ⟨hab, hrest⟩ := knots_cons h
    rw [curveAt_cons, curveAt_cons]
    split
    · next hc =>
      split
      · exact segmentAt_mono a b hcd
      · exact (segmentAt_le hab.1 hab.2 hc.le).trans (head_le_curveAt hrest d)
    · next hc =>
      rw [if_neg (by omega)]
      exact curveAt_mono hcd _ hrest

/-- A curve gives no exposure above the greatest of its knots. -/
theorem curveAt_le {top : Nat} (c : Nat) : ∀ k : Curve, k.Pairwise Knot.before → (∀ x ∈ k, x.exposure ≤ top) → curveAt k c ≤ top
  | [], _, _ => Nat.zero_le _
  | [a], _, htop => htop a List.mem_cons_self
  | a :: b :: rest, h, htop => by
    obtain ⟨hab, hrest⟩ := knots_cons h
    have htail : ∀ x ∈ b :: rest, x.exposure ≤ top := fun x hx => htop x (List.mem_cons_of_mem _ hx)
    rw [curveAt_cons]
    split
    · next hc => exact (segmentAt_le hab.1 hab.2 hc.le).trans (htail b List.mem_cons_self)
    · exact curveAt_le c _ hrest htail

theorem validCurve_rises {k : Curve} (h : validCurve k = true) : k.Pairwise Knot.before := by
  obtain ⟨-, -, -, -, hrises, -⟩ := (validCurve_iff k).1 h
  exact hrises

theorem curveAt_le_top {k : Curve} (h : validCurve k = true) (c : Nat) : curveAt k c ≤ 4095 := by
  obtain ⟨-, -, -, -, hrises, hrange⟩ := (validCurve_iff k).1 h
  exact curveAt_le c k hrises fun x hx => (hrange x hx).2

/-! ## The shading stage -/

theorem shadingKnot_eq (m : Vector Int 65) (z : Fin 65) : shadingKnot m z = m[z] := by
  simp [shadingKnot]

/-- At a place `t` of zone `z` the correction is the straight line between the zone's two knots (R35). -/
theorem shadingAt_zone (m : Vector Int 65) (z : Fin 64) (t : Fin 128) :
    shadingAt m (128 * z + t) = m[z.castSucc] + ((m[z.succ] - m[z.castSucc]) * (t : Int) + 64) / 128 := by
  have hzone : (128 * z.val + t.val) / 128 = z.castSucc.val := by simp only [Fin.val_castSucc]; omega
  have hplace : (128 * z.val + t.val) % 128 = t.val := by omega
  have hnext : z.castSucc.val + 1 = z.succ.val := rfl
  simp only [shadingAt, hzone, hplace, hnext, shadingKnot_eq]

/-- A point of the straight line between two knots, rounded with halves upward, lies between them. -/
theorem zoneLine_between (a b : Int) (t : Fin 128) :
    min a b ≤ a + ((b - a) * (t : Int) + 64) / 128 ∧ a + ((b - a) * (t : Int) + 64) / 128 ≤ max a b := by
  have ht0 : (0 : Int) ≤ t := Int.natCast_nonneg _
  have ht : (t : Int) ≤ 128 := by have := t.isLt; omega
  rcases le_total a b with hab | hab
  · have hlow : 0 ≤ (b - a) * (t : Int) := mul_nonneg (by omega) ht0
    have hhigh : (b - a) * (t : Int) ≤ (b - a) * 128 := mul_le_mul_of_nonneg_left ht (by omega)
    rw [min_eq_left hab, max_eq_right hab]
    omega
  · have hhigh : (b - a) * (t : Int) ≤ 0 := mul_nonpos_of_nonpos_of_nonneg (by omega) ht0
    have hlow : (b - a) * 128 ≤ (b - a) * (t : Int) := mul_le_mul_of_nonpos_left ht (by omega)
    rw [min_eq_right hab, max_eq_left hab]
    omega

theorem shadingAt_between (m : Vector Int 65) (z : Fin 64) (t : Fin 128) :
    min m[z.castSucc] m[z.succ] ≤ shadingAt m (128 * z + t) ∧ shadingAt m (128 * z + t) ≤ max m[z.castSucc] m[z.succ] := by
  rw [shadingAt_zone]
  exact zoneLine_between _ _ t

/-- Knots in the field's range keep the correction in it (R34). -/
theorem shadingAt_range {m : Vector Int 65} (h : ∀ x ∈ m.toList, -128 ≤ x ∧ x ≤ 127) (z : Fin 64) (t : Fin 128) :
    -128 ≤ shadingAt m (128 * z + t) ∧ shadingAt m (128 * z + t) ≤ 127 := by
  have hknot (y : Fin 65) : -128 ≤ m[y] ∧ m[y] ≤ 127 := h _ (Vector.mem_toList_iff.2 (Vector.getElem_mem y.isLt))
  obtain ⟨hlow, hhigh⟩ := shadingAt_between m z t
  exact ⟨(le_min (hknot _).1 (hknot _).1).trans hlow, hhigh.trans (max_le (hknot _).2 (hknot _).2)⟩

/-- Settles O19: the segment that holds a code, the rise over all segments, and the straight line of each shading zone. -/
theorem curveAndShadingStages : Obligations.CurveAndShadingStages := by
  refine ⟨fun k hk => ⟨?segment, ?last, ?rises⟩, fun m z t => ⟨?formula, ?low, ?high, ?knot, fun h => shadingAt_range h z t⟩⟩
  case segment =>
    rintro before after a b c rfl hac hcb
    have hrises := validCurve_rises hk
    have hab : a.before b := (knots_cons (List.pairwise_append.1 hrises).2.1).1
    rw [curveAt_segment hac hcb before hrises]
    obtain ⟨hbase, hnear⟩ := segmentAt_near (c := c) hab.1
    exact ⟨rfl, hbase, segmentAt_le hab.1 hab.2 hcb.le, hnear⟩
  case last =>
    intro e he
    obtain ⟨-, -, -, hcode, hrises, -⟩ := (validCurve_iff k).1 hk
    rw [he] at hcode
    exact curveAt_last (Option.some.inj hcode).le k hrises he
  case rises => exact fun c d hcd _ => ⟨curveAt_mono hcd k (validCurve_rises hk), curveAt_le_top hk d⟩
  case formula =>
    have hfloor := Rat.floor_intCast_div_natCast ((m[z.succ] - m[z.castSucc]) * (t : Int) + 64) 128
    rw [Nat.cast_ofNat, Nat.cast_ofNat] at hfloor
    rw [shadingAt_zone, hfloor]
  case low => exact (shadingAt_between m z t).1
  case high => exact (shadingAt_between m z t).2
  case knot =>
    intro ht
    rw [shadingAt_zone, ht]
    simp

/-! ## The clamps -/

/-- What a sum's clamp decides (R38), by the sum. -/
theorem clampAndDrive_cases (t : Int) :
    (t ≤ 0 → clampAndDrive t = (.low, 0, 0)) ∧ (4096 ≤ t → clampAndDrive t = (.high, driveOf 4095)) ∧
      (1 ≤ t → t ≤ 4095 → clampAndDrive t = (.none, driveOf t.toNat)) := by
  refine ⟨fun h => if_pos h, fun h => ?_, fun h h' => ?_⟩
  · rw [clampAndDrive, if_neg (by omega), if_pos h]
  · rw [clampAndDrive, if_neg (by omega), if_neg (by omega)]

theorem compute_dark {curve : Curve} {trim : Int} {dark : Nat} {drift : Int} {map : Vector Int 65} {gain : Int} {c p : Nat} (h : c < dark) :
    compute curve trim dark drift map gain c p = ⟨.dark, 0, 0, 0, 0, 0⟩ := if_pos h

theorem compute_lit {curve : Curve} {trim : Int} {dark : Nat} {drift : Int} {map : Vector Int 65} {gain : Int} {c p : Nat} (h : dark ≤ c) :
    let sum := (curveAt curve c : Int) + trim + drift + shadingAt map p + gain
    compute curve trim dark drift map gain c p =
      ⟨(clampAndDrive sum).1, curveAt curve c, sum, shadingAt map p, (clampAndDrive sum).2.1, (clampAndDrive sum).2.2⟩ :=
  if_neg (Nat.not_lt.2 h)

/-- Settles O20: the dark test, then the three cases of the sum; its range is the sum of the stages' ranges. -/
theorem channelComputationClamps : Obligations.ChannelComputationClamps := by
  intro curve trim dark drift map gain c p r sum
  refine ⟨fun hdark => ⟨compute_dark hdark, congrArg (fun x => clampCounts x.result) (compute_dark hdark)⟩, fun hlit => ?_, ?range⟩
  · have hr : r = ⟨(clampAndDrive sum).1, curveAt curve c, sum, shadingAt map p, (clampAndDrive sum).2.1, (clampAndDrive sum).2.2⟩ :=
      compute_lit hlit
    obtain ⟨hlow, hhigh, hnone⟩ := clampAndDrive_cases sum
    rw [hr]
    refine ⟨rfl, rfl, rfl, fun h => ?_, fun h => ?_, fun h h' => ?_⟩
    · simp only [hlow h, clampCounts, and_self]
    · simp only [hhigh h, clampCounts, and_self]
    · simp only [hnone h h', clampCounts, and_self]
  case range =>
    intro hvalid _ hp htrim0 htrim1 hdrift hgain0 hgain1 hmap
    have hcurve := curveAt_le_top hvalid c
    have hshade := shadingAt_range hmap ⟨p / 128, by omega⟩ ⟨p % 128, Nat.mod_lt _ (by decide)⟩
    rw [Nat.div_add_mod] at hshade
    omega

/-! ## The drive stage -/

/-- The tier and the level of a sum: R39's rounding in one formula, for the model's four cases. -/
theorem driveOf_eq (t : Nat) : driveOf t = (t / 256 / 4, (antilog (t % 256) + 2 ^ (3 - (t / 256) % 4) / 2) / 2 ^ (3 - (t / 256) % 4)) := by
  have hlt : (t / 256) % 4 < 4 := Nat.mod_lt _ (by decide)
  simp only [driveOf]
  generalize (t / 256) % 4 = k at *
  interval_cases k <;> simp

theorem driveOf_range {t : Nat} (h : t ≤ 4095) : (driveOf t).1 ≤ 3 ∧ 256 ≤ (driveOf t).2 ∧ (driveOf t).2 ≤ 4085 := by
  obtain ⟨hlow, hhigh⟩ := antilog_range (t % 256) (by omega)
  have hlt : (t / 256) % 4 < 4 := Nat.mod_lt _ (by decide)
  rw [driveOf_eq]
  refine ⟨by dsimp only; omega, ?_⟩
  dsimp only
  generalize (t / 256) % 4 = k at *
  interval_cases k <;> omega

/-- Within one stop the light rises with the antilog table. -/
theorem light_within_stop {t : Nat} (h : t % 256 ≤ 254) : light (driveOf t) ≤ light (driveOf (t + 1)) := by
  have hstop : (t + 1) / 256 = t / 256 := by omega
  have hstep : antilog (t % 256) ≤ antilog ((t + 1) % 256) := by
    rw [show (t + 1) % 256 = t % 256 + 1 by omega]
    exact (antilog_step _ h).le
  rw [driveOf_eq, driveOf_eq, hstop]
  exact Nat.mul_le_mul_left _ (Nat.div_le_div_right (Nat.add_le_add_right hstep _))

/-- From the end of one stop to the start of the next the light does not fall: A(255) is less than twice A(0). -/
theorem light_next_stop {n : Nat} (h : n ≤ 14) : light (driveOf (256 * n + 255)) ≤ light (driveOf (256 * (n + 1))) := by
  interval_cases n <;> decide

theorem light_step {t : Nat} (h : t ≤ 4094) : light (driveOf t) ≤ light (driveOf (t + 1)) := by
  by_cases hplace : t % 256 ≤ 254
  · exact light_within_stop hplace
  · have hstop := light_next_stop (n := t / 256) (by omega)
    rwa [show 256 * (t / 256) + 255 = t by omega, show 256 * (t / 256 + 1) = t + 1 by omega] at hstop

theorem light_mono {t u : Nat} (htu : t ≤ u) (hu : u ≤ 4095) : light (driveOf t) ≤ light (driveOf u) := by
  induction u, htu using Nat.le_induction with
  | base => exact le_rfl
  | succ u _ ih => exact (ih (by omega)).trans (light_step (by omega))

/-- Settles O21: the level by the sum's stop, and the light by one sum after another. -/
theorem driveStageGivesTierAndLevel : Obligations.DriveStageGivesTierAndLevel := by
  refine ⟨fun t _ ht => ⟨rfl, fun hk => ?full, fun hk => ?part, driveOf_range ht⟩, fun t u _ => light_mono⟩
  case full => simp [driveOf_eq, hk]
  case part =>
    have hhalf : 2 ^ (3 - (t / 256) % 4) / 2 = 2 ^ (2 - (t / 256) % 4) := by
      rw [show 3 - (t / 256) % 4 = 2 - (t / 256) % 4 + 1 by omega, pow_succ, Nat.mul_div_cancel _ two_pos]
    rw [driveOf_eq, hhalf]

end Sys2Proof.Machine
end

section
/-! The pixels of Table 6-1 by arithmetic (O34): an L12 group as one number of nine words, of which each pixel is a run of 36 bits, and the
three fields of an L10 word. -/

namespace Sys2Proof.Machine

-- one theorem after another, as in the tests: a checker's memory limit leaves no room for many threads at once
set_option Elab.async false

open Sys2Proof

/-! ## Words joined into one number -/

/-- The number that a row of words is, the first word uppermost. -/
def joinWords (ws : List Word32) : Nat := ws.foldl (fun n x => n * 2 ^ 32 + x.toNat) 0

theorem joinWords_concat (ws : List Word32) (w : Word32) : joinWords (ws ++ [w]) = joinWords ws * 2 ^ 32 + w.toNat := by
  simp [joinWords]

theorem joinWords_append (us vs : List Word32) : joinWords (us ++ vs) = joinWords us * 2 ^ (32 * vs.length) + joinWords vs := by
  induction vs using List.reverseRecOn with
  | nil => simp [joinWords]
  | append_singleton vs v ih =>
    rw [← List.append_assoc, joinWords_concat, joinWords_concat, ih, List.length_append, List.length_singleton, Nat.mul_succ, pow_add]
    ring

theorem joinWords_lt (ws : List Word32) : joinWords ws < 2 ^ (32 * ws.length) := by
  induction ws using List.reverseRecOn with
  | nil => simp [joinWords]
  | append_singleton ws w ih =>
    have hw := w.isLt
    rw [joinWords_concat, List.length_append, List.length_singleton, Nat.mul_succ, pow_add]
    omega

/-- What stands above the last words of a row. -/
theorem joinWords_div (us vs : List Word32) : joinWords (us ++ vs) / 2 ^ (32 * vs.length) = joinWords us := by
  rw [joinWords_append, Nat.mul_comm, Nat.mul_add_div (by positivity), Nat.div_eq_of_lt (joinWords_lt vs), Nat.add_zero]

/-- Two words that stand next to each other in a row are 64 of its bits. -/
theorem joinWords_pair (us vs : List Word32) (p w : Word32) :
    joinWords (us ++ p :: w :: vs) / 2 ^ (32 * vs.length) % 2 ^ 64 = (p ++ w : BitVec 64).toNat := by
  have hpair : (p ++ w : BitVec 64).toNat = p.toNat * 2 ^ 32 + w.toNat := by
    rw [BitVec.toNat_append, ← Nat.shiftLeft_add_eq_or_of_lt w.isLt, Nat.shiftLeft_eq]
  have hsplit : us ++ p :: w :: vs = (us ++ [p] ++ [w]) ++ vs := by simp
  have hp := p.isLt
  have hw := w.isLt
  rw [hsplit, joinWords_div, joinWords_concat, joinWords_concat, hpair]
  omega

/-! ## Runs of bits -/

/-- Twelve bits that lie within the lower 64 bits of a number are the same in those 64 bits. -/
theorem field_of_mod (n : Nat) {k : Nat} (hk : k ≤ 52) : n % 2 ^ 64 / 2 ^ k % 4096 = n / 2 ^ k % 4096 := by
  have hsize : (2 : Nat) ^ 64 = 2 ^ k * 2 ^ (64 - k) := by rw [← pow_add, Nat.add_sub_cancel' (by omega)]
  rw [hsize, Nat.mod_mul_right_div_self]
  exact Nat.mod_mod_of_dvd _ (pow_dvd_pow 2 (show 12 ≤ 64 - k by omega))

/-- A pixel channel of an L12 pair of words is a run of 12 bits of the number they are. -/
theorem toNat_field (x : BitVec 64) (s k : Nat) : ((x >>> s).extractLsb' k 12).toNat = x.toNat / 2 ^ (s + k) % 4096 := by
  rw [BitVec.extractLsb'_toNat, BitVec.toNat_ushiftRight, Nat.shiftRight_eq_div_pow, Nat.shiftRight_eq_div_pow, Nat.div_div_eq_div_mul, ← pow_add]

/-- The words of a row about its word `i`. -/
theorem ofFn_split {n : Nat} (w : Fin (n + 1) → Word32) (i : Fin n) : ∃ us vs, vs.length = n - 1 - i.val ∧
    List.ofFn w = us ++ w i.castSucc :: w i.succ :: vs := by
  have hi := i.isLt
  refine ⟨(List.ofFn w).take i, (List.ofFn w).drop (i + 2), by simp; omega, ?_⟩
  have hdrop : (List.ofFn w).drop i = w i.castSucc :: w i.succ :: (List.ofFn w).drop (i + 2) := by
    rw [List.drop_eq_getElem_cons (by simp), List.drop_eq_getElem_cons (by simp), List.getElem_ofFn, List.getElem_ofFn]
    rfl
  rw [← hdrop, List.take_append_drop]

/-- A run of 12 bits at or above the last words of a group is a run of the two words there. -/
theorem pair_field {us vs : List Word32} {p w : Word32} {s k : Nat} (hs : s + k ≤ 52) :
    ((((p ++ w : BitVec 64) >>> s).extractLsb' k 12).toNat) = joinWords (us ++ p :: w :: vs) / 2 ^ (32 * vs.length + s) / 2 ^ k % 4096 := by
  rw [toNat_field, ← joinWords_pair us vs, field_of_mod _ hs, Nat.div_div_eq_div_mul, Nat.div_div_eq_div_mul, ← pow_add, ← pow_add, Nat.add_assoc]

theorem pixelL12_runs (w : Fin 9 → Word32) (i : Fin 8) : pixelL12 (w i.castSucc) (w i.succ) (i + 1) =
    ⟨joinWords (List.ofFn w) / 2 ^ (252 - 36 * i.val) / 2 ^ 24 % 4096, joinWords (List.ofFn w) / 2 ^ (252 - 36 * i.val) / 2 ^ 12 % 4096,
      joinWords (List.ofFn w) / 2 ^ (252 - 36 * i.val) % 4096⟩ := by
  have hi := i.isLt
  obtain ⟨us, vs, hvs, hrow⟩ := ofFn_split w i
  have hplace : 252 - 36 * i.val = 32 * vs.length + (28 - 4 * i.val) := by omega
  have hlow := pair_field (us := us) (vs := vs) (p := w i.castSucc) (w := w i.succ) (s := 28 - 4 * i.val) (k := 0) (by omega)
  rw [pow_zero, Nat.div_one] at hlow
  rw [hrow, hplace, ← hlow, ← pair_field (by omega), ← pair_field (by omega)]
  rfl

/-- A pixel channel of an L10 word is a run of 10 bits of it. -/
theorem toNat_wordField (w : Word32) (k : Nat) : (w.extractLsb' k 10).toNat = w.toNat / 2 ^ k % 1024 := by
  rw [BitVec.extractLsb'_toNat, Nat.shiftRight_eq_div_pow]

theorem pixelL10_fields (w : Word32) : pixelL10 w =
    ⟨widen (w.toNat / 2 ^ 22), widen (w.toNat / 2 ^ 12 % 1024), widen (w.toNat / 2 ^ 2 % 1024)⟩ := by
  have htop : w.toNat / 2 ^ 22 % 1024 = w.toNat / 2 ^ 22 := by have := w.isLt; omega
  rw [pixelL10, toNat_wordField, toNat_wordField, toNat_wordField, htop]

/-- Settles O34. -/
theorem pixelsAreUnpacked : Obligations.PixelsAreUnpacked := ⟨pixelL12_runs, pixelL10_fields⟩

end Sys2Proof.Machine
end

section
/-! A line's slots (O42): where they lie and that they end before the span, what drives each modulator, and the clamp counts as sums over the
line's pixels. -/

namespace Sys2Proof.Machine

-- one theorem after another, as in the tests: a checker's memory limit leaves no room for many threads at once
set_option Elab.async false

open Sys2Proof

/-! ## Where the slots lie -/

/-- Slot `j` lies from `j` slot lengths after the line's start on (R125). -/
theorem slotAt_eq_some {x : LineContext} {t j : Nat} (hlen : 1 ≤ x.slotLength) :
    x.slotAt t = some j ↔ j < x.width ∧ x.start + j * x.slotLength ≤ t ∧ t < x.start + (j + 1) * x.slotLength := by
  have hlast (h : j < x.width) : (j + 1) * x.slotLength ≤ x.width * x.slotLength := Nat.mul_le_mul_right _ h
  have hwithin : t - x.start < x.width * x.slotLength → (t - x.start) / x.slotLength < x.width := (Nat.div_lt_iff_lt_mul hlen).2
  rw [LineContext.slotAt, LineContext.ends, Option.ite_none_right_eq_some, Option.some.injEq, Nat.div_eq_iff hlen]
  rw [Nat.add_mul, Nat.one_mul] at *
  constructor
  · rintro ⟨⟨hstart, hend⟩, hlow, hhigh⟩
    refine ⟨?_, by omega, by omega⟩
    have hquot : (t - x.start) / x.slotLength = j := (Nat.div_eq_iff hlen).2 ⟨hlow, hhigh⟩
    exact hquot ▸ hwithin (by omega)
  · rintro ⟨hj, hlow, hhigh⟩
    have := hlast hj
    omega

theorem lineStart_eq (lead : Nat) (delay : Int) (margin len : Nat) :
    (lineStart lead delay margin len : Int) = max 0 ((lead : Int) + delay + margin * len) := by
  rw [lineStart, Int.toNat_eq_max, max_comm, Nat.cast_mul]

/-- A setup that fits the scan has its slots done before the span, whatever the facet's delay (R68). -/
theorem slots_end_before_span {c : SetupConfig} {lead span : Nat} {delay : Int} (hfit : fitsScan c lead span = true) (hdelay : delay ≤ 127) :
    lineStart lead delay c.leftMargin c.slotLength + c.width * c.slotLength + 1 ≤ span := by
  have hsum : (c.leftMargin + c.width) * c.slotLength + lead + 128 ≤ span := of_decide_eq_true hfit
  rw [Nat.add_mul] at hsum
  simp only [lineStart]
  omega

/-! ## What drives a modulator -/

theorem slotDrive_eq {s : State} {x : LineContext} {c : Chan} {j : Nat} {p : Profile} {cal : Calibration} {set : Corrections} {px : Rgb Nat}
    (hprofile : s.profile x.profileId = some p) (hcal : p.bank x.profileBank = some cal) (hset : s.optics.bank x.opticsBank = some set)
    (hpx : (s.port.buf x.buffer).pixels[j]? = some px) :
    let r := computeWith cal set c (x.drift.get c) x.gain (px.get c) (x.leftMargin + j)
    slotDrive s x c j = ⟨r.tier, r.level, true⟩ := by
  simp only [slotDrive, hprofile, Option.bind_some, hcal, hset, hpx]

theorem modulatorAt_off {s : State} {c : Chan} (t : Nat) (h : s.drives.get c = .off) : modulatorAt s c t = ⟨0, 0, false⟩ := by
  rw [modulatorAt, h]
  rfl

theorem modulatorAt_reference {s : State} {c : Chan} (t : Nat) (h : s.drives.get c = .reference) : modulatorAt s c t = ⟨3, 2048, true⟩ := by
  rw [modulatorAt, h]
  rfl

theorem modulatorAt_rest {s : State} {c : Chan} {x : LineContext} {t : Nat} (h : s.drives.get c = .slots) (hx : s.line = some x)
    (hslot : x.slotAt t = none) : modulatorAt s c t = ⟨0, 0, false⟩ := by
  simp only [modulatorAt, h, hx, hslot]
  rfl

theorem modulatorAt_slot {s : State} {c : Chan} {x : LineContext} {t j : Nat} (h : s.drives.get c = .slots) (hx : s.line = some x)
    (hslot : x.slotAt t = some j) : modulatorAt s c t = slotDrive s x c j := by
  simp only [modulatorAt, h, hx, hslot]

/-! ## The clamps of a line -/

/-- How the computation of pixel `j` of a line ends in a channel; a pixel that is not there counts nothing. -/
def clampOf (cal : Calibration) (set : Corrections) (drift : Rgb Int) (gain : Int) (px : List (Rgb Nat)) (p j : Nat) (c : Chan) : ClampResult :=
  match px[j]? with
  | some x => (computeWith cal set c (drift.get c) gain (x.get c) (p + j)).result
  | none => .none

/-- How many channels of a pixel end in a given way. -/
def channelsWith (r : ClampResult) (f : Chan → ClampResult) : Nat := ([Chan.red, .grn, .blu].filter fun c => f c = r).length

theorem clampCounts_eq (r : ClampResult) : clampCounts r = (if r = .low then 1 else 0, if r = .high then 1 else 0) := by
  cases r <;> rfl

theorem channelsWith_eq (r : ClampResult) (f : Chan → ClampResult) :
    channelsWith r f = (if f .red = r then 1 else 0) + (if f .grn = r then 1 else 0) + (if f .blu = r then 1 else 0) := by
  simp only [channelsWith, ← List.countP_eq_length_filter, List.countP_cons, List.countP_nil, decide_eq_true_eq]
  omega

section Line

variable (cal : Calibration) (set : Corrections) (drift : Rgb Int) (gain : Int)

theorem pixelClamps_eq (px : Rgb Nat) (rest : List (Rgb Nat)) (p : Nat) : pixelClamps cal set drift gain px p =
    (channelsWith .low (clampOf cal set drift gain (px :: rest) p 0), channelsWith .high (clampOf cal set drift gain (px :: rest) p 0)) := by
  simp only [pixelClamps, clampCounts_eq, channelsWith_eq]
  rfl

/-- The pixels after the first are those of the rest of the line, one position further on. -/
theorem clampOf_succ (px : Rgb Nat) (rest : List (Rgb Nat)) (p j : Nat) :
    clampOf cal set drift gain (px :: rest) p (j + 1) = clampOf cal set drift gain rest (p + 1) j := by
  funext c
  simp only [clampOf, List.getElem?_cons_succ, Nat.add_assoc, Nat.add_comm 1 j]

/-- A line's clamp counts are the sums of its pixels' (R43). -/
theorem lineClamps_eq (px : List (Rgb Nat)) (p : Nat) : lineClamps cal set drift gain px p =
    (((List.range px.length).map fun j => channelsWith .low (clampOf cal set drift gain px p j)).sum,
      ((List.range px.length).map fun j => channelsWith .high (clampOf cal set drift gain px p j)).sum) := by
  induction px generalizing p with
  | nil => rfl
  | cons x rest ih =>
    simp only [lineClamps, ih, pixelClamps_eq cal set drift gain x rest, List.length_cons, List.range_succ_eq_map, List.map_cons, List.sum_cons,
      List.map_map, Function.comp_def, clampOf_succ]

end Line

/-- Settles O42. -/
theorem slotsArePlacedAndDriven : Obligations.SlotsArePlacedAndDriven := by
  refine ⟨fun x t j => slotAt_eq_some, fun c lead span delay hfit _ hdelay => ⟨lineStart_eq lead delay _ _, slots_end_before_span hfit hdelay⟩,
    fun s c t => ?_⟩
  refine ⟨modulatorAt_off t, modulatorAt_reference t,
    fun hslots x hx => ⟨modulatorAt_rest hslots hx, fun j => modulatorAt_slot hslots hx⟩,
    fun s x c j p cal set px => slotDrive_eq, fun cal set drift gain px p => ?_⟩
  have hclamps := lineClamps_eq cal set drift gain px p
  exact ⟨congrArg Prod.fst hclamps, congrArg Prod.snd hclamps⟩

end Sys2Proof.Machine
end

section
/-! A FACET (O40): the window it abandons, and what a locked facet does to the frame cycle. -/

namespace Sys2Proof.Machine

-- one theorem after another, as in the tests: a checker's memory limit leaves no room for many threads at once
set_option Elab.async false

open Sys2Proof

/-! ## Periods on which nothing falls -/

theorem Quiet.lt_toEvent {s : State} {n : Nat} (h : Quiet s n) : n < s.toEvent := by
  obtain ⟨htick, hline, hwindow⟩ := h
  refine State.lt_toEvent.2 ⟨htick, fun m hm => ?_, fun m hm => ?_⟩
  · obtain ⟨x, hx, rfl⟩ := Option.map_eq_some_iff.1 hm
    exact hline x hx
  · cases hw : s.engine.window with
    | scheduled k line =>
      obtain ⟨-, hm⟩ := Option.ite_none_right_eq_some.1 hm
      exact Option.some.inj hm ▸ hwindow k line hw
    | none => simp [State.toWindow, State.windowWaits, hw] at hm
    | opened k line toRead => simp [State.toWindow, State.windowWaits, hw] at hm

theorem exec_facet_quiet {s : State} {n : Nat} (h : Quiet s n) : exec (.facet n) s = .next (takeFacet (countPeriods s n)) :=
  execFacet_short h.lt_toEvent

/-- A quiet stretch stays quiet with the window gone. -/
theorem Quiet.without_window {s t : State} {n : Nat} (h : Quiet s n) (hline : t.line = s.line)
    (hengine : t.engine = { s.engine with window := .none }) : Quiet t n := by
  obtain ⟨htick, hend, -⟩ := h
  simp only [Quiet, Still, toTick, toMoment, hline, hengine]
  exact ⟨htick, hend, fun _ _ hw => by cases hw⟩

/-! ## The window that a FACET abandons -/

/-- A channel's drive once the window is gone: off where its reading was still awaited (R127, R128). -/
def driveWithoutWindow (s : State) (c : Chan) : Drive :=
  match s.engine.window with
  | .opened _ _ toRead => if c ∈ toRead then .off else s.drives.get c
  | _ => s.drives.get c

/-- The state with its window gone, before the frame cycle is told. -/
def dropWindow (s : State) : State :=
  { s with
    engine := { s.engine with window := .none }
    drives := ⟨driveWithoutWindow s .red, driveWithoutWindow s .grn, driveWithoutWindow s .blu⟩ }

/-- The end of a window is its dropping, of which the frame cycle is told where its facet carried a line (R128). -/
theorem endWindow_eq {s : State} (h : s.engine.window ≠ .none) :
    endWindow s = if s.engine.window.carriesLine then windowPassed (dropWindow s) else dropWindow s := by
  cases hw : s.engine.window with
  | none => exact absurd hw h
  | scheduled k line => simp only [endWindow, dropWindow, driveWithoutWindow, hw]; rfl
  | opened k line toRead =>
    have hdrives : toRead.foldl (fun d c => d.set c .off) s.drives =
        ⟨driveWithoutWindow s .red, driveWithoutWindow s .grn, driveWithoutWindow s .blu⟩ := by
      refine Rgb.ext_get fun c => ?_
      rw [foldl_off_get]
      cases c <;> simp only [driveWithoutWindow, hw] <;> rfl
    simp only [endWindow, hw, hdrives]
    rfl

theorem windowPassed_of_none {s : State} (h : s.frame.pendingGroup = none) : windowPassed s = s := by
  rw [windowPassed, h]

/-- The line group that waited for the window begins (R85). -/
theorem windowPassed_of_some {s : State} {n : Nat} (h : s.frame.pendingGroup = some n) (hn : n ≠ 0) : windowPassed s =
    { s with frame := { s.frame with pendingGroup := none }, transport := { s.transport with group := some ⟨.line, n⟩ } } := by
  simp only [windowPassed, h, beginGroup, if_neg hn]

theorem endWindow_untold {s : State} (h : s.engine.window ≠ .none)
    (htold : s.engine.window.carriesLine = false ∨ s.frame.pendingGroup = none) : endWindow s = dropWindow s := by
  rw [endWindow_eq h]
  rcases htold with hcarries | hgroup
  · rw [hcarries]; rfl
  · rw [windowPassed_of_none (s := dropWindow s) hgroup, ite_self]

theorem endWindow_told {s : State} {n : Nat} (h : s.engine.window ≠ .none) (hcarries : s.engine.window.carriesLine = true)
    (hgroup : s.frame.pendingGroup = some n) (hn : n ≠ 0) : endWindow s =
      { dropWindow s with frame := { s.frame with pendingGroup := none }, transport := { s.transport with group := some ⟨.line, n⟩ } } := by
  rw [endWindow_eq h, if_pos hcarries, windowPassed_of_some (s := dropWindow s) hgroup hn]
  rfl

/-- A FACET abandons the window first, so two states that agree once their windows are gone take it alike (R128). -/
theorem takeFacet_congr {s t : State} (hphase : s.engine.samplePhase = t.engine.samplePhase) (hperiod : s.engine.periodCount = t.engine.periodCount)
    (hend : endWindow s = endWindow t) : takeFacet s = takeFacet t := by
  simp only [takeFacet, hphase, hperiod, hend]

/-- A FACET taken with a window in progress is one taken with the window gone. -/
theorem exec_facet_abandons {s t : State} {n : Nat} (h : Quiet s n) (hline : t.line = s.line)
    (hengine : t.engine = { s.engine with window := .none }) (hend : endWindow (countPeriods s n) = countPeriods t n) :
    exec (.facet n) s = exec (.facet n) t := by
  have hwindow : (countPeriods t n).engine.window = .none := by
    show t.engine.window = .none
    rw [hengine]
  rw [exec_facet_quiet h, exec_facet_quiet (h.without_window hline hengine)]
  refine congrArg Host.Outcome.next (takeFacet_congr ?_ ?_ (hend.trans (endWindow_of_none hwindow).symm))
  · show s.engine.samplePhase = t.engine.samplePhase
    rw [hengine]
  · rw [countPeriods_periodCount, countPeriods_periodCount, hengine]

/-! ## A locked facet -/

/-- The engine once locked facet `m` is captured and numbered (R119, R122, R124). -/
def Engine.atFacet (e : Engine) (periods m : Nat) : Engine :=
  { e with
    msCount := e.msCount + periods, samplePhase := (e.samplePhase + 1) % 128, lastPeriod := min (2 ^ 24 - 1) (e.periodCount + periods)
    periodCount := 0, facetTimer := 0, revCount := some (m + 1), facet := some m }

/-- The part once locked facet `m` is captured and numbered. -/
def State.atFacet (s : State) (periods m : Nat) : State := { s with engine := s.engine.atFacet periods m }

theorem Engine.number_within {e : Engine} {m f : Nat} (hf : m < f) (hm : m < 255) :
    e.number m f = { e with revCount := some (m + 1), facet := some m } := by
  have hsat : satAdd 255 m 1 = m + 1 := min_eq_right hm
  simp only [Engine.number, hsat, if_pos (show m + 1 ≤ f from hf), Nat.add_sub_cancel]

theorem takeFacet_locked {s : State} (h : s.engine.state = .locked) (hwindow : s.engine.window = .none) : takeFacet s =
    lockedFacet { s with engine := s.engine.nextPhase.capture s.engine.periodCount } s.engine.samplePhase s.engine.periodCount := by
  have hstate : s.engine.nextPhase.state = .locked := h
  simp only [takeFacet, endWindow_of_none hwindow, hstate]

/-- A facet within tolerance and within the revolution is offered to the frame cycle (R122). -/
theorem lockedFacet_within {s : State} {phase p m : Nat} (hwithin : s.engine.config.within p = true) (hcount : s.engine.revCount = some m)
    (hfacets : m < s.optics.cur.facets) : lockedFacet s phase p =
      scheduleSample (offerFacet { s with engine := s.engine.number m s.optics.cur.facets } m) phase m (facetUse s == .carries) := by
  have hkept : decide (s.optics.cur.facets ≤ m) = false := decide_eq_false (Nat.not_le.2 hfacets)
  simp only [lockedFacet, hwithin, hcount, Option.getD_some, hkept]
  rfl

/-- Locked facet `m` is taken after `periods` periods on which nothing falls: within tolerance and within the revolution, with no window in
progress (R122). -/
structure FacetTaken (s : State) (periods m : Nat) : Prop where
  locked : s.engine.state = .locked
  count : s.engine.revCount = some m
  facets : m < s.optics.cur.facets
  unsaturated : m < 255
  quiet : Quiet s periods
  within : s.engine.config.within (min (2 ^ 24 - 1) (s.engine.periodCount + periods)) = true
  window : s.engine.window = .none

/-- What a locked facet does, up to its use by the frame cycle (R122, R124). -/
theorem exec_facet_locked {s : State} {periods m : Nat} (h : FacetTaken s periods m) : exec (.facet periods) s =
    .next (scheduleSample (offerFacet (s.atFacet periods m) m) s.engine.samplePhase m (facetUse s == .carries)) := by
  have htake := takeFacet_locked (s := countPeriods s periods) h.locked h.window
  have hoffer := lockedFacet_within (phase := s.engine.samplePhase) (s := { s with
    engine := (countPeriods s periods).engine.nextPhase.capture (countPeriods s periods).engine.periodCount }) h.within h.count h.facets
  rw [Engine.number_within h.facets h.unsaturated] at hoffer
  exact (exec_facet_quiet h.quiet).trans (congrArg Host.Outcome.next (htake.trans hoffer))

/-- The sample of a facet that carries no line (R124). -/
theorem scheduleSample_idle {s : State} (phase m : Nat) (h : s.engine.window = .none) : scheduleSample s phase m false =
    { s with engine := { s.engine with window := if phase % 2 ^ s.engine.config.sampleExp = 0 then .scheduled m false else .none } } := by
  simp only [scheduleSample, Bool.false_or, sampleDue, beq_iff_eq]
  split
  · rfl
  · rw [← h]

/-! ## The use of a locked facet -/

/-- A facet is counted: the frame is EXPOSING with its margin stepped, and no line and no group stand in its way (R89). -/
def FacetCounted (s : State) : Prop :=
  s.frame.state = .exposing ∧ s.frame.margin = .done ∧ s.line = none ∧ s.groupBusy = false

theorem facetUse_uncounted {s : State} (h : ¬ FacetCounted s) : facetUse s = .uncounted := by
  have hcond : ¬ (s.frame.state = .exposing ∧ s.frame.margin = .done ∧ s.line.isNone ∧ !s.groupBusy) := by
    simpa only [FacetCounted, Option.isNone_iff_eq_none, Bool.not_eq_true'] using h
  unfold facetUse
  split
  · rw [if_neg hcond]
  · rfl

/-- What a counted facet is (R89). -/
theorem facetUse_counted {s : State} {l : Latched} {x : Setup} (h : FacetCounted s) (hl : s.frame.latched = some l)
    (hx : s.frameSetup = some x) : facetUse s =
      if s.frame.strideNext < x.config.stride then .passes
      else if (s.port.buf l.lines).state = .full then .carries
      else if s.port.someBuf .full then .passes else .starved := by
  have hcond : s.frame.state = .exposing ∧ s.frame.margin = .done ∧ s.line.isNone ∧ !s.groupBusy := by
    simpa only [FacetCounted, Option.isNone_iff_eq_none, Bool.not_eq_true'] using h
  simp only [facetUse, hl, hx, if_pos hcond]

section Counted

variable {s : State} {l : Latched} {x : Setup} (h : FacetCounted s) (hl : s.frame.latched = some l) (hx : s.frameSetup = some x)

include h hl hx

theorem facetUse_passes (hless : s.frame.strideNext < x.config.stride) : facetUse s = .passes := by
  rw [facetUse_counted h hl hx, if_pos hless]

theorem facetUse_carries (hle : x.config.stride ≤ s.frame.strideNext) (hfull : (s.port.buf l.lines).state = .full) :
    facetUse s = .carries := by
  rw [facetUse_counted h hl hx, if_neg (Nat.not_lt.2 hle), if_pos hfull]

theorem facetUse_starved (hle : x.config.stride ≤ s.frame.strideNext) (h0 : s.port.buf0.state ≠ .full) (h1 : s.port.buf1.state ≠ .full) :
    facetUse s = .starved := by
  have hbuf : (s.port.buf l.lines).state ≠ .full := by
    unfold Port.buf
    split <;> assumption
  have hsome : s.port.someBuf .full = false := by simp [Port.someBuf, h0, h1]
  simp only [facetUse_counted h hl hx, if_neg (Nat.not_lt.2 hle), if_neg hbuf, hsome]
  rfl

end Counted

/-- While a frame is exposing, every channel may drive its modulator (R126, R133, R148). -/
theorem LaserSafe.drivesOf_all {s : State} (h : LaserSafe s) (hexposing : s.frame.state = .exposing) (d : Drive) :
    s.drivesOf (fun _ => true) d = ⟨d, d, d⟩ := by
  have hready := (h.exposing hexposing).1
  have hclosed : s.transport.safeOpen = false := by
    refine Bool.eq_false_iff.2 fun hopen => ?_
    have hdark := h.dark hopen .red
    rw [hready .red] at hdark
    cases hdark
  have hmay (c : Chan) : s.mayDrive c = true := by
    simp only [State.mayDrive, hready c, hclosed]
    rfl
  simp only [State.drivesOf, hmay]
  rfl

/-- The context of the next line, by the banks the frame has pinned (R42, R125). -/
theorem lineContext_eq {s : State} {l : Latched} {x : SetupConfig} {c : Corrections} {p : Profile} {bank : Bank} (k : Nat)
    (hset : s.optics.pinnedSet = some c) (hp : s.profile l.profileId = some p) (hbank : p.pinned = some bank) : lineContext s l x k =
      ⟨l.profileId, bank, s.optics.pinned.getD s.optics.current, k, c.gains.getD k 0,
        ⟨s.chans.red.drift, s.chans.grn.drift, s.chans.blu.drift⟩, x.leftMargin, x.x1 - x.x0 + 1, l.lines % 2,
        (max 0 ((s.engine.config.scanLead : Int) + c.delays.getD k 0 + x.leftMargin * (x.prescale * x.scaler : Nat))).toNat,
        x.prescale * x.scaler, 0, 0⟩ := by
  have hstart (z : Int) : (max 0 z).toNat = z.toNat := by omega
  simp only [lineContext, lineStart, hset, hp, hbank, Option.getD_some, Option.bind_some, hstart, Nat.cast_mul]
  rfl

/-- The part once a facet is counted (R89). -/
def State.countFacet (s : State) : State := { s with frame := { s.frame with stride := s.frame.strideNext } }

/-- What a facet's use does to the frame cycle (R89). -/
theorem offerFacet_uncounted {s : State} (k : Nat) (h : facetUse s = .uncounted) : offerFacet s k = s := by
  simp only [offerFacet, h]

theorem offerFacet_passes {s : State} (k : Nat) (h : facetUse s = .passes) :
    offerFacet s k = s.countFacet := by
  simp only [offerFacet, h]
  rfl

theorem offerFacet_starved {s : State} {l : Latched} (k : Nat) (h : facetUse s = .starved) (hl : s.frame.latched = some l) :
    offerFacet s k = { s with frame := { s.frame with stride := s.frame.strideNext, latched := some l.starve } } := by
  simp only [offerFacet, h, hl, Option.map_some]

theorem exposeLine_eq {s : State} {l : Latched} {x : Setup} (k : Nat) (hl : s.frame.latched = some l) (hx : s.frameSetup = some x) :
    exposeLine s k = { s with
      port := s.port.setBuf l.lines { s.port.buf l.lines with state := .exposing }
      line := some (lineContext s l x.config k)
      drives := s.drivesOf (fun _ => true) .slots
      engine := { s.engine with lastExposed := some k } } := by
  simp only [exposeLine, hl, hx]

/-- The next window line begins on the facet (R42, R90). -/
theorem offerFacet_carries {s : State} {l : Latched} {i : Fin 8} {c : Corrections} {p : Profile} {bank : Bank} (k : Nat)
    (h : facetUse s = .carries) (hl : s.frame.latched = some l) (hi : s.frame.slot = some i) (hset : s.optics.pinnedSet = some c)
    (hp : s.profile l.profileId = some p) (hbank : p.pinned = some bank) (hdrives : s.drivesOf (fun _ => true) .slots = ⟨.slots, .slots, .slots⟩) :
    let x := (s.setup i).config
    offerFacet s k = { s with
      engine := { s.engine with lastExposed := some k }
      frame := { s.frame with stride := s.frame.strideNext }
      port := s.port.setBuf l.lines { s.port.buf l.lines with state := .exposing }
      drives := ⟨.slots, .slots, .slots⟩
      line := some
        ⟨l.profileId, bank, s.optics.pinned.getD s.optics.current, k, c.gains.getD k 0,
          ⟨s.chans.red.drift, s.chans.grn.drift, s.chans.blu.drift⟩, x.leftMargin, x.x1 - x.x0 + 1, l.lines % 2,
          (max 0 ((s.engine.config.scanLead : Int) + c.delays.getD k 0 + x.leftMargin * (x.prescale * x.scaler : Nat))).toNat,
          x.prescale * x.scaler, 0, 0⟩ } := by
  have hx : s.frameSetup = some (s.setup i) := congrArg (Option.map s.setup) hi
  have hcontext := lineContext_eq (s := s.countFacet) (x := (s.setup i).config) k hset hp hbank
  have hexpose := exposeLine_eq (s := s.countFacet) k hl hx
  have hcounted : s.countFacet.drivesOf (fun _ => true) .slots = ⟨.slots, .slots, .slots⟩ := hdrives
  rw [hcontext, hcounted] at hexpose
  simp only [offerFacet, h]
  exact hexpose

/-- The engine after a facet that carries no line: an idle sample is scheduled where the sample phase is due (R124). -/
def Engine.afterFacet (e : Engine) (periods m : Nat) : Engine :=
  { e.atFacet periods m with window := if e.samplePhase % 2 ^ e.config.sampleExp = 0 then .scheduled m false else .none }

/-- A facet that carries no line does to the frame cycle what its use says. -/
theorem exec_facet_idle {s t : State} {periods m : Nat} (h : FacetTaken s periods m) (hoffer : offerFacet (s.atFacet periods m) m = t)
    (hengine : t.engine = s.engine.atFacet periods m) (huse : facetUse s ≠ .carries) :
    exec (.facet periods) s = .next { t with engine := s.engine.afterFacet periods m } := by
  have hnone : t.engine.window = .none := by rw [hengine]; exact h.window
  rw [exec_facet_locked h, hoffer, beq_false_of_ne huse, scheduleSample_idle _ _ hnone, hengine]
  rfl

/-- A facet that carries a line schedules its monitor window (R124). -/
theorem exec_facet_carries {s t : State} {periods m : Nat} (h : FacetTaken s periods m) (hoffer : offerFacet (s.atFacet periods m) m = t)
    (huse : facetUse s = .carries) : exec (.facet periods) s = .next { t with engine := { t.engine with window := .scheduled m true } } := by
  rw [exec_facet_locked h, hoffer, huse]
  rfl

theorem exec_facet_uncounted {s : State} {periods m : Nat} (h : FacetTaken s periods m) (hnot : ¬ FacetCounted s) :
    exec (.facet periods) s = .next { s with engine := s.engine.afterFacet periods m } := by
  have huse : facetUse (s.atFacet periods m) = .uncounted := facetUse_uncounted hnot
  exact exec_facet_idle h (t := s.atFacet periods m) (offerFacet_uncounted m huse) rfl (huse.trans_ne (by decide))

/-- Settles O40: the window is dropped first; then the facet's use decides. -/
theorem lockedFacetServesTheFrame : Obligations.LockedFacetServesTheFrame := by
  refine ⟨fun s periods hwindow hquiet => ⟨fun huntold => ?untold, fun n hcarries hgroup hn => ?told⟩, ?locked⟩
  case untold => exact exec_facet_abandons hquiet rfl rfl (endWindow_untold (s := countPeriods s periods) hwindow huntold)
  case told => exact exec_facet_abandons hquiet rfl rfl (endWindow_told (s := countPeriods s periods) hwindow hcarries hgroup hn)
  case locked =>
    intro s periods m hlocked hcount hfacets hmax hquiet period hwithin e idleWindow
    refine ⟨fun hflight hwindow => ?_, fun l i c p bank hsafe hwindow hl hi hset hp hbank => ?_⟩
    · refine exec_facet_uncounted ⟨hlocked, hcount, hfacets, hmax, hquiet, hwithin, hwindow⟩ fun hcounted => ?_
      obtain ⟨hexposing, -⟩ := hcounted
      simp [State.inFlight, hexposing, FrameState.inFlight] at hflight
    · have htaken : FacetTaken s periods m := ⟨hlocked, hcount, hfacets, hmax, hquiet, hwithin, hwindow⟩
      have hx : s.frameSetup = some (s.setup i) := congrArg (Option.map s.setup) hi
      refine ⟨exec_facet_uncounted htaken, fun hcounted hless => ?_, fun hcounted hle h0 h1 => ?_, fun hcounted hle hfull => ?_⟩
      · have huse : facetUse (s.atFacet periods m) = .passes := facetUse_passes hcounted hl hx hless
        exact exec_facet_idle htaken (offerFacet_passes m huse) rfl (huse.trans_ne (by decide))
      · have huse : facetUse (s.atFacet periods m) = .starved := facetUse_starved hcounted hl hx hle h0 h1
        exact exec_facet_idle htaken (offerFacet_starved m huse hl) rfl (huse.trans_ne (by decide))
      · have huse : facetUse (s.atFacet periods m) = .carries := facetUse_carries hcounted hl hx hle hfull
        have hdrives := hsafe.drivesOf_all hcounted.1 .slots
        exact exec_facet_carries htaken (offerFacet_carries m huse hl hi hset hp hbank hdrives) huse

end Sys2Proof.Machine
end

section
/-! The optics change requests (R53 to R60): their checks in order, the bank that each changes, and a commit that reaches the engine. -/

namespace Sys2Proof.Machine

-- one theorem after another, as in the tests: a checker's memory limit leaves no room for many threads at once
set_option Elab.async false

open Sys2Proof

/-! ## Field values -/

theorem facets_iff (facets : List (Byte × Byte)) :
    (facetsInRange facets.length && facets.all fun x => gainInRange x.1.toInt) = true ↔
      6 ≤ facets.length ∧ facets.length ≤ 12 ∧ ∀ x ∈ facets, -64 ≤ x.1.toInt ∧ x.1.toInt ≤ 63 := by
  simp [facetsInRange, gainInRange, and_assoc]

theorem copyOf_eq_true (b : Byte) : copyOf b = some true ↔ b = 0 := by
  rw [← BitVec.toNat_inj]
  unfold copyOf
  split <;> simp_all

theorem bankByte_flip (k : Bank) : bankByte k.flip = [if k = .a then 1 else 0] := by cases k <;> rfl

/-! ## The shared checks of R53 -/

section Checks

variable {req : Instr} {s : State} {ok : Bool} {own : Answer}

theorem withOptics_range (h : ok ≠ true) : withOptics req s ok own = .next (s.answer req .range) := by
  simp [withOptics, h, reply]

theorem withOptics_busy (h : ok = true) (himage : s.image.state ≠ .idle) : withOptics req s ok own = .next (s.answer req .busy) := by
  simp [withOptics, h, (State.imageBusy_iff s).2 himage, reply]

/-- Past the shared checks the request's own rule runs. -/
theorem withOptics_own (h : ok = true) (himage : s.image.state = .idle) : withOptics req s ok own = own := by
  simp [withOptics, h, (State.imageBusy_false s).2 himage]

end Checks

/-- Checks 1 and 2 of R53 on a request whose fields are in range where `ok` holds. -/
structure OpticsChecks (s : State) (c : Instr) (ok : Prop) : Prop where
  range : ¬ok → exec c s = .next (s.answer c .range)
  busy : ok → s.image.state ≠ .idle → exec c s = .next (s.answer c .busy)

theorem OpticsChecks.of_withOptics {s : State} {c : Instr} {b : Bool} {ok : Prop} {own : Answer} (h : exec c s = withOptics c s b own)
    (hb : b = true ↔ ok) : OpticsChecks s c ok where
  range hbad := h.trans (withOptics_range (mt hb.1 hbad))
  busy hok himage := h.trans (withOptics_busy (hb.2 hok) himage)

theorem opticsStage_checks (s : State) (source : Byte) : OpticsChecks s (.opticsStage source) (source.toNat < 2) :=
  .of_withOptics rfl (copyOf_isSome source)

theorem opticsPutFacets_checks (s : State) (facets : List (Byte × Byte)) : OpticsChecks s (.opticsPutFacets facets)
    (6 ≤ facets.length ∧ facets.length ≤ 12 ∧ ∀ x ∈ facets, -64 ≤ x.1.toInt ∧ x.1.toInt ≤ 63) :=
  .of_withOptics rfl (facets_iff facets)

/-- OPTICS_PUT_SHADING with a channel: its checks and its own rule (R56). -/
theorem exec_opticsPutShading_chan {chan : Byte} {c : Chan} (h : chanOf chan = some c) (knots : Vector Byte 65) (s : State) :
    exec (.opticsPutShading chan knots) s = withOptics (.opticsPutShading chan knots) s true
      (if !s.optics.staging then reply (.opticsPutShading chan knots) s .state
      else reply (.opticsPutShading chan knots)
        { s with optics := s.optics.modStaged fun x => { x with shading := x.shading.set c (knots.map BitVec.toInt) } } .ok) := by
  show execOpticsPutShading chan knots s = _
  simp only [execOpticsPutShading, h]

theorem opticsPutShading_checks (s : State) (chan : Byte) (knots : Vector Byte 65) :
    OpticsChecks s (.opticsPutShading chan knots) (chan.toNat < 3) := by
  cases hc : chanOf chan with
  | none =>
    refine ⟨fun _ => ?_, fun hlt => absurd hlt (Nat.not_lt.2 ((chanOf_eq_none chan).1 hc))⟩
    show execOpticsPutShading chan knots s = _
    simp only [execOpticsPutShading, hc, reply]
  | some c => exact .of_withOptics (exec_opticsPutShading_chan hc knots s) (iff_of_true rfl (chanOf_lt hc))

theorem opticsDiscard_checks (s : State) : OpticsChecks s .opticsDiscard True := .of_withOptics rfl (iff_of_true rfl trivial)

theorem opticsCommit_checks (s : State) : OpticsChecks s .opticsCommit True := .of_withOptics rfl (iff_of_true rfl trivial)

/-! ## The requests past the shared checks -/

section Own

variable {s : State} (himage : s.image.state = .idle)

include himage

/-- OPTICS_STAGE past the shared checks (R54). -/
theorem exec_opticsStage {source : Byte} (h : source.toNat < 2) : exec (.opticsStage source) s =
    if s.optics.staging then reply (.opticsStage source) s .state
    else if s.optics.pinned = some s.optics.current.flip then reply (.opticsStage source) s .busy
    else
      let start := if source = 0 then s.optics.cur else Corrections.default
      reply (.opticsStage source) { s with optics := { s.optics with staging := true, other := some { start with revision := none } } } .ok
        [if s.optics.current = .a then 1 else 0] := by
  show withOptics _ _ _ _ = _
  rw [withOptics_own ((copyOf_isSome source).2 h) himage]
  simp only [copyOf_eq_true, bankByte_flip]

/-- OPTICS_PUT_FACETS past the shared checks (R55). -/
theorem exec_opticsPutFacets {facets : List (Byte × Byte)} (hmin : 6 ≤ facets.length) (hmax : facets.length ≤ 12)
    (hgains : ∀ x ∈ facets, -64 ≤ x.1.toInt ∧ x.1.toInt ≤ 63) : exec (.opticsPutFacets facets) s =
    if !s.optics.staging then reply (.opticsPutFacets facets) s .state
    else reply (.opticsPutFacets facets)
      { s with optics := s.optics.modStaged fun c =>
          { c with facets := facets.length, gains := facets.map (·.1.toInt), delays := facets.map (·.2.toInt) } } .ok :=
  withOptics_own ((facets_iff facets).2 ⟨hmin, hmax, hgains⟩) himage

/-- OPTICS_PUT_SHADING past the shared checks (R56). -/
theorem exec_opticsPutShading {chan : Byte} {c : Chan} (h : chanOf chan = some c) (knots : Vector Byte 65) :
    exec (.opticsPutShading chan knots) s =
      if !s.optics.staging then reply (.opticsPutShading chan knots) s .state
      else reply (.opticsPutShading chan knots)
        { s with optics := s.optics.modStaged fun x => { x with shading := x.shading.set c (knots.map BitVec.toInt) } } .ok :=
  (exec_opticsPutShading_chan h knots s).trans (withOptics_own rfl himage)

/-- OPTICS_DISCARD past the shared checks (R60). -/
theorem exec_opticsDiscard : exec .opticsDiscard s =
    if !s.optics.staging then reply .opticsDiscard s .state
    else reply .opticsDiscard { s with optics := s.optics.discard } .ok := withOptics_own rfl himage

end Own

theorem Optics.modStaged_some {o : Optics} {c : Corrections} (h : o.other = some c) (f : Corrections → Corrections) :
    o.modStaged f = { o with other := some (f c) } := by simp [Optics.modStaged, h]

theorem Optics.discard_staging {o : Optics} (h : o.staging = true) : o.discard = { o with other := none, staging := false } :=
  if_pos h

/-- Settles O22: R53's checks come first; past them each request tests staging and changes the bank that is not current. -/
theorem opticsStagingRequests : Obligations.OpticsStagingRequests := by
  intro s
  refine ⟨fun source h => (opticsStage_checks s source).range (Nat.not_lt.2 h), fun facets => (opticsPutFacets_checks s facets).range,
    fun chan knots h => (opticsPutShading_checks s chan knots).range (Nat.not_lt.2 h), fun hbusy => ⟨?_, ?_, ?_, ?_, ?_⟩,
    fun himage hopen => ⟨?_, ?_, fun c hc => ⟨?_, ?_⟩⟩, fun himage hclosed => ⟨?_, ?_, ?_, ?_⟩⟩
  · exact fun source h => (opticsStage_checks s source).busy h hbusy
  · exact fun facets hmin hmax hgains => (opticsPutFacets_checks s facets).busy ⟨hmin, hmax, hgains⟩ hbusy
  · exact fun chan knots h => (opticsPutShading_checks s chan knots).busy h hbusy
  · exact (opticsDiscard_checks s).busy trivial hbusy
  · exact (opticsCommit_checks s).busy trivial hbusy
  · intro source h
    rw [exec_opticsStage himage h, if_pos hopen, reply]
  · rw [exec_opticsDiscard himage, hopen, Optics.discard_staging hopen]
    rfl
  · intro facets hmin hmax hgains put
    rw [exec_opticsPutFacets himage hmin hmax hgains, hopen, Optics.modStaged_some hc]
    rfl
  · intro chan ch knots hch
    refine ⟨knots.map BitVec.toInt, fun z => by simp, ?_⟩
    rw [exec_opticsPutShading himage hch, hopen, Optics.modStaged_some hc]
    rfl
  · rw [exec_opticsDiscard himage, hclosed]
    rfl
  · intro facets hmin hmax hgains
    rw [exec_opticsPutFacets himage hmin hmax hgains, hclosed]
    rfl
  · intro chan knots h
    obtain ⟨c, hc⟩ := chanOf_some h
    rw [exec_opticsPutShading himage hc, hclosed]
    rfl
  · intro source h
    have hexec := exec_opticsStage himage h
    rw [hclosed, if_neg (by decide)] at hexec
    exact ⟨fun hpin => hexec.trans (if_pos hpin), fun hpin => hexec.trans (if_neg hpin)⟩

/-! ## A change of F reaches a locked engine -/

/-- With every drive off a window's end leaves them off (R128). -/
theorem endWindow_drivesOff_drives (s : State) : (endWindow s.drivesOff).drives = ⟨.off, .off, .off⟩ := by
  refine Rgb.ext_get fun c => ?_
  have hoff : (⟨.off, .off, .off⟩ : Rgb Drive).get c = .off := by cases c <;> rfl
  have hdrive := endWindow_drive s.drivesOff c
  rw [State.drivesOff_drives, hoff, or_self] at hdrive
  rw [hdrive, hoff]

/-- Without a frame in flight a change of F turns a locked engine's drives off, and keeps the port and the frame's state (R59, R123). -/
theorem facetsChanged_locked_frame {s : State} (hidle : s.inFlight = false) (h : s.engine.state = .locked) :
    (facetsChanged s).drives = ⟨.off, .off, .off⟩ ∧ (facetsChanged s).port = s.port ∧
      (facetsChanged s).frame.state = s.frame.state := by
  simp only [facetsChanged, h]
  rw [leaveLocked_idle hidle]
  exact ⟨endWindow_drivesOff_drives _, by simp, by simp⟩

/-! ## OPTICS_COMMIT -/

/-- The staged corrections made current (R58), before a change of F is told to the engine. -/
def State.commitOptics (s : State) (c : Corrections) : State := { s with optics := s.optics.commit c }

/-- The body of OPTICS_COMMIT's reply: the new revision, the bank that is current now and its F (R58). -/
def commitBody (o : Optics) : List Byte := u16 (o.cur.revision.getD 0) ++ bankByte o.current ++ u8 o.cur.facets

theorem Optics.commit_of_revision {o : Optics} {n : Nat} (h : o.cur.revision = some n) (c : Corrections) :
    o.commit c = ⟨o.current.flip, { c with revision := some (if n = 65535 then 1 else n + 1) }, some o.cur, false, o.pinned⟩ := by
  simp [Optics.commit, h, nextRevision]

theorem exec_opticsCommit_notReady {s : State} (himage : s.image.state = .idle) (h : s.optics.staging = false) :
    exec .opticsCommit s = .next (s.answer .opticsCommit .notReady) := by
  show execOpticsCommit s = _
  have hstaged : s.optics.staged = none := by simp [Optics.staged, h]
  rw [execOpticsCommit, withOptics_own rfl himage, hstaged]
  rfl

section Commit

variable {s : State} {c : Corrections} (himage : s.image.state = .idle) (hopen : s.optics.staging = true) (hc : s.optics.other = some c)

include himage hopen hc

/-- OPTICS_COMMIT of staged corrections past the shared checks (R57, R58). -/
theorem exec_opticsCommit : exec .opticsCommit s =
    if c.facets != s.optics.cur.facets && s.inFlight then reply .opticsCommit s .busy
    else reply .opticsCommit (if c.facets != s.optics.cur.facets then facetsChanged (s.commitOptics c) else s.commitOptics c) .ok
      (commitBody (s.optics.commit c)) := by
  show execOpticsCommit s = _
  have hstaged : s.optics.staged = some c := (if_pos hopen).trans hc
  rw [execOpticsCommit, withOptics_own rfl himage, hstaged]
  rfl

theorem exec_opticsCommit_busy (hne : c.facets ≠ s.optics.cur.facets) (hflight : s.inFlight = true) :
    exec .opticsCommit s = .next (s.answer .opticsCommit .busy) := by
  rw [exec_opticsCommit himage hopen hc, bne_iff_ne.2 hne, hflight]
  rfl

theorem exec_opticsCommit_same (heq : c.facets = s.optics.cur.facets) :
    exec .opticsCommit s = .next ((s.commitOptics c).answer .opticsCommit .ok (commitBody (s.optics.commit c))) := by
  rw [exec_opticsCommit himage hopen hc, heq, bne_self_eq_false]
  rfl

theorem exec_opticsCommit_changed (hne : c.facets ≠ s.optics.cur.facets) (hidle : s.inFlight = false) : exec .opticsCommit s =
    .next ((facetsChanged (s.commitOptics c)).answer .opticsCommit .ok (commitBody (s.optics.commit c))) := by
  rw [exec_opticsCommit himage hopen hc, bne_iff_ne.2 hne, hidle]
  rfl

end Commit

/-- Settles O23: the commit is `Optics.commit`, and a change of F goes to the engine as `facetsChanged`, by the engine's state. -/
theorem opticsCommitReachesTheEngine : Obligations.OpticsCommitReachesTheEngine := by
  intro s himage
  refine ⟨exec_opticsCommit_notReady himage, fun c hopen hc => ⟨exec_opticsCommit_busy himage hopen hc, fun n hn => ?_⟩⟩
  intro rev o body
  have ho : s.optics.commit c = o := Optics.commit_of_revision hn c
  have hbody : commitBody o = body := by simp only [commitBody, bankByte_eq]; rfl
  have hcommit : s.commitOptics c = { s with optics := o } := congrArg (fun o => { s with optics := o }) ho
  have hsame := exec_opticsCommit_same himage hopen hc
  have hchanged := exec_opticsCommit_changed himage hopen hc
  rw [hcommit, ho, hbody] at hsame hchanged
  refine ⟨hsame, fun hne hidle => ⟨fun hstopped => ?_, fun hacquiring => ?_, fun hlocked => ?_⟩⟩
  · exact (facetsChanged_stopped (s := { s with optics := o }) hstopped) ▸ hchanged hne hidle
  · exact (facetsChanged_acquiring (s := { s with optics := o }) hacquiring) ▸ hchanged hne hidle
  · obtain ⟨hengine, hlost⟩ := facetsChanged_locked (s := { s with optics := o }) hidle hlocked
    obtain ⟨hprofiles, hsetups, -, hoptics⟩ := facetsChanged_idle (s := { s with optics := o }) hidle
    obtain ⟨hdrives, hport, hframe⟩ := facetsChanged_locked_frame (s := { s with optics := o }) hidle hlocked
    exact ⟨_, hchanged hne hidle, hoptics, hengine, hdrives, hlost, hprofiles, hsetups, facetsChanged_chans _, hport, hframe⟩

end Sys2Proof.Machine
end

section
/-! The order of the engine, the lines, the STEP groups and the buffers (O45): the fields that its five invariants read, and what a change must
keep of them. -/

namespace Sys2Proof.Machine

-- one theorem after another, as in the tests: a checker's memory limit leaves no room for many threads at once
set_option Elab.async false

open Sys2Proof

/-! ## The fields that the invariants read -/

/-- What the invariants of the window, the lines, the STEP groups and the buffers read of the state (R85, R110, R127, R152, R153). -/
structure LineOrder where
  engine : EngineState
  window : Window
  line : Option LineContext
  buf : Nat → BufferState
  frame : FrameState
  pending : Option Nat
  group : Option StepGroup
  advance : Option Advance
  loaded : Bool
  chan : Chan → ChannelState
  stepsPerLine : Fin 8 → Nat

/-- The fields of `LineOrder` as they stand in a state. -/
def State.lineOrder (s : State) : LineOrder where
  engine := s.engine.state
  window := s.engine.window
  line := s.line
  buf n := (s.port.buf n).state
  frame := s.frame.state
  pending := s.frame.pendingGroup
  group := s.transport.group
  advance := s.transport.advance
  loaded := s.transport.roll.isSome
  chan c := (s.chan c).state
  stepsPerLine i := (s.setup i).config.stepsPerLine

/-- What the invariant of the facet numbers reads (R118): the engine's numbers and the sets of corrections held. -/
structure Numbers where
  state : EngineState
  revCount : Option Nat
  facet : Option Nat
  mark : RevMark
  cur : Corrections
  other : Option Corrections
  loading : Option LoadSet

/-- The fields of `Numbers` as they stand in a state. -/
def State.numbers (s : State) : Numbers where
  state := s.engine.state
  revCount := s.engine.revCount
  facet := s.engine.facet
  mark := s.engine.mark
  cur := s.optics.cur
  other := s.optics.other
  loading := s.image.load.map Load.set

/-- A window's engine is LOCKED, and the channels still to be read are WARMING or READY, each once and in the order R, G, B (R127). -/
structure WindowReads (s : State) : Prop where
  locked : s.engine.window ≠ .none → s.engine.state = .locked
  reads : ∀ k line toRead, s.engine.window = .opened k line toRead →
    toRead.Sublist [.red, .grn, .blu] ∧ ∀ c ∈ toRead, (s.chan c).state.warm = true

/-- An open window has a channel still to be read (R127). -/
def WindowAwaits (s : State) : Prop := ∀ k line, s.engine.window ≠ .opened k line []

/-- Every setup steps the film for each line, and every group has pulses to issue (R67, R85, R153). -/
structure GroupsFit (s : State) : Prop where
  setups : ∀ i, 1 ≤ (s.setup i).config.stepsPerLine
  groups : GroupsPositive s

theorem windowSound_iff (s : State) : WindowSound s ↔ WindowReads s ∧ WindowAwaits s := by
  constructor
  · intro h
    exact ⟨⟨h.locked, fun k line l e => (h.reads k line l e).2⟩, fun k line e => (h.reads k line [] e).1 rfl⟩
  · rintro ⟨hreads, hawaits⟩
    exact ⟨hreads.locked, fun k line l e => ⟨fun hnil => hawaits k line (hnil ▸ e), hreads.reads k line l e⟩⟩

/-- A configuration in range steps the film for each line (Table 4-1, R67). -/
theorem stepsPerLine_of_inRange {c : SetupConfig} (h : c.inRange) : 1 ≤ c.stepsPerLine := by
  obtain ⟨-, -, -, -, -, -, -, -, -, -, -, -, -, -, -, hsteps, -⟩ := h
  exact hsteps

theorem SettingsSound.stepsPerLine {s : State} (h : SettingsSound s) (i : Fin 8) : 1 ≤ (s.setup i).config.stepsPerLine := by
  rcases h.setups i with hnull | hrange
  · rw [hnull]
    exact Nat.le_refl 1
  · exact stepsPerLine_of_inRange hrange

theorem groupBusy_eq_false (s : State) : s.groupBusy = false ↔ s.frame.pendingGroup = none ∧ s.transport.group = none := by
  simp [State.groupBusy]

/-- What `GroupsFit` reads of a state. -/
theorem GroupsFit.of_eq {s t : State} (steps : t.lineOrder.stepsPerLine = s.lineOrder.stepsPerLine)
    (pending : t.frame.pendingGroup = s.frame.pendingGroup) (group : t.transport.group = s.transport.group) (h : GroupsFit s) :
    GroupsFit t where
  setups i := by rw [show (t.setup i).config.stepsPerLine = _ from congrFun steps i]; exact h.setups i
  groups := ⟨by rw [pending]; exact h.groups.pending, by rw [group]; exact h.groups.group⟩

section Congr

variable {s t : State} (h : t.lineOrder = s.lineOrder)

include h

theorem WindowReads.congr (k : WindowReads s) : WindowReads t := by
  simp only [State.lineOrder, LineOrder.mk.injEq] at h
  obtain ⟨hengine, hwindow, -, -, -, -, -, -, -, hchan, -⟩ := h
  refine ⟨by rw [hwindow, hengine]; exact k.locked, fun n line l e => ?_⟩
  obtain ⟨hsub, hwarm⟩ := k.reads n line l (hwindow ▸ e)
  exact ⟨hsub, fun c hc => by rw [congrFun hchan c]; exact hwarm c hc⟩

theorem WindowAwaits.congr (k : WindowAwaits s) : WindowAwaits t := by
  have hwindow : t.engine.window = s.engine.window := congrArg LineOrder.window h
  unfold WindowAwaits
  rw [hwindow]
  exact k

theorem StepSound.congr (k : StepSound s) : StepSound t := by
  simp only [State.lineOrder, LineOrder.mk.injEq] at h
  obtain ⟨-, hwindow, hline, -, hframe, hpending, hgroup, hadvance, hloaded, -, -⟩ := h
  have hbusy : t.groupBusy = s.groupBusy := by simp only [State.groupBusy, hpending, hgroup]
  refine ⟨?_, ?_, ?_, ?_, ?_⟩
  · rw [hpending, hwindow, hgroup, hline]; exact k.pending
  · rw [hline, hframe, hbusy]; exact k.line
  · rw [hframe, hbusy]; exact k.seating
  · rw [State.inFlight, hframe, hadvance, hloaded]; exact k.alone
  · rw [hadvance, hbusy]; exact k.waits

theorem BuffersSound.congr (k : BuffersSound s) : BuffersSound t := by
  intro n hn
  rw [show (t.port.buf n).state = (s.port.buf n).state from congrFun (congrArg LineOrder.buf h) n] at hn
  rw [show t.line = s.line from congrArg LineOrder.line h]
  exact k n hn

theorem GroupsFit.congr (k : GroupsFit s) : GroupsFit t :=
  .of_eq (congrArg LineOrder.stepsPerLine h) (congrArg LineOrder.pending h) (congrArg LineOrder.group h) k

end Congr

/-- Every F held is positive where the sets held are the same. -/
theorem FacetsPositive.of_eq {s t : State} (h : FacetsPositive s) (optics : t.optics = s.optics := by rfl)
    (load : t.image.load = s.image.load := by rfl) : FacetsPositive t where
  current := by rw [optics]; exact h.current
  other := by rw [optics]; exact h.other
  loading := by rw [load]; exact h.loading

theorem NumberingSound.congr {s t : State} (h : t.numbers = s.numbers) (k : NumberingSound s) : NumberingSound t := by
  simp only [State.numbers, Numbers.mk.injEq] at h
  obtain ⟨hstate, hcount, hfacet, hmark, hcur, hother, hload⟩ := h
  refine ⟨⟨by rw [hcur]; exact k.facets.current, by rw [hother]; exact k.facets.other, fun l c hl hc => ?_⟩, ?_, ?_⟩
  · have hset : s.image.load.map Load.set = some l.set := by rw [← hload, hl]; rfl
    obtain ⟨m, hm, hset⟩ := Option.map_eq_some_iff.1 hset
    exact k.facets.loading m c hm (by rw [hset]; exact hc)
  · rw [hmark, hcount, hfacet]; exact k.good
  · rw [hstate, hcount, hfacet, hcur]; exact k.locked

/-! ## What a change must keep -/

/-- A change that keeps each of the invariants by itself. -/
structure OrderKept (s t : State) : Prop where
  numbering : NumberingSound s → NumberingSound t
  reads : WindowReads s → WindowReads t
  awaits : WindowAwaits s → WindowAwaits t
  steps : StepSound s → StepSound t
  buffers : BuffersSound s → BuffersSound t
  groups : GroupsFit s → GroupsFit t

theorem OrderKept.trans {s t u : State} (h : OrderKept s t) (k : OrderKept t u) : OrderKept s u :=
  ⟨k.numbering ∘ h.numbering, k.reads ∘ h.reads, k.awaits ∘ h.awaits, k.steps ∘ h.steps, k.buffers ∘ h.buffers, k.groups ∘ h.groups⟩

/-- A change outside the fields that the invariants read; without proofs given, the two states say so themselves. -/
theorem OrderKept.same {s t : State} (order : t.lineOrder = s.lineOrder := by rfl) (numbers : t.numbers = s.numbers := by rfl) :
    OrderKept s t :=
  ⟨.congr numbers, .congr order, .congr order, .congr order, .congr order, .congr order⟩

theorem OrderKept.refl (s : State) : OrderKept s s := .same

/-- A change that begins from the state with other fields changed first. -/
theorem OrderKept.after {s m t : State} (h : OrderKept m t) (order : m.lineOrder = s.lineOrder := by rfl)
    (numbers : m.numbers = s.numbers := by rfl) : OrderKept s t := .trans (.same order numbers) h

/-- A choice between two changes. -/
theorem OrderKept.ite {s t u : State} (c : Prop) [Decidable c] (ht : c → OrderKept s t) (hu : ¬c → OrderKept s u) :
    OrderKept s (if c then t else u) := by
  split
  · exact ht ‹_›
  · exact hu ‹_›

/-- A change that leaves the windows and the numbers alone: what it does to the groups and the buffers is given. -/
theorem OrderKept.of_parts {s t : State} (steps : StepSound s → StepSound t) (buffers : BuffersSound s → BuffersSound t)
    (groups : GroupsFit s → GroupsFit t) (engine : t.engine = s.engine := by simp) (chans : t.chans = s.chans := by simp)
    (numbers : t.numbers = s.numbers := by simp [State.numbers]) : OrderKept s t where
  numbering := .congr numbers
  reads h := ⟨by rw [engine]; exact h.locked, fun n line l e => by
    unfold State.chan
    rw [chans]
    exact h.reads n line l (engine ▸ e)⟩
  awaits h := by unfold WindowAwaits; rw [engine]; exact h
  steps := steps
  buffers := buffers
  groups := groups

/-- The buffers stay sound where neither they nor the line change. -/
theorem BuffersSound.of_eq {s t : State} (h : BuffersSound s) (port : t.port = s.port := by simp) (line : t.line = s.line := by simp) :
    BuffersSound t := by
  unfold BuffersSound
  rw [port, line]
  exact h

end Sys2Proof.Machine
end

section
/-! Groups, pulls, windows and flights keep the order (R85, R95, R110, R127, R152, R153). -/

namespace Sys2Proof.Machine

-- one theorem after another, as in the tests: a checker's memory limit leaves no room for many threads at once
set_option Elab.async false

open Sys2Proof

/-! ## Groups and pulls -/

@[simp] theorem issuePull_loaded (s : State) : (issuePull s).transport.roll.isSome = s.transport.roll.isSome := by
  cases h : s.transport.roll with
  | none => rw [issuePull_none h, h]
  | some r => rw [issuePull_roll h]; rfl

/-- A pull of a roll advance moves the advance to SEATING, and nothing else of the order (R159). -/
theorem advancePull_lineOrder (s : State) : (advancePull s).lineOrder = { s.lineOrder with
    advance := s.transport.advance.map fun a => ⟨a.toIssue - 1, .seating, s.frame.startTimeout⟩ } := by
  have hchan (c : Chan) : (advancePull s).chan c = s.chan c := by simp [State.chan]
  have hsetup (i : Fin 8) : (advancePull s).setup i = s.setup i := by simp [State.setup]
  have htransport : (advancePull s).transport.group = s.transport.group ∧
      (advancePull s).transport.roll.isSome = s.transport.roll.isSome ∧
      (advancePull s).transport.advance = s.transport.advance.map fun a => ⟨a.toIssue - 1, .seating, s.frame.startTimeout⟩ := by
    cases h : s.transport.advance with
    | none => simp [advancePull, h]
    | some a => simp [advancePull, h]
  obtain ⟨hgroup, hloaded, hadvance⟩ := htransport
  simp only [State.lineOrder, hchan, hsetup, hgroup, hloaded, hadvance]
  simp

/-- Where a roll advance stands once the group that it waited for has ended (R153, R159). -/
def Advance.resumed (a : Advance) (limit : Nat) : Advance := if a.pull = .waitingGroup then ⟨a.toIssue - 1, .seating, limit⟩ else a

theorem Advance.resumed_pull (a : Advance) (limit : Nat) : (a.resumed limit).pull = .seating := by
  obtain ⟨n, pull, l⟩ := a
  cases pull <;> rfl

/-- A group's end lets a waiting advance go on, and changes nothing else of the order (R153). -/
theorem groupEnded_lineOrder (s : State) (k : GroupKind) : (groupEnded s k).lineOrder = { s.lineOrder with
    advance := s.transport.advance.map fun a => a.resumed s.frame.startTimeout } := by
  let noticed : State := { s with frame := groupNotice s.frame k }
  have hframe : noticed.lineOrder = s.lineOrder ∧ noticed.frame.startTimeout = s.frame.startTimeout := by
    rcases groupNotice_cases s.frame k with h | ⟨m, h⟩ <;> (simp only [noticed]; rw [h]; exact ⟨rfl, rfl⟩)
  obtain ⟨horder, htimeout⟩ := hframe
  show (resumeAdvance noticed).lineOrder = _
  unfold resumeAdvance
  split
  · next n l ha =>
    have ha : s.transport.advance = some ⟨n, .waitingGroup, l⟩ := ha
    rw [advancePull_lineOrder, horder, htimeout, show noticed.transport.advance = s.transport.advance from rfl, ha]
    rfl
  · next hwait =>
    rw [horder]
    cases ha : s.transport.advance with
    | none => simp [State.lineOrder, ha]
    | some a =>
      obtain ⟨n, pull, l⟩ := a
      cases pull with
      | waitingGroup => exact absurd ha (hwait n l)
      | seating => simp [State.lineOrder, ha, Advance.resumed]

theorem groupEnded_numbers (s : State) (k : GroupKind) : (groupEnded s k).numbers = s.numbers := by simp [State.numbers]

/-- The order where no group is pending or under way (R81, R153). -/
theorem StepSound.of_free {t : State} (hfree : t.groupBusy = false) (hline : t.line.isSome = true → t.frame.state = .exposing)
    (halone : t.inFlight = true → t.transport.advance = none ∧ t.transport.roll.isSome = true)
    (hwaits : ∀ a, t.transport.advance = some a → a.pull = .seating) : StepSound t where
  pending h := by rw [((groupBusy_eq_false t).1 hfree).1] at h; cases h
  line h := ⟨hline h, hfree⟩
  seating _ := hfree
  alone := halone
  waits a ha := by rw [hwaits a ha, hfree]; decide

/-- The order where a group is under way (R85, R153). -/
theorem StepSound.of_group {t : State} (hpending : t.frame.pendingGroup = none) (hgroup : t.transport.group.isSome = true)
    (hline : t.line = none) (hstate : ¬(t.frame.state = .seating ∨ t.frame.state = .readying))
    (halone : t.inFlight = true → t.transport.advance = none ∧ t.transport.roll.isSome = true)
    (hwaits : ∀ a, t.transport.advance = some a → a.pull = .waitingGroup) : StepSound t where
  pending h := by rw [hpending] at h; cases h
  line h := by rw [hline] at h; cases h
  seating h := absurd h hstate
  alone := halone
  waits a ha := by simp [hwaits a ha, State.groupBusy, hgroup]

section Groups

variable {s : State} (hpending : s.frame.pendingGroup = none) (hgroup : s.transport.group = none)
  (halone : s.inFlight = true → s.transport.advance = none ∧ s.transport.roll.isSome = true)

include hpending hgroup halone

/-- A group has ended: an advance that waited for it goes on (R153). -/
theorem groupEnded_sound (hline : s.line.isSome = true → s.frame.state = .exposing) (k : GroupKind) : StepSound (groupEnded s k) := by
  have horder := groupEnded_lineOrder s k
  simp only [State.lineOrder, LineOrder.mk.injEq] at horder
  obtain ⟨-, -, hlineEq, -, hframe, hpendingEq, hgroupEq, hadvance, hloaded, -, -⟩ := horder
  refine .of_free ((groupBusy_eq_false _).2 ⟨hpendingEq.trans hpending, hgroupEq.trans hgroup⟩) ?_ ?_ fun a ha => ?_
  · rw [hlineEq, hframe]; exact hline
  · intro h
    obtain ⟨hadv, hroll⟩ := halone (by rw [State.inFlight, ← hframe]; exact h)
    exact ⟨by rw [hadvance, hadv]; rfl, hloaded.trans hroll⟩
  · obtain ⟨b, -, rfl⟩ := Option.map_eq_some_iff.1 (hadvance ▸ ha)
    exact b.resumed_pull _

/-- A group begins, or ends as it begins (R85, R153). -/
theorem beginGroup_sound (hline : s.line = none) (hstate : ¬(s.frame.state = .seating ∨ s.frame.state = .readying))
    (hwaits : ∀ a, s.transport.advance = some a → a.pull = .waitingGroup) (k : GroupKind) (n : Nat) : StepSound (beginGroup s k n) := by
  unfold beginGroup
  split
  · exact groupEnded_sound hpending hgroup halone (fun h => by rw [hline] at h; cases h) k
  · exact .of_group hpending rfl hline hstate halone hwaits

end Groups

theorem groupEnded_fit {s : State} (h : GroupsFit s) (k : GroupKind) : GroupsFit (groupEnded s k) := by
  have horder := groupEnded_lineOrder s k
  simp only [State.lineOrder, LineOrder.mk.injEq] at horder
  obtain ⟨-, -, -, -, -, hpending, hgroup, -, -, -, hsteps⟩ := horder
  exact ⟨fun i => (congrFun hsteps i).symm ▸ h.setups i, by rw [hpending]; exact h.groups.pending, by rw [hgroup]; exact h.groups.group⟩

/-- A group begins with the pulses given, or with none at all (R85, R153). -/
theorem beginGroup_fit {s : State} (h : GroupsFit s) (k : GroupKind) (n : Nat) : GroupsFit (beginGroup s k n) := by
  unfold beginGroup
  split
  · exact groupEnded_fit h k
  · next hn => exact ⟨h.setups, h.groups.pending, fun g hg => by cases hg; exact Nat.one_le_iff_ne_zero.2 hn⟩

/-- What a group's beginning leaves of the order: all but the group and the advance. -/
theorem beginGroup_lineOrder (s : State) (k : GroupKind) (n : Nat) : (beginGroup s k n).lineOrder = { s.lineOrder with
    group := (beginGroup s k n).transport.group, advance := (beginGroup s k n).transport.advance } := by
  unfold beginGroup
  split
  · have horder := groupEnded_lineOrder s k
    have hgroup : (groupEnded s k).transport.group = s.transport.group := congrArg LineOrder.group horder
    have hadvance : (groupEnded s k).transport.advance = _ := congrArg LineOrder.advance horder
    rw [horder, hgroup, hadvance]
    rfl
  · rfl

/-! ## The end of a window -/

/-- The notice of a window's end leaves the order but for the groups and the advance. -/
theorem windowPassed_lineOrder (s : State) : (windowPassed s).lineOrder = { s.lineOrder with
    pending := none, group := (windowPassed s).transport.group, advance := (windowPassed s).transport.advance } := by
  unfold windowPassed
  split
  · next h => simp [State.lineOrder, h]
  · exact beginGroup_lineOrder _ _ _

/-- The line group that waited for the window begins (R85): whether the window carried the line is said of the state before, as `w`. -/
theorem windowPassed_sound {s : State} {w : Window} (h : StepSound { s with engine := { s.engine with window := w } }) :
    StepSound (windowPassed s) := by
  unfold windowPassed
  split
  · next hp => exact ⟨fun e => by simp [hp] at e, h.line, h.seating, h.alone, h.waits⟩
  · next n hp =>
    have hbusy : State.groupBusy s = true := by simp [State.groupBusy, hp]
    obtain ⟨-, hgroup, hline⟩ := h.pending (by show s.frame.pendingGroup.isSome = true; simp [hp])
    refine beginGroup_sound (s := { s with frame := { s.frame with pendingGroup := none } }) rfl hgroup h.alone hline (fun e => ?_)
      (fun a ha => (h.waits a ha).2 hbusy) _ _
    exact absurd ((h.seating e).symm.trans hbusy) (by decide)

theorem windowPassed_fit {s : State} (h : GroupsFit s) : GroupsFit (windowPassed s) := by
  unfold windowPassed
  split
  · exact h
  · exact beginGroup_fit (s := { s with frame := { s.frame with pendingGroup := none } }) ⟨h.setups, nofun, h.groups.group⟩ _ _

theorem windowPassed_numbers (s : State) : (windowPassed s).numbers = s.numbers := by simp [State.numbers]

theorem WindowReads.of_none {s : State} (h : s.engine.window = .none) : WindowReads s :=
  ⟨fun e => absurd h e, fun _ _ _ e => by rw [h] at e; cases e⟩

theorem WindowAwaits.of_none {s : State} (h : s.engine.window = .none) : WindowAwaits s := fun _ _ e => by rw [h] at e; cases e

/-- A window gone, with a change of the STEP groups at most. -/
theorem OrderKept.of_window {s t : State} (steps : StepSound s → StepSound t) (groups : GroupsFit s → GroupsFit t)
    (rest : t.lineOrder = { s.lineOrder with
      window := .none, pending := t.frame.pendingGroup, group := t.transport.group, advance := t.transport.advance
      chan := t.lineOrder.chan } := by rfl)
    (numbers : t.numbers = s.numbers := by rfl) : OrderKept s t where
  numbering := .congr numbers
  reads _ := .of_none (congrArg LineOrder.window rest)
  awaits _ := .of_none (congrArg LineOrder.window rest)
  steps := steps
  buffers h n hn := by
    rw [show (t.port.buf n).state = _ from congrFun (congrArg LineOrder.buf rest) n] at hn
    rw [show t.line = s.line from congrArg LineOrder.line rest]
    exact h n hn
  groups := groups

/-- A window that ends or is abandoned: `m` is the state without it, and a line's window is told to the frame cycle (R85, R127, R128). -/
theorem windowGone_order {s m : State}
    (horder : m.lineOrder = State.lineOrder { s with engine := { s.engine with window := .none }, chans := m.chans })
    (hnumbers : m.numbers = s.numbers) : OrderKept s (if s.engine.window.carriesLine then windowPassed m else m) := by
  have hfit : GroupsFit s → GroupsFit m :=
    .of_eq (congrArg LineOrder.stepsPerLine horder :) (congrArg LineOrder.pending horder :) (congrArg LineOrder.group horder :)
  split
  · refine .of_window (fun h => ?_) (fun h => windowPassed_fit (hfit h)) ?_ ((windowPassed_numbers m).trans hnumbers)
    · refine windowPassed_sound (w := s.engine.window) (StepSound.congr (s := { s with chans := m.chans }) ?_
        ⟨h.pending, h.line, h.seating, h.alone, h.waits⟩)
      exact congrArg (fun o : LineOrder => { o with window := s.engine.window }) horder
    · rw [windowPassed_pendingGroup]
      have hchan : (windowPassed m).lineOrder.chan = m.lineOrder.chan :=
        (congrArg LineOrder.chan (windowPassed_lineOrder m) :)
      rw [hchan, windowPassed_lineOrder, horder]
      rfl
  · next hcarries =>
    refine .of_window (fun h => ?_) hfit ?_ hnumbers
    · refine StepSound.congr horder ?_
      exact ⟨fun e => absurd (h.pending e).1 hcarries, h.line, h.seating, h.alone, h.waits⟩
    · have hpending : m.frame.pendingGroup = _ := congrArg LineOrder.pending horder
      have hgroup : m.transport.group = _ := congrArg LineOrder.group horder
      have hadvance : m.transport.advance = _ := congrArg LineOrder.advance horder
      rw [hpending, hgroup, hadvance, horder]
      rfl

theorem endWindow_order (s : State) : OrderKept s (endWindow s) := by
  unfold endWindow
  split
  · exact .refl s
  · next k line hw =>
    have hgone := windowGone_order (s := s) (m := { s with engine := { s.engine with window := .none } }) rfl rfl
    rw [hw] at hgone
    exact hgone
  · next k line toRead hw =>
    have hgone := windowGone_order (s := s)
      (m := { s with engine := { s.engine with window := .none }, drives := toRead.foldl (fun d c => d.set c .off) s.drives }) rfl rfl
    rw [hw] at hgone
    exact hgone

/-! ## A channel's leaving of WARMING and READY -/

/-- A channel changed: one that the open window still reads stays WARMING or READY (R127). -/
theorem setChan_order {s : State} {c : Chan} {x : Channel}
    (h : ∀ k line l, s.engine.window = .opened k line l → c ∈ l → (s.chan c).state.warm = true → x.state.warm = true) :
    OrderKept s (s.setChan c x) where
  numbering := .congr rfl
  reads k := ⟨k.locked, fun n line l e => ⟨(k.reads n line l e).1, fun d hd => by
    have hwarm := (k.reads n line l e).2 d hd
    rw [State.setChan_chan]
    split
    · next hdc => subst hdc; exact h n line l e hd hwarm
    · exact hwarm⟩⟩
  awaits k := k
  steps k := ⟨k.pending, k.line, k.seating, k.alone, k.waits⟩
  buffers k := k
  groups := .of_eq rfl rfl rfl

theorem setChan_warm_order {s : State} {c : Chan} {x : Channel} (h : (s.chan c).state.warm = true → x.state.warm = true) :
    OrderKept s (s.setChan c x) := setChan_order fun _ _ _ _ _ => h

/-- A channel changed and taken out of the window (R126, R127): a window with no channel left to read ends. -/
theorem leaveWarm_order (s : State) (c : Chan) (x : Channel) : OrderKept s (dropSample (s.setChan c x) c) := by
  unfold dropSample
  simp only [State.setDrive_engine, State.setChan_engine]
  split
  · next k line toRead hw =>
    split
    · split
      · have hgone := windowGone_order (s := s)
          (m := { (s.setChan c x).setDrive c .off with
            engine := { s.engine with window := .none }
            drives := (toRead.erase c).foldl (fun d c => d.set c .off) ((s.setChan c x).setDrive c .off).drives }) rfl rfl
        rw [hw] at hgone
        exact hgone
      · next hmem hleft =>
        refine ⟨.congr rfl, fun h => ⟨fun _ => ?_, fun n b l e => ?_⟩, fun _ n b e => ?_, fun h => ?_, id, .of_eq rfl rfl rfl⟩
        · exact h.locked (by rw [hw]; nofun)
        · cases e
          obtain ⟨hsub, hwarm⟩ := h.reads k line toRead hw
          refine ⟨List.erase_sublist.trans hsub, fun d hd => ?_⟩
          have hne : d ≠ c := fun e => ((hsub.nodup (by decide)).not_mem_erase (a := c)) (e ▸ hd)
          show ((s.setChan c x).chan d).state.warm = true
          rw [State.setChan_chan, if_neg hne]
          exact hwarm d (List.mem_of_mem_erase hd)
        · injection e with _ _ hnil
          exact hleft (by rw [hnil]; rfl)
        · exact ⟨fun e => ⟨by simpa [hw, Window.carriesLine] using (h.pending e).1, (h.pending e).2⟩, h.line, h.seating, h.alone, h.waits⟩
    · next hmem =>
      refine (setChan_order (s := s) (c := c) (x := x) fun n b l e hc => ?_).trans .same
      rw [hw] at e
      cases e
      exact absurd (by simpa using hc) hmem
  · next hw => exact (setChan_order (s := s) (c := c) (x := x) fun n b l e => absurd e (hw n b l)).trans .same

theorem enterBiased_order (s : State) (c : Chan) : OrderKept s (enterBiased s c) := leaveWarm_order s c _

theorem darken_order (s : State) (c : Chan) : OrderKept s (darken s c) := leaveWarm_order s c _

/-! ## The end of a flight -/

/-- A flight ends with no line being exposed: the buffers are emptied and the frame record goes to IDLE or DRAINING (R92, R95, R112). -/
theorem landed_order {s t : State} (hline : s.line = none) (hflight : t.inFlight = false)
    (order : t.lineOrder = { s.lineOrder with frame := t.frame.state, buf := fun _ => .empty }) (engine : t.engine = s.engine)
    (chans : t.chans = s.chans) (numbers : t.numbers = s.numbers) : OrderKept s t := by
  have hnoBuf (n : Nat) : (t.port.buf n).state = .empty := congrFun (congrArg LineOrder.buf order :) n
  have hnoLine : t.line = none := (congrArg LineOrder.line order :).trans hline
  simp only [State.lineOrder, LineOrder.mk.injEq] at order
  obtain ⟨-, hwindow, -, -, -, hpending, hgroup, hadvance, -, -, hsteps⟩ := order
  have hbusy : t.groupBusy = s.groupBusy := by simp only [State.groupBusy, hpending, hgroup]
  refine .of_parts (fun h => ⟨?_, ?_, ?_, ?_, ?_⟩) (fun _ n hn => ?_) (.of_eq hsteps hpending hgroup) engine chans numbers
  · rw [hpending, hwindow, hgroup, hnoLine]
    exact fun e => ⟨(h.pending e).1, (h.pending e).2.1, rfl⟩
  · rw [hnoLine]; nofun
  · intro e
    have hstate : t.inFlight = true := by rcases e with e | e <;> simp [State.inFlight, FrameState.inFlight, e]
    rw [hflight] at hstate
    cases hstate
  · rw [hflight]; nofun
  · rw [hadvance, hbusy]; exact h.waits
  · rw [hnoBuf] at hn; cases hn

theorem settle_setups (s : State) : SameSetups s (settle s) := fun i => by
  simpa [settle, State.setup] using chargeFrame_same (returnPins s true) .exposed none i

theorem settle_lineOrder (s : State) : (settle s).lineOrder = { s.lineOrder with
    frame := if s.frame.endSeen then .idle else .draining, buf := fun _ => .empty } := by
  have hbuf (n : Nat) : ((settle s).port.buf n).state = .empty := by rw [settle_port]; unfold Port.buf; split <;> rfl
  simp [State.lineOrder, hbuf, (settle_setups s _).2, State.chan, settle_frame]

theorem settle_numbers (s : State) : (settle s).numbers = s.numbers := by simp [State.numbers, settle_optics]

theorem settle_order {s : State} (hline : s.line = none) : OrderKept s (settle s) :=
  landed_order hline (settle_inFlight s) ((settle_lineOrder s).trans (by rw [settle_frame])) (settle_engine s) (settle_chans s)
    (settle_numbers s)

/-- The part with no line being exposed and no modulator driven, as a spoil begins (R95). -/
def State.lineCut (s : State) : State := State.drivesOff { s with line := none }

theorem spoil_setups {s : State} {c : Cause} (h : s.inFlight = true) : SameSetups s (spoil s c) := fun i => by
  have hcharge := chargeFrame_same
    { returnPins (endWindow s.lineCut) false with port := spoilPort (returnPins (endWindow s.lineCut) false).port } .spoiled (some c) i
  simpa [spoil, h, State.setup, State.lineCut] using hcharge

theorem spoilPort_buf (p : Port) (n : Nat) : (spoilPort p).buf n = .cleared := by
  unfold spoilPort
  dsimp only
  split <;> exact Port.flush_buf p n

theorem spoil_order (s : State) (c : Cause) : OrderKept s (spoil s c) := by
  cases h : s.inFlight with
  | false => rw [spoil_of_idle h]; exact .refl s
  | true =>
    have hend := endWindow_order s.lineCut
    have hbuf (n : Nat) : ((spoil s c).port.buf n).state = .empty := by rw [spoil_port h, spoilPort_buf]; rfl
    have hland : OrderKept (endWindow s.lineCut) (spoil s c) := by
      refine landed_order (by simp [State.lineCut]) (spoil_inFlight s c) ?_ ?_ ?_ ?_
      · have hpending : (spoil s c).frame.pendingGroup = (endWindow s.lineCut).frame.pendingGroup := by
          simp [spoil, h, leaveFlight, State.lineCut]
        have htransport : (spoil s c).transport = (endWindow s.lineCut).transport := by simp [spoil, h, State.lineCut]
        have hchan (d : Chan) : ((spoil s c).chan d).state = ((endWindow s.lineCut).chan d).state := by simp [State.chan, State.lineCut]
        have hsetup (i : Fin 8) : ((spoil s c).setup i).config.stepsPerLine = ((endWindow s.lineCut).setup i).config.stepsPerLine := by
          rw [(spoil_setups h i).2]
          simp [State.setup, State.lineCut]
        simp only [State.lineOrder, hbuf, hpending, htransport, hchan, hsetup]
        simp [spoil_engine h, spoil_line h, State.lineCut]
      · simp [spoil_engine h, State.lineCut]
      · simp [State.lineCut]
      · simp [State.numbers, spoil_engine h, spoil_optics h, State.lineCut]
    have hrest := hend.trans hland
    refine ⟨fun k => hrest.numbering (.congr (s := s) rfl k), fun k => hrest.reads ⟨k.locked, k.reads⟩, fun k => hrest.awaits k, fun k => ?_,
      fun _ n hn => ?_, fun k => hrest.groups ⟨k.setups, k.groups.pending, k.groups.group⟩⟩
    · exact hrest.steps ⟨fun e => ⟨(k.pending e).1, (k.pending e).2.1, rfl⟩, nofun, k.seating, k.alone, k.waits⟩
    · rw [hbuf] at hn; cases hn

/-! ## The engine -/

/-- The facet's number in a GOOD revolution (R121, R122). -/
def Engine.goodNumbered (e : Engine) : Prop := ∀ m, e.mark = .good → e.revCount = some m → 1 ≤ m → e.facet = some (m - 1)

/-- At the beginning of a revolution no facet is numbered yet. -/
theorem Engine.goodNumbered_zero {e : Engine} (h : e.revCount = some 0) : e.goodNumbered := by
  intro m _ hm hpos
  rw [h] at hm
  cases hm
  cases hpos

/-- The engine's record alone changes: a window that is held asks for LOCKED as before (R118, R127). -/
theorem engine_order {s : State} {e : Engine} (window : e.window = s.engine.window)
    (locked : s.engine.window ≠ .none → s.engine.state = .locked → e.state = .locked)
    (numbering : NumberingSound s → NumberingSound { s with engine := e }) : OrderKept s { s with engine := e } where
  numbering := numbering
  reads h := ⟨fun k => locked (window ▸ k) (h.locked (window ▸ k)), fun n line l k => h.reads n line l (window ▸ k)⟩
  awaits h n line k := h n line (window ▸ k)
  steps h := ⟨by rw [show State.engine { s with engine := e } = e from rfl, window]; exact h.pending, h.line, h.seating, h.alone, h.waits⟩
  buffers h := h
  groups := .of_eq rfl rfl rfl

theorem leaveLocked_engine (s : State) (next : EngineState) :
    (leaveLocked s next).engine = { s.engine with state := next, good := 0, window := .none } := by
  simp only [leaveLocked, endWindow_engine, State.drivesOff_engine]
  split
  · next h => rw [spoil_engine (inFlight_of_exposing h)]; rfl
  · rfl

theorem leaveLocked_sets (s : State) (next : EngineState) :
    (leaveLocked s next).optics.cur = s.optics.cur ∧ (leaveLocked s next).optics.other = s.optics.other := by
  simp only [leaveLocked, endWindow_optics, State.drivesOff_optics]
  split
  · next h => rw [spoil_optics (inFlight_of_exposing h)]; exact ⟨rfl, rfl⟩
  · exact ⟨rfl, rfl⟩

/-- The engine leaves LOCKED (R123): `m` is the state as it does, with the engine's record changed, and the sets of corrections. -/
theorem leaveLocked_order {s m : State} {next : EngineState} (hnext : next ≠ .locked)
    (order : m.lineOrder = State.lineOrder { s with engine := { s.engine with state := m.engine.state } })
    (numbering : NumberingSound s → FacetsPositive m ∧ m.engine.goodNumbered) : OrderKept s (leaveLocked m next) := by
  let r := State.raise { m with engine := { m.engine with state := next, good := 0 } } .lockLost
  have hr : r.lineOrder = State.lineOrder { s with engine := { s.engine with state := next } } :=
    congrArg (fun o : LineOrder => { o with engine := next }) order
  have hspoil : OrderKept r (if r.frame.state = .exposing then spoil r .sync else r) :=
    .ite _ (fun _ => spoil_order r .sync) fun _ => .refl r
  have hleave : OrderKept r (leaveLocked m next) := hspoil.trans (endWindow_order _).after
  have hengine := leaveLocked_engine m next
  have hwindow : (leaveLocked m next).engine.window = .none := by rw [hengine]
  refine ⟨fun h => ?_, fun _ => .of_none hwindow, fun _ => .of_none hwindow, fun h => hleave.steps (.congr hr ?_),
    fun h => hleave.buffers (.congr hr h), fun h => hleave.groups (.congr hr ⟨h.setups, h.groups.pending, h.groups.group⟩)⟩
  · obtain ⟨hfacets, hgood⟩ := numbering h
    obtain ⟨hcur, hother⟩ := leaveLocked_sets m next
    refine ⟨⟨by rw [hcur]; exact hfacets.current, by rw [hother]; exact hfacets.other, by rw [leaveLocked_image]; exact hfacets.loading⟩,
      ?_, ?_⟩
    · rw [hengine]; exact hgood
    · rw [hengine]; exact fun e => absurd e hnext
  · exact ⟨h.pending, h.line, h.seating, h.alone, h.waits⟩

/-- A change of the sets of corrections reaches the engine (R59): where F changes, the engine leaves LOCKED. -/
theorem facetsChanged_order {s m : State} (facets : FacetsPositive s → FacetsPositive m) (order : m.lineOrder = s.lineOrder := by rfl)
    (engine : m.engine = s.engine := by rfl) : OrderKept s (facetsChanged m) := by
  unfold facetsChanged
  have hgood : NumberingSound s → m.engine.goodNumbered := fun h => by rw [engine]; exact h.good
  split
  · exact leaveLocked_order (by decide) (order.trans (by rw [engine])) fun h => ⟨facets h.facets, hgood h⟩
  · next hstate =>
    refine ⟨fun h => ⟨(facets h.facets).of_eq, hgood h, fun e => ?_⟩,
      .congr order, .congr order, .congr order, .congr order, .congr order⟩
    exact absurd (hstate.symm.trans e) (by decide)
  · next hstate =>
    refine ⟨fun h => ⟨facets h.facets, hgood h, fun e => ?_⟩, .congr order, .congr order, .congr order, .congr order, .congr order⟩
    exact absurd (hstate.symm.trans e) (by decide)

theorem periodFiguresChanged_order (s : State) : OrderKept s (periodFiguresChanged s) := by
  unfold periodFiguresChanged
  split
  · exact leaveLocked_order (by decide) rfl fun h => ⟨h.facets, h.good⟩
  · exact .same
  · exact .refl s

theorem stallEngine_order (s : State) : OrderKept s (stallEngine s) := by
  unfold stallEngine
  split
  · exact .refl s
  · next hstate =>
    refine engine_order rfl (fun _ e => ?_) fun h => ⟨h.facets.of_eq, nofun, nofun⟩
    rw [hstate] at e
    cases e
  · exact leaveLocked_order (m := { s with engine := s.engine.stalled }) (by decide) rfl
      fun h => ⟨h.facets.of_eq, nofun⟩

/-! ## Readiness -/

/-- No line is exposed outside EXPOSING (R90). -/
theorem StepSound.line_none {s : State} (h : StepSound s) (hstate : s.frame.state ≠ .exposing) : s.line = none := by
  by_contra hline
  exact hstate (h.line (Option.isSome_iff_ne_none.2 hline)).1

/-- A frame in READYING goes on to EXPOSING, and its margin group begins or ends as it begins (R88). -/
theorem enterExposing_order {s : State} (hstate : s.frame.state = .readying) : OrderKept s (enterExposing s) := by
  let m : State := { s with frame := { s.frame with state := .exposing, margin := .underWay, stride := 0, lineWait := 0 } }
  have hflight : s.inFlight = true := by simp [State.inFlight, hstate, FrameState.inFlight]
  refine .of_parts (fun h => ?_) (fun h => h.of_eq) (fun h => ?_)
  · obtain ⟨hpending, hgroup⟩ := (groupBusy_eq_false s).1 (h.seating (.inr hstate))
    obtain ⟨hadvance, hroll⟩ := h.alone hflight
    refine beginGroup_sound (s := m) hpending hgroup (fun _ => ⟨hadvance, hroll⟩) (h.line_none (by rw [hstate]; decide))
      (by rintro (e | e) <;> cases e) (fun a ha => ?_) _ _
    rw [show s.transport.advance = some a from ha] at hadvance
    cases hadvance
  · exact beginGroup_fit (s := m) ⟨h.setups, h.groups.pending, h.groups.group⟩ _ _

theorem testReady_order (s : State) : OrderKept s (testReady s) := .ite _ (fun h => enterExposing_order h.1) fun _ => .refl s

theorem enterDark_order (s : State) (c : Chan) : OrderKept s (enterDark s c) := (darken_order s c).trans (spoil_order _ _)

theorem enterFault_order (s : State) (c : Chan) (x : FaultCause) : OrderKept s (enterFault s c x) :=
  (leaveWarm_order s c _).trans (spoil_order _ _).after

theorem enterReady_order (s : State) (c : Chan) : OrderKept s (enterReady s c) :=
  (setChan_warm_order fun _ => rfl).trans (testReady_order _).after

end Sys2Proof.Machine
end

section
/-! FACET, INDEX, the lines, the readings and the timers keep the order (R89, R90, R118 to R129). -/

namespace Sys2Proof.Machine

-- one theorem after another, as in the tests: a checker's memory limit leaves no room for many threads at once
set_option Elab.async false

open Sys2Proof

/-! ## A line's beginning and end -/

/-- A line is exposed from its buffer where the facet carries it: no other line and no group is there (R89, R90, R110). -/
theorem facetUse_eq_carries {s : State} (h : facetUse s = .carries) :
    s.frame.state = .exposing ∧ s.line = none ∧ s.groupBusy = false := by
  unfold facetUse at h
  split at h
  · split at h
    · next hc =>
      obtain ⟨hstate, -, hline, hbusy⟩ := hc
      exact ⟨hstate, by simpa using hline, by simpa using hbusy⟩
    · cases h
  · cases h

theorem exposeLine_order {s : State} (hstate : s.frame.state = .exposing) (hline : s.line = none) (hbusy : s.groupBusy = false)
    (k : Nat) : OrderKept s (exposeLine s k) := by
  unfold exposeLine
  split
  · next l x _ _ =>
    refine ⟨.congr rfl, fun h => ⟨h.locked, h.reads⟩, fun h => h, fun h => ?_, fun h n hn => ⟨_, rfl, ?_⟩, .of_eq rfl rfl rfl⟩
    · refine ⟨fun e => ?_, fun _ => ⟨hstate, hbusy⟩, h.seating, h.alone, h.waits⟩
      rw [show s.frame.pendingGroup = none from ((groupBusy_eq_false s).1 hbusy).1] at e
      cases e
    · by_cases hparity : n % 2 = l.lines % 2
      · simp [lineContext, hparity]
      · obtain ⟨y, hy, -⟩ := h n (by simpa [Port.buf_setBuf, hparity] using hn)
        rw [hline] at hy
        cases hy
  · exact .refl s

/-- What `offerFacet` changes of the frame cycle's own counts is no part of the order. -/
theorem offerFacet_order (s : State) (k : Nat) : OrderKept s (offerFacet s k) := by
  unfold offerFacet
  cases h : facetUse s with
  | uncounted => exact .refl s
  | passes => exact .same
  | starved => exact .same
  | carries =>
    obtain ⟨hstate, hline, hbusy⟩ := facetUse_eq_carries h
    exact (exposeLine_order (s := { s with frame := { s.frame with stride := s.frame.strideNext } }) hstate hline hbusy k).after

theorem exposeLine_engine (s : State) (k : Nat) :
    (exposeLine s k).engine.state = s.engine.state ∧ (exposeLine s k).engine.window = s.engine.window := by
  unfold exposeLine
  split <;> exact ⟨rfl, rfl⟩

theorem offerFacet_engine (s : State) (k : Nat) :
    (offerFacet s k).engine.state = s.engine.state ∧ (offerFacet s k).engine.window = s.engine.window := by
  unfold offerFacet
  cases facetUse s with
  | carries => exact exposeLine_engine _ k
  | _ => exact ⟨rfl, rfl⟩

/-- A window is scheduled on a locked facet, none being held: nothing is pending then (R124, R127). -/
theorem scheduleSample_order {s : State} (hlocked : s.engine.state = .locked) (hwindow : s.engine.window = .none) (phase k : Nat)
    (carries : Bool) : OrderKept s (scheduleSample s phase k carries) := by
  refine .ite _ (fun _ => ?_) fun _ => .refl s
  refine ⟨.congr rfl, fun _ => ⟨fun _ => hlocked, nofun⟩, fun _ => nofun, fun h => ?_, fun h => h, .of_eq rfl rfl rfl⟩
  refine ⟨fun e => ?_, h.line, h.seating, h.alone, h.waits⟩
  have hcarries := (h.pending e).1
  rw [hwindow] at hcarries
  cases hcarries

/-- A facet numbered within F (R121, R122): its number is one below the count. -/
theorem Engine.number_of_lt (e : Engine) {m f : Nat} (h : m < f) :
    ∃ n, 1 ≤ n ∧ n ≤ f ∧ (e.number m f).revCount = some n ∧ (e.number m f).facet = some (n - 1) := by
  have hle : satAdd 255 m 1 ≤ f := by unfold satAdd; omega
  exact ⟨satAdd 255 m 1, by unfold satAdd; omega, hle, rfl, if_pos hle⟩

/-- A facet of a locked engine (R122): numbered within F and offered to the frame cycle, or lock is lost. -/
theorem lockedFacet_order {s : State} (hlocked : s.engine.state = .locked) (hwindow : s.engine.window = .none) (phase p : Nat) :
    OrderKept s (lockedFacet s phase p) := by
  let f := s.optics.cur.facets
  let m := s.engine.revCount.getD 0
  let numbered : State := { s with engine := s.engine.number m f }
  refine .ite _ (fun _ => ?_) fun hgood => ?_
  · exact leaveLocked_order (m := { numbered with engine := { numbered.engine with mark := .bad } }) (by decide) rfl
      fun h => ⟨h.facets.of_eq, nofun⟩
  · have hlt : m < f := by
      simp only [Bool.or_eq_true, decide_eq_true_eq, not_or] at hgood
      exact Nat.lt_of_not_le hgood.2
    have hnumber : OrderKept s numbered := by
      obtain ⟨n, hpos, hle, hcount, hfacet⟩ := s.engine.number_of_lt hlt
      refine engine_order rfl (fun _ e => e) fun h => ⟨h.facets.of_eq, fun j _ hj _ => ?_, fun _ => ?_⟩
      · rw [show (s.engine.number m f).revCount = some j from hj] at hcount
        cases hcount
        exact hfacet
      · exact ⟨n, n - 1, hcount, hle, hfacet, Nat.sub_one_lt_of_le hpos hle⟩
    have hoffer := offerFacet_order numbered m
    obtain ⟨hstate, hwin⟩ := offerFacet_engine numbered m
    exact (hnumber.trans hoffer).trans (scheduleSample_order (hstate.trans hlocked) (hwin.trans hwindow) phase m _)

/-- A facet of an engine in ACQUIRING (R121): the mark stays GOOD only where it is numbered within F. -/
theorem acquiringFacet_numbered {e : Engine} (p : Nat) {f : Nat} (h : e.goodNumbered) : (e.acquiringFacet p f).goodNumbered := by
  unfold Engine.acquiringFacet
  split
  · exact h
  · next m hm =>
    dsimp only
    split
    · exact nofun
    · next hbad =>
      simp only [Bool.or_eq_true, decide_eq_true_eq, not_or, Nat.not_lt] at hbad
      intro n _ hn _
      cases hn
      exact if_pos hbad.2

theorem acquiringFacet_state (e : Engine) (p f : Nat) :
    (e.acquiringFacet p f).state = e.state ∧ (e.acquiringFacet p f).window = e.window := by
  unfold Engine.acquiringFacet
  split
  · exact ⟨rfl, rfl⟩
  · dsimp only
    split <;> exact ⟨rfl, rfl⟩

/-- A FACET taken (R119 to R122): the window is abandoned first, and the facet goes to the engine by its state. -/
theorem takeFacet_order (s : State) : OrderKept s (takeFacet s) := by
  let m : State := { endWindow s with engine := (endWindow s).engine.nextPhase }
  have hwindow : m.engine.window = .none := by simp [m, Engine.nextPhase]
  refine ((endWindow_order s).trans (.same (t := m))).trans ?_
  unfold takeFacet
  dsimp only
  split
  · exact engine_order rfl (fun e => absurd hwindow e) fun h => ⟨h.facets.of_eq, nofun, nofun⟩
  · next hstate =>
    obtain ⟨hacq, hwin⟩ := acquiringFacet_state (m.engine.capture s.engine.periodCount) s.engine.periodCount m.optics.cur.facets
    refine engine_order hwin (fun e => absurd hwindow e) fun h => ⟨h.facets.of_eq, acquiringFacet_numbered _ h.good, fun e => ?_⟩
    exact absurd (hstate.symm.trans (hacq.symm.trans e)) (by decide)
  · next hstate =>
    exact (lockedFacet_order (s := { m with engine := m.engine.capture s.engine.periodCount }) hstate hwindow _ _).after

/-! ## INDEX -/

/-- An INDEX in ACQUIRING (R121): the revolution just ended is judged, and two good ones gain lock. -/
theorem index_order (s : State) : EndsIn (execIndex s) (OrderKept s) := by
  refine .next ?_
  dsimp only
  split
  · exact .refl s
  · next hstate =>
    refine .ite _ (fun hjudged => ?_) fun _ => ?_
    · let e := { s.engine.newRevolution with good := s.engine.goodNext s.optics.cur.facets, state := .locked }
      refine .trans (t := State.raise { s with engine := e } .lockGained) ?_ (testReady_order _)
      refine (engine_order (s := s) (e := e) rfl (fun _ _ => rfl) fun h => ?_).trans .same
      have hgood : s.engine.mark = .good ∧ s.engine.revCount = some s.optics.cur.facets := by
        simpa [Engine.judgedGood] using (Bool.and_eq_true_iff.1 hjudged).1
      have hfacet := h.good _ hgood.1 hgood.2 h.facets.current
      exact ⟨h.facets.of_eq, Engine.goodNumbered_zero rfl, fun _ =>
        ⟨0, _, rfl, Nat.zero_le _, hfacet, Nat.sub_one_lt_of_le h.facets.current (Nat.le_refl _)⟩⟩
    · refine engine_order rfl (fun _ e => ?_) fun h => ⟨h.facets.of_eq, Engine.goodNumbered_zero rfl, fun e => ?_⟩
      · exact absurd (hstate.symm.trans e) (by decide)
      · exact absurd (hstate.symm.trans e) (by decide)
  · refine .ite _ (fun _ => ?_) fun _ => ?_
    · refine engine_order rfl (fun _ e => e) fun h => ⟨h.facets.of_eq, Engine.goodNumbered_zero rfl, fun e => ?_⟩
      obtain ⟨-, k, -, -, hk, hlt⟩ := h.locked e
      exact ⟨0, k, rfl, Nat.zero_le _, hk, hlt⟩
    · exact leaveLocked_order (m := { s with engine := s.engine.newRevolution }) (by decide) rfl
        fun h => ⟨h.facets.of_eq, Engine.goodNumbered_zero rfl⟩

/-! ## A line's completion and the window -/

/-- The group that is pending has the pulses of a line (R67, R85). -/
theorem endLine_fit {s : State} (x : LineContext) (h : GroupsFit s) : GroupsFit (endLine s x) where
  setups := h.setups
  groups := by
    refine ⟨fun n hn => ?_, h.groups.group⟩
    obtain ⟨y, hy, rfl⟩ := Option.map_eq_some_iff.1 (show s.frameSetup.map (fun y => y.config.stepsPerLine) = some n from hn)
    obtain ⟨i, -, rfl⟩ := Option.map_eq_some_iff.1 hy
    exact h.setups i

/-- The state once the line has ended and, at window line y1, the frame is settled (R90, R92). -/
def lineSettled (s : State) (x : LineContext) : State := if frameComplete (endLine s x) then settle (endLine s x) else endLine s x

theorem lineSettled_order (s : State) (x : LineContext) : OrderKept (endLine s x) (lineSettled s x) :=
  .ite _ (fun _ => settle_order rfl) fun _ => .refl _

theorem lineSettled_engine (s : State) (x : LineContext) : (lineSettled s x).engine = s.engine := by
  unfold lineSettled
  split
  · exact settle_engine _
  · rfl

theorem lineSettled_chans (s : State) (x : LineContext) : (lineSettled s x).chans = s.chans := by
  unfold lineSettled
  split
  · exact settle_chans _
  · rfl

/-- A line's end and the settlement do not look at the window. -/
theorem lineSettled_window (s : State) (x : LineContext) (w : Window) :
    State.lineOrder { lineSettled s x with engine := { (lineSettled s x).engine with window := w } } =
      (lineSettled { s with engine := { s.engine with window := w } } x).lineOrder := by
  have hcomplete : frameComplete (endLine { s with engine := { s.engine with window := w } } x) = frameComplete (endLine s x) := rfl
  unfold lineSettled
  rw [hcomplete]
  split
  · show { (settle (endLine s x)).lineOrder with window := w } = _
    rw [settle_lineOrder, settle_lineOrder]
    rfl
  · rfl

section LineEnds

variable {s : State} {x : LineContext} (hx : s.line = some x)

include hx

/-- The line's buffer is emptied, and no other was EXPOSING (R110). -/
theorem endLine_buffers (h : BuffersSound s) : BuffersSound (endLine s x) := by
  intro n hn
  have hn : ((s.port.setBuf x.buffer .cleared).buf n).state = .exposing := hn
  rw [Port.buf_setBuf] at hn
  split at hn
  · cases hn
  · next hparity =>
    obtain ⟨y, hy, hyn⟩ := h n hn
    rw [hx] at hy
    cases hy
    exact absurd hyn.symm hparity

/-- The line's group is pending while its window is to pass (R85); only a frame in EXPOSING with no group exposes a line. -/
theorem endLine_sound (h : StepSound s) (hcarries : s.engine.window.carriesLine = true) : StepSound (endLine s x) := by
  obtain ⟨hstate, hfree⟩ := h.line (by rw [hx]; rfl)
  obtain ⟨-, hgroup⟩ := (groupBusy_eq_false s).1 hfree
  obtain ⟨hadvance, hroll⟩ := h.alone (inFlight_of_exposing hstate)
  refine ⟨fun _ => ⟨hcarries, hgroup, rfl⟩, nofun, fun e => ?_, fun _ => ⟨hadvance, hroll⟩, fun a ha => ?_⟩
  · rw [show (endLine s x).frame.state = .exposing from hstate] at e
    rcases e with e | e <;> cases e
  · rw [show (endLine s x).transport.advance = none from hadvance] at ha
    cases ha

/-- The line's group is pending (R85, R90), or under way where its window has passed (log entry 14); at window line y1 the frame settles. -/
theorem completeLine_order : OrderKept s (completeLine s x) := by
  have hsettle : OrderKept (endLine s x) (lineSettled s x) := lineSettled_order s x
  have hengine : (lineSettled s x).engine = s.engine := lineSettled_engine s x
  have hnumbers : (lineSettled s x).numbers = s.numbers := by
    unfold lineSettled
    split
    · exact settle_numbers _
    · rfl
  cases hcarries : s.engine.window.carriesLine with
  | true =>
    rw [completeLine_carries hcarries]
    exact .of_parts (fun h => hsettle.steps (endLine_sound hx h hcarries)) (fun h => hsettle.buffers (endLine_buffers hx h))
      (fun h => hsettle.groups (endLine_fit x h)) hengine (lineSettled_chans s x) hnumbers
  | false =>
    have hpassed : completeLine s x = windowPassed (lineSettled s x) := by
      show (if (lineSettled s x).engine.window.carriesLine then lineSettled s x else windowPassed (lineSettled s x)) = _
      rw [hengine, hcarries]
      rfl
    rw [hpassed]
    refine .of_parts (fun h => ?_) (fun h => (hsettle.buffers (endLine_buffers hx h)).of_eq)
      (fun h => windowPassed_fit (hsettle.groups (endLine_fit x h))) (by simp [hengine]) (by simp [lineSettled_chans])
      ((windowPassed_numbers _).trans hnumbers)
    let w : Window := .scheduled 0 true
    let r : State := { s with engine := { s.engine with window := w } }
    have hfree := (h.line (by rw [hx]; rfl)).2
    have hr : StepSound r := by
      refine ⟨fun e => ?_, h.line, h.seating, h.alone, h.waits⟩
      rw [show r.frame.pendingGroup = none from ((groupBusy_eq_false s).1 hfree).1] at e
      cases e
    have hended : StepSound (lineSettled r x) := (lineSettled_order r x).steps (endLine_sound (s := r) hx hr rfl)
    exact windowPassed_sound (w := w) (hended.congr (lineSettled_window s x w))

end LineEnds

theorem completeIfDue_order (s : State) : OrderKept s (completeIfDue s) := by
  unfold completeIfDue
  split
  · next x hx => exact .ite _ (fun _ => completeLine_order hx) fun _ => .refl s
  · exact .refl s

theorem sampled_mem {s : State} {c : Chan} (h : c ∈ s.sampled) : (s.chan c).state.warm = true := (List.mem_filter.1 h).2

/-- A window that waited opens with the channels that are WARMING or READY, or ends where there is none (R127). -/
theorem openScheduled_order (s : State) : OrderKept s (openScheduled s) := by
  unfold openScheduled
  split
  · next k line hw =>
    refine .ite _ (fun _ => endWindow_order s) fun hne => ?_
    refine ⟨.congr rfl, fun h => ⟨fun _ => h.locked (by rw [hw]; nofun), fun n l toRead e => ?_⟩, fun _ n l e => ?_, fun h => ?_, id,
      .of_eq rfl rfl rfl⟩
    · cases e
      exact ⟨List.filter_sublist, fun c hc => sampled_mem hc⟩
    · injection e with _ _ hnil
      exact hne (by rw [hnil]; rfl)
    · exact ⟨fun e => ⟨by simpa [hw, Window.carriesLine] using (h.pending e).1, (h.pending e).2⟩, h.line, h.seating, h.alone, h.waits⟩
  · exact .refl s

theorem openIfDue_order (s : State) : OrderKept s (openIfDue s) := .ite _ (fun _ => openScheduled_order s) fun _ => .refl s

/-! ## Readings -/

theorem driftSample_state (x : Channel) (m : Nat) (raw : Int) : (x.driftSample m raw).state = x.state := by
  unfold Channel.driftSample
  split <;> rfl

theorem handleSample_order (s : State) (c : Chan) (m : Nat) : OrderKept s (handleSample s c m) := by
  simp only [handleSample]
  split
  · next hstate =>
    refine (setChan_warm_order (s := s) (c := c) fun _ => ?_).trans (.ite _ (fun _ => enterReady_order _ c) fun _ => .refl _)
    exact congrArg ChannelState.warm hstate
  · next hstate =>
    refine (setChan_warm_order (s := s) (c := c) fun _ => ?_).trans (.ite _ (fun _ => enterFault_order _ c _) fun _ => .refl _)
    exact congrArg ChannelState.warm ((driftSample_state _ m _).trans hstate)
  · exact .refl s

theorem handleReading_order (s : State) (c : Chan) (m : Nat) : OrderKept s (handleReading s c m) := by
  have hlast : OrderKept s (s.setChan c { s.chan c with lastM := some 0 }) := setChan_warm_order id
  exact .ite _ (fun _ => hlast.trans (enterFault_order _ c _)) fun _ => handleSample_order s c m

/-- A window that no channel waits for any more ends (R127). -/
theorem closeRead_order (s : State) : OrderKept s (closeRead s) := by
  unfold closeRead
  split
  · exact endWindow_order s
  · exact .refl s

theorem closeRead_awaits (s : State) : WindowAwaits (closeRead s) := by
  unfold closeRead
  split
  · exact .of_none (by simp)
  · next hw => exact fun k line => hw k line

/-- A reading of the first channel still to be read (R127, R136): it is taken off the window before it is handled, and the window ends after
it where it was the last. -/
theorem execMonitorReading_order (c : Chan) (reading : BitVec 12) (s : State) : EndsIn (execMonitorReading c reading s) (OrderKept s) := by
  refine .next ?_
  split
  · next k line next rest hw =>
    refine .ite _ (fun _ => ?_) fun _ => .refl s
    let m : State := State.setDrive { s with engine := { s.engine with window := .opened k line rest } } c .off
    have hread : OrderKept m (closeRead (handleReading m c reading.toNat)) := (handleReading_order m c _).trans (closeRead_order _)
    refine ⟨fun h => hread.numbering (.congr (s := s) rfl h), fun h => hread.reads ⟨fun _ => ?_, fun n l toRead e => ?_⟩,
      fun _ => closeRead_awaits _, fun h => hread.steps ?_, fun h => hread.buffers h, fun h => hread.groups (.of_eq (s := s) rfl rfl rfl h)⟩
    · exact h.locked (by rw [hw]; nofun)
    · cases e
      obtain ⟨hsub, hwarm⟩ := h.reads k line _ hw
      exact ⟨(List.sublist_cons_self _ _).trans hsub, fun d hd => hwarm d (List.mem_cons_of_mem _ hd)⟩
    · refine ⟨fun e => ?_, h.line, h.seating, h.alone, h.waits⟩
      obtain ⟨hcarries, hrest⟩ := h.pending e
      rw [hw] at hcarries
      exact ⟨hcarries, hrest⟩
  · exact .refl s

end Sys2Proof.Machine
end

section
/-! The timers, the words of the port, the header, the transport, the sets of corrections and the resets keep the order. -/

namespace Sys2Proof.Machine

-- one theorem after another, as in the tests: a checker's memory limit leaves no room for many threads at once
set_option Elab.async false

open Sys2Proof

/-! ## The timers -/

theorem biasIfReady_order (s : State) (c : Chan) : OrderKept s (biasIfReady s c) :=
  .ite _ (fun _ => enterBiased_order s c) fun _ => .refl s

theorem autoBias_order (s : State) : OrderKept s (autoBias s) :=
  (((biasIfReady_order _ .red).trans (biasIfReady_order _ .grn)).trans (biasIfReady_order _ .blu)).after

theorem startTimeoutPassed_order (s : State) : OrderKept s (startTimeoutPassed s) :=
  .ite _ (fun _ => spoil_order s _) fun _ => .refl s

theorem lineWaitPassed_order (s : State) : OrderKept s (lineWaitPassed s) := .ite _ (fun _ => spoil_order s _) fun _ => .refl s

theorem warmTimeoutPassed_order (s : State) (c : Chan) : OrderKept s (warmTimeoutPassed s c) :=
  .ite _ (fun _ => enterFault_order s c _) fun _ => .refl s

/-- The advance in progress ends: none waits for a group any more (R160). -/
theorem endAdvance_order (s : State) (x : LastAdvance) : OrderKept s (endAdvance s x) :=
  .of_parts (fun h => ⟨h.pending, h.line, h.seating, fun e => ⟨rfl, (h.alone e).2⟩, nofun⟩) (fun h => h) (.of_eq rfl rfl rfl) rfl rfl rfl

theorem pullTimeoutPassed_order (s : State) : OrderKept s (pullTimeoutPassed s) := by
  unfold pullTimeoutPassed
  split
  · exact (endAdvance_order s _).trans .same
  · exact .refl s

theorem idleTick_order (s : State) : OrderKept s (idleTick s) :=
  .ite _ (fun _ => .ite _ (fun _ => (autoBias_order _).after) fun _ => .same) fun _ => .refl s

theorem startTick_order (s : State) : OrderKept s (startTick s) :=
  .ite _ (fun _ => .ite _ (fun _ => startTimeoutPassed_order s) fun _ => .same) fun _ => .refl s

theorem lineWaitTick_order (s : State) : OrderKept s (lineWaitTick s) :=
  .ite _ (fun _ => .ite _ (fun _ => lineWaitPassed_order s) fun _ => .same) fun _ => .refl s

theorem facetTick_order (s : State) : OrderKept s (facetTick s) := by
  unfold facetTick
  split
  · exact .refl s
  · exact .ite _ (fun _ => stallEngine_order s) fun _ => .same

theorem warmTick_order (s : State) (c : Chan) : OrderKept s (warmTick s c) :=
  .ite _ (fun _ => .ite _ (fun _ => warmTimeoutPassed_order s c) fun _ => setChan_warm_order id) fun _ => .refl s

theorem pullTick_order (s : State) : OrderKept s (pullTick s) := by
  unfold pullTick
  split
  · exact .ite _ (fun _ => pullTimeoutPassed_order s) fun _ => .same
  · exact .refl s

/-- The image record, the flash and the free values are no part of the order while the load set is as it was. -/
theorem failSave_order (s : State) : OrderKept s (failSave s) := by
  unfold failSave
  split
  · exact .refl s
  · rw [failFlash_eq]; exact .same

theorem imageTick_order (s : State) : OrderKept s (imageTick s) :=
  .ite _ (fun _ => .ite _ (fun _ => failSave_order s) fun _ => .same) fun _ => .refl s

theorem tick_order (s : State) : OrderKept s (tick s) := by
  have hframe := (((idleTick_order s).trans (startTick_order _)).trans (lineWaitTick_order _)).trans (facetTick_order _)
  have hwarm := ((hframe.trans (warmTick_order _ .red)).trans (warmTick_order _ .grn)).trans (warmTick_order _ .blu)
  exact (hwarm.trans (pullTick_order _)).trans (imageTick_order _)

theorem tickIfDue_order (s : State) : OrderKept s (tickIfDue s) := .ite _ (fun _ => (tick_order _).after) fun _ => .refl s

theorem periodEvents_order (s : State) : OrderKept s (periodEvents s) :=
  ((completeIfDue_order s).trans (openIfDue_order _)).trans (tickIfDue_order _)

/-- REFCLK periods pass: each thing that falls on them keeps the order. -/
theorem elapse_order (fuel : Nat) : ∀ (n : Nat) (s : State), OrderKept s (elapse fuel n s) := by
  induction fuel with
  | zero => exact fun n s => .same
  | succ fuel ih =>
    intro n s
    exact .ite _ (fun _ => .same) fun _ => (periodEvents_order _).after.trans (ih _ _)

theorem pass_order (n : Nat) (s : State) : OrderKept s (pass n s) := elapse_order n n s

/-! ## The words of the port -/

/-- The frame record changes while no frame is in flight, and none comes into it (R82, R83, R93). -/
theorem frame_order {s : State} {f : FrameCycle} (hs : s.inFlight = false) (hf : f.state.inFlight = false)
    (hpending : f.pendingGroup = s.frame.pendingGroup) : OrderKept s { s with frame := f } := by
  refine .of_parts (fun h => ?_) (fun h => h) (.of_eq rfl hpending rfl) rfl rfl rfl
  have hbusy : State.groupBusy { s with frame := f } = s.groupBusy := by simp only [State.groupBusy, hpending]
  have hline : s.line = none := h.line_none fun e => by simp [State.inFlight, e, FrameState.inFlight] at hs
  refine ⟨fun e => h.pending (hpending ▸ e), fun e => ?_, fun e => ?_, fun e => ?_, fun a ha => hbusy ▸ h.waits a ha⟩
  · rw [show State.line { s with frame := f } = none from hline] at e
    cases e
  · rcases e with e | e <;> rw [show f.state = _ from e] at hf <;> cases hf
  · rw [show State.inFlight { s with frame := f } = false from hf] at e
    cases e

theorem refuse_order {s : State} (h : s.inFlight = false) (i : Option (Fin 8)) (tag : Option Word32) (c : Cause) :
    OrderKept s { s with frame := s.frame.refuse i tag c } := frame_order h rfl rfl

theorem tellEnd_order (s : State) : OrderKept s { s with frame := tellEnd s.frame } := by
  unfold tellEnd
  split
  · exact .refl s
  · next h => exact frame_order (by simp [State.inFlight, h, FrameState.inFlight]) rfl rfl
  · exact .same

theorem endTold_order (s : State) (isEnd : Bool) : OrderKept s (endTold s isEnd) := .ite _ (fun _ => tellEnd_order s) fun _ => .refl s

theorem takeFailure_order {s : State} (h : s.inFlight = false) (withEnd : Bool) : OrderKept s (takeFailure s withEnd) :=
  (refuse_order h none none .format).trans (.ite _ (fun _ => tellEnd_order _) fun _ => .refl _)

theorem deliver_order (s : State) : OrderKept s (deliver s) := by
  rcases deliver_cases s with h | ⟨-, -, hd, h⟩
  · rw [h]; exact .refl s
  · rw [h]; exact frame_order (by simp [State.inFlight, hd, FrameState.inFlight]) rfl rfl

theorem headerFailed_order (s : State) (isEnd : Bool) : OrderKept s (headerFailed s isEnd) :=
  .ite _ (fun h => takeFailure_order ((free?_iff s).1 (Bool.and_eq_true_iff.1 h).1).1 isEnd) fun _ => .same

theorem framingError_order (s : State) (next : PortState) (isEnd : Bool) : OrderKept s (framingError s next isEnd) := by
  refine .after (m := portError s) ?_
  unfold framingError
  dsimp only
  split
  · exact (headerFailed_order _ _).after
  · exact .trans (.ite _ (fun _ => .refl _) fun _ => spoil_order _ _) (endTold_order _ _).after

theorem strayWord_order (s : State) : OrderKept s (strayWord s) := .ite _ (fun _ => .same) fun _ => .same

/-- A change of the port that leaves no buffer EXPOSING that was not (R110). -/
theorem port_order {s : State} {p : Port} (h : ∀ n, (p.buf n).state = .exposing → (s.port.buf n).state = .exposing) :
    OrderKept s { s with port := p } :=
  .of_parts (fun k => ⟨k.pending, k.line, k.seating, k.alone, k.waits⟩) (fun k n hn => k n (h n hn)) (.of_eq rfl rfl rfl) rfl rfl rfl

/-- A buffer replaced by one that is not EXPOSING, or that was before. -/
theorem setBuf_exposing {p : Port} {k n : Nat} {b : LineBuffer} (hb : b.state = .exposing → (p.buf k).state = .exposing)
    (h : ((p.setBuf k b).buf n).state = .exposing) : (p.buf n).state = .exposing := by
  rw [Port.buf_setBuf] at h
  split at h
  · next hparity =>
    have hsame : p.buf n = p.buf k := by unfold Port.buf; rw [hparity]
    rw [hsame]
    exact hb h
  · exact h

theorem fillBuffer_exposing {c : SetupConfig} {f : Format} {y n : Nat} {prev w : Word32} {b : LineBuffer}
    (h : (fillBuffer c f y n prev w b).state = .exposing) : b.state = .exposing := by
  have hopen : (if b.state = .empty then { LineBuffer.cleared with state := .filling, line := y } else b).state = .exposing →
      b.state = .exposing := by
    split
    · exact nofun
    · exact id
  unfold fillBuffer at h
  dsimp only at h
  split at h
  · exact hopen h
  · split at h <;> exact hopen h

theorem storeWord_order (s : State) (w : Word32) : OrderKept s { s with port := storeWord s w } := by
  refine port_order fun n h => ?_
  unfold storeWord at h
  dsimp only at h
  split at h
  · exact h
  · split at h
    · exact setBuf_exposing fillBuffer_exposing h
    · exact h

theorem lineReceived_order (s : State) : OrderKept s (lineReceived s) := by
  unfold lineReceived
  dsimp only
  split
  · let q : Port := { s.port with state := .betweenLines, received := s.port.received + 1, expected := s.port.expected + 1 }
    have hfull (k l : Nat) (px : List (Rgb Nat)) (n : Nat) (h : ((q.setBuf k ⟨.full, l, px⟩).buf n).state = .exposing) :
        (s.port.buf n).state = .exposing := setBuf_exposing (p := q) (b := ⟨.full, l, px⟩) nofun h
    exact .ite _ (fun _ => (port_order (hfull _ _ _)).trans .same) fun _ => .same
  · exact .same

theorem takeWord_order (s : State) (start : WordStart) {handle : State → State} (h : ∀ s, OrderKept s (handle s)) :
    OrderKept s (takeWord s start handle) :=
  .ite _ (fun _ => .refl s) fun _ => .ite _ (fun _ => framingError_order s _ _) fun _ => h s

theorem wordFrameStart_order (s : State) : OrderKept s (wordFrameStart s) := by
  unfold wordFrameStart
  split
  · exact .same
  · exact .same
  · exact framingError_order s _ _

theorem wordLineStart_order (n : Word32) (s : State) : OrderKept s (wordLineStart n s) := by
  unfold wordLineStart
  dsimp only
  split
  · exact strayWord_order s
  · exact .refl s
  · exact .ite _ (fun _ => .same) fun _ => framingError_order s _ _
  · exact framingError_order s _ _

theorem wordFrameEnd_order (s : State) : OrderKept s (wordFrameEnd s) := by
  unfold wordFrameEnd
  dsimp only
  split
  · exact strayWord_order s
  · exact (tellEnd_order s).trans .same
  · exact .ite _ (fun _ => (tellEnd_order s).trans .same) fun _ => framingError_order s _ _
  · exact framingError_order s _ _

theorem wordUndefined_order (s : State) : OrderKept s (wordUndefined s) := by
  unfold wordUndefined
  split
  · exact strayWord_order s
  · exact .refl s
  · exact framingError_order s _ _

theorem headerWord_buf (p : Port) (w : Word32) (n : Nat) : (headerWord p w).buf n = p.buf n := by
  unfold headerWord
  split <;> rfl

theorem wordData_order (w : Word32) (s : State) : OrderKept s (wordData w s) := by
  unfold wordData
  split
  · exact strayWord_order s
  · exact .refl s
  · exact (port_order fun n h => headerWord_buf _ _ n ▸ h).trans (deliver_order _)
  · exact framingError_order s _ _
  · exact (storeWord_order s w).trans (.ite _ (fun _ => lineReceived_order _) fun _ => .refl _)

/-! ## The header that is taken -/

/-- The channels' records change: each that was WARMING or READY stays so (R127). -/
theorem chans_order {s : State} {x : Rgb Channel} (h : ∀ c, (s.chan c).state.warm = true → (x.get c).state.warm = true) :
    OrderKept s { s with chans := x } where
  numbering := .congr rfl
  reads k := ⟨k.locked, fun n line l e => ⟨(k.reads n line l e).1, fun c hc => h c ((k.reads n line l e).2 c hc)⟩⟩
  awaits k := k
  steps k := ⟨k.pending, k.line, k.seating, k.alone, k.waits⟩
  buffers k := k
  groups := .of_eq rfl rfl rfl

@[simp] theorem dropCapture_state (x : Channel) : x.dropCapture.state = x.state := by
  unfold Channel.dropCapture
  split <;> rfl

/-- A BIASED channel is woken at the latch point, and the others stay in their states (R147). -/
theorem atLatch_warm {x : Channel} (h : x.state.warm = true) : x.atLatch.state.warm = true := by
  unfold Channel.atLatch
  dsimp only
  split
  · rfl
  · rw [dropCapture_state]; exact h

/-- A setup replaced: its lines step the film as before (R67). -/
theorem setSetup_order {s : State} {i : Fin 8} {x : Setup} (h : 1 ≤ (s.setup i).config.stepsPerLine → 1 ≤ x.config.stepsPerLine) :
    OrderKept s (s.setSetup i x) := by
  refine .of_parts (fun k => ⟨k.pending, k.line, k.seating, k.alone, k.waits⟩) (fun k => k)
    (fun k => ⟨fun j => ?_, k.groups.pending, k.groups.group⟩)
  rw [State.setSetup_setup]
  split
  · exact h (k.setups i)
  · exact k.setups j

theorem refuseIn_order {s : State} (h : s.inFlight = false) (i : Fin 8) (tag : Word32) (c : Cause) : OrderKept s (refuseIn s i tag c) :=
  (setSetup_order (by rw [charge_config]; exact id)).trans (refuse_order (s := s.setSetup i _) h _ _ _)

/-- The latch point (R84): a frame comes into flight with film loaded, no advance in progress and no STEP group (R81). -/
theorem latch_order {s : State} (hidle : s.inFlight = false) (hfree : s.groupBusy = false) (hadvance : s.transport.advance = none)
    (hroll : s.transport.roll.isSome = true) (i : Fin 8) (h : Header) : OrderKept s (latch s i h) := by
  have hchans : OrderKept s { s with chans := s.chans.map Channel.atLatch } :=
    chans_order fun c hc => by rw [Rgb.get_map]; exact atLatch_warm hc
  have htransport : (latch s i h).transport.advance = none ∧ (latch s i h).transport.roll.isSome = true ∧
      (latch s i h).transport.group = s.transport.group := by simp [latch, hadvance, hroll]
  obtain ⟨hadv, hloaded, hgroup⟩ := htransport
  have hpending : (latch s i h).frame.pendingGroup = s.frame.pendingGroup := by simp [latch]
  have hbusy : (latch s i h).groupBusy = false := by
    simp only [State.groupBusy, hpending, hgroup]
    exact hfree
  refine hchans.trans (.of_parts (fun k => ?_) (fun k => k.of_eq (by simp [latch]) (by simp [latch])) (.of_eq ?_ hpending hgroup)
    (by simp [latch]) (by simp [latch]) (by simp [State.numbers, latch]))
  · have hline : (latch s i h).line = none := by
      have hnone : s.line = none := k.line_none fun e => by
        have e : s.frame.state = .exposing := e
        simp [State.inFlight, e, FrameState.inFlight] at hidle
      simpa [latch] using hnone
    exact .of_free hbusy (fun e => by rw [hline] at e; cases e) (fun _ => ⟨hadv, hloaded⟩) fun a ha => by rw [hadv] at ha; cases ha
  · funext j
    simp [State.lineOrder, State.setup, latch]

theorem portRefuse_order (s : State) : OrderKept s { s with port := s.port.refuse } := .same

theorem takeHeader_order {s : State} (hidle : s.inFlight = false) (hfree : s.groupBusy = false) (h : Header) :
    OrderKept s (takeHeader s h) := by
  simp only [takeHeader]
  split
  · exact ((portRefuse_order s).trans (.same (t := portError { s with port := s.port.refuse }))).trans
      (refuse_order (s := portError { s with port := s.port.refuse }) hidle none none .format)
  · next i _ =>
    split
    · exact (portRefuse_order s).trans (refuseIn_order (s := { s with port := s.port.refuse }) hidle _ _ _)
    · next hc =>
      obtain ⟨⟨r, hr, -⟩, hadvance⟩ := headerCause_roll hc
      refine (latch_order (s := { s with port := s.port.accept h (s.setup i).config.format }) hidle hfree hadvance ?_ i h).after
      exact Option.isSome_iff_exists.2 ⟨r, hr⟩

/-! ## The transport -/

/-- A change of the transport that moves no group (R153): what it does to an advance and the roll is given. -/
theorem transport_order {s : State} {x : Transport} (group : x.group = s.transport.group)
    (alone : StepSound s → s.inFlight = true → x.advance = none ∧ x.roll.isSome = true)
    (waits : StepSound s → ∀ a, x.advance = some a → (a.pull = .waitingGroup ↔ s.groupBusy = true)) :
    OrderKept s { s with transport := x } := by
  have hbusy : State.groupBusy { s with transport := x } = s.groupBusy := by simp only [State.groupBusy, group]
  refine .of_parts (fun h => ⟨fun e => ?_, fun e => ⟨(h.line e).1, hbusy.trans (h.line e).2⟩, fun e => hbusy.trans (h.seating e),
    alone h, fun a ha => hbusy ▸ waits h a ha⟩) (fun h => h) (.of_eq rfl rfl group) rfl rfl rfl
  exact ⟨(h.pending e).1, group.trans (h.pending e).2.1, (h.pending e).2.2⟩

/-- The next pull of a roll advance, with no group and no frame in flight (R159). -/
theorem advancePull_sound {s : State} (hfree : s.groupBusy = false) (hidle : s.inFlight = false)
    (hexposing : s.line.isSome = true → s.frame.state = .exposing) : StepSound (advancePull s) := by
  have horder := advancePull_lineOrder s
  simp only [State.lineOrder, LineOrder.mk.injEq] at horder
  obtain ⟨-, -, hline, -, hframe, hpending, hgroup, hadvance, -, -, -⟩ := horder
  have hbusy : (advancePull s).groupBusy = s.groupBusy := by simp only [State.groupBusy, hpending, hgroup]
  refine .of_free (hbusy.trans hfree) (by rw [hline, hframe]; exact hexposing) (fun e => ?_) fun a ha => ?_
  · rw [State.inFlight, hframe] at e
    exact absurd (hidle.symm.trans e) (by decide)
  · obtain ⟨b, -, rfl⟩ := Option.map_eq_some_iff.1 (hadvance ▸ ha)
    rfl

theorem advancePull_fit {s : State} (h : GroupsFit s) : GroupsFit (advancePull s) := by
  have horder := advancePull_lineOrder s
  exact .of_eq (congrArg LineOrder.stepsPerLine horder :) (congrArg LineOrder.pending horder :) (congrArg LineOrder.group horder :) h

theorem advanceSeated_order (s : State) : OrderKept s (advanceSeated s) := by
  unfold advanceSeated
  split
  · next n limit ha =>
    refine .ite _ (fun _ => endAdvance_order s _) fun _ => .of_parts (fun h => ?_) (fun h => h.of_eq) advancePull_fit
    refine advancePull_sound ?_ ?_ fun e => (h.line e).1
    · exact Bool.eq_false_iff.2 fun e => by cases (h.waits _ ha).2 e
    · exact Bool.eq_false_iff.2 fun e => by rw [(h.alone e).1] at ha; cases ha
  · exact .refl s

/-- A roll advance starts: it waits for a group, or pulls at once (R159). -/
theorem startAdvance_order {s : State} (hidle : s.inFlight = false) (n : Nat) : OrderKept s (startAdvance s n) := by
  have hnone (h : s.inFlight = true) {p : Prop} : p := by rw [hidle] at h; cases h
  refine .ite _ (fun hbusy => ?_) fun hfree => ?_
  · refine transport_order rfl (fun _ e => hnone e) fun _ a ha => ?_
    cases ha
    exact ⟨fun _ => hbusy, fun _ => rfl⟩
  · have hfree : s.groupBusy = false := Bool.eq_false_iff.2 hfree
    let waiting : State := { s with transport := { s.transport with advance := some ⟨n, .waitingGroup, s.frame.startTimeout⟩ } }
    exact .of_parts (t := advancePull waiting) (fun h => advancePull_sound (s := waiting) hfree hidle fun e => (h.line e).1)
      (fun h => h.of_eq (by simp [waiting]) (by simp [waiting]))
      (fun h => advancePull_fit (s := waiting) ⟨h.setups, h.groups.pending, h.groups.group⟩) (by simp [waiting]) (by simp [waiting])
      (by simp [State.numbers, waiting])

/-- SAFE opens: a channel that is lit goes to DARK (R148). -/
theorem darkenIfLit_order (s : State) (c : Chan) : OrderKept s (darkenIfLit s c) := .ite _ (fun _ => darken_order s c) fun _ => .refl s

/-! ## The sets of corrections and the image memory -/

/-- The set of corrections changes and F does not (R51, R59). -/
theorem optics_order {s : State} {o : Optics} (facets : o.cur.facets = s.optics.cur.facets)
    (other : FacetsPositive s → ∀ c, o.other = some c → 1 ≤ c.facets) : OrderKept s { s with optics := o } where
  numbering h := ⟨⟨(show o.cur.facets = _ from facets) ▸ h.facets.current, other h.facets, h.facets.loading⟩, h.good,
    fun e => by
      obtain ⟨m, k, hm, hle, hk, hlt⟩ := h.locked e
      exact ⟨m, k, hm, facets ▸ hle, hk, facets ▸ hlt⟩⟩
  reads h := ⟨h.locked, h.reads⟩
  awaits h := h
  steps h := ⟨h.pending, h.line, h.seating, h.alone, h.waits⟩
  buffers h := h
  groups := .of_eq rfl rfl rfl

/-- The image record changes, and with it the load set (R176, R182). -/
theorem image_order {s : State} {m : Image} (loading : FacetsPositive s → ∀ l c, m.load = some l → l.set.optics = some c → 1 ≤ c.facets) :
    OrderKept s { s with image := m } where
  numbering h := ⟨⟨h.facets.current, h.facets.other, loading h.facets⟩, h.good, h.locked⟩
  reads h := ⟨h.locked, h.reads⟩
  awaits h := h
  steps h := ⟨h.pending, h.line, h.seating, h.alone, h.waits⟩
  buffers h := h
  groups := .of_eq rfl rfl rfl

/-- A load begins with an empty load set (R181). -/
theorem beginLoad_order (s : State) : OrderKept s (beginLoad s) := by
  unfold beginLoad
  split
  · exact image_order nofun
  · exact image_order fun _ l c hl hc => by cases hl; cases hc

/-- An optics record read from the image has a facet count in range (R182, Table 3-1). -/
theorem readOptics_facets (r : List Byte) : ∀ c, readOptics r = some c → 1 ≤ c.facets := by
  refine bind_result fun _ => bind_result fun _ => bind_result fun _ => bind_result fun _ => bind_result fun _ => bind_result fun _ =>
    bind_result fun _ => bind_result fun _ => bind_result fun _ => ?_
  intro c hc
  dsimp only at hc
  split at hc
  · next hok =>
    cases hc
    have hrange := hok.2.2.2.2.1
    simp only [facetsInRange, Bool.and_eq_true, decide_eq_true_eq] at hrange
    exact Nat.le_trans (by decide) hrange.1
  · cases hc

theorem placeOptics_order {s : State} {c : Option Corrections} (h : FacetsPositive s → ∀ x, c = some x → 1 ≤ x.facets) :
    OrderKept s (placeOptics s c) := by
  unfold placeOptics
  split
  · exact .refl s
  · next x =>
    refine .ite _ (fun _ => facetsChanged_order fun hf => ⟨h hf x rfl, nofun, hf.loading⟩) fun hsame => ?_
    have hsame : x.facets = s.optics.cur.facets := by simpa using hsame
    exact (optics_order (s := s) (o := ⟨.a, x, none, false, none⟩) hsame fun _ => nofun).trans .same

@[simp] theorem setReference_state (x : Channel) (v : Nat) : (x.setReference v).state = x.state := by
  unfold Channel.setReference
  dsimp only
  split <;> simp

/-- A reference placed changes no channel's state (R144, R182). -/
theorem placeChannels_order (s : State) (refs : Option (Rgb Nat)) : OrderKept s (placeChannels s refs) := by
  cases refs with
  | none => exact .refl s
  | some r =>
    have hchans : OrderKept s { s with chans := (placeChannels s (some r)).chans } := chans_order fun c hc => by
      rw [show (placeChannels s (some r)).chans.get c = _ from placeChannels_chan s r c, setReference_state]
      exact hc
    exact hchans.trans .same

/-- The load set is placed (R182): its optics record, if any, has a facet count in range. -/
theorem placeLoadSet_order {s : State} {set : LoadSet} (h : FacetsPositive s → ∀ x, set.optics = some x → 1 ≤ x.facets) :
    OrderKept s (placeLoadSet s set) := by
  have hfill : OrderKept s (s.fill set) := .same
  let p := placeChannels (placeOptics (s.fill set) set.optics) set.channels
  have hplaced : OrderKept s p := (hfill.trans (placeOptics_order fun hf => h hf.of_eq)).trans (placeChannels_order _ set.channels)
  have hdone : OrderKept p { p with image := { p.image with state := .idle, last := .loaded, failed := none, load := none } } :=
    image_order fun _ _ _ hl => by cases hl
  exact (hplaced.trans hdone).trans .same

theorem execImageRecordRead_order (s : State) : EndsIn (execImageRecordRead s) (OrderKept s) := by
  refine .next ?_
  split
  · exact .refl s
  · next l hl =>
    have hset (h : FacetsPositive s) (c : Corrections) (hc : l.set.optics = some c) : 1 ≤ c.facets := h.loading l c hl hc
    split
    · unfold readProfileRecord
      dsimp only
      split
      · exact image_order fun h m c hm hc => by cases hm; exact hset h c hc
      · split
        · exact image_order fun h m c hm hc => by cases hm; exact hset h c hc
        · exact image_order fun h m c hm hc => by cases hm; exact hset h c hc
    · exact image_order fun _ m c hm hc => by cases hm; exact readOptics_facets _ c hc
    · exact placeLoadSet_order hset

/-! ## The resets -/

theorem abandonImage_order (s : State) : OrderKept s (abandonImage s) :=
  .ite _ (fun _ => (image_order (s := s) (m := { s.image with
    state := .idle, last := .abandoned, failed := none, save := none, load := none }) nofun).trans .same) fun _ => .refl s

/-- The advance abandoned, the frame in flight spoiled and the window ended (R99, R128, R162). -/
theorem softSpoiled_order (s : State) : OrderKept s (softSpoiled s) := by
  have hgone : OrderKept s s.advanceGone := transport_order rfl (fun h e => ⟨rfl, (h.alone e).2⟩) fun _ => nofun
  exact (hgone.trans (spoil_order _ _)).trans (endWindow_order _)

/-- Each block takes its reset values (R99, R117, R132, R150, R162): no group is pending, for no window is left. -/
theorem softReset_order (s : State) : OrderKept s (softReset s) := by
  let a := abandonImage (softSpoiled s)
  refine ((softSpoiled_order s).trans (abandonImage_order _)).trans (s := s) (t := a) ?_
  have hwindow : a.engine.window = .none := by
    rw [show a = _ from abandonImage_eq _]
    exact congrArg Engine.window (softSpoiled_engine s)
  refine ⟨fun h => ⟨⟨?_, fun c hc => ?_, h.facets.loading⟩, nofun, nofun⟩, fun _ => .of_none rfl, fun _ => .of_none rfl, fun h => ?_,
    fun _ n hn => ?_, .of_eq rfl rfl rfl⟩
  · show 1 ≤ a.optics.discard.cur.facets
    unfold Optics.discard
    split <;> exact h.facets.current
  · have hc : a.optics.discard.other = some c := hc
    unfold Optics.discard at hc
    split at hc
    · cases hc
    · exact h.facets.other c hc
  · refine ⟨fun e => ?_, nofun, (by rintro (e | e) <;> cases e), nofun, h.waits⟩
    have hcarries := (h.pending e).1
    rw [hwindow] at hcarries
    cases hcarries
  · have hn : (a.port.flush.buf n).state = .exposing := hn
    rw [Port.flush_buf] at hn
    cases hn

/-- The state after reset keeps nothing of the state before it (R174). -/
theorem powerOn_order (pins : ResetPins) (s : State) : OrderKept s (powerOn pins s) where
  numbering _ := .congr (s := .reset) rfl reset_sound.numbering
  reads _ := .of_none rfl
  awaits _ := .of_none rfl
  steps _ := .congr (s := .reset) rfl reset_sound.steps
  buffers _ := .congr (s := .reset) rfl reset_sound.buffers
  groups _ := ⟨fun i => by rw [show (powerOn pins s).setup i = _ from reset_setup i]; decide, nofun, nofun⟩

end Sys2Proof.Machine
end

section
/-! Every command and every step keeps the order (O45). -/

namespace Sys2Proof.Machine

-- one theorem after another, as in the tests: a checker's memory limit leaves no room for many threads at once
set_option Elab.async false

open Sys2Proof

/-! ## Answers -/

/-- An answer given after a change; without a proof given, the change is outside the order. -/
theorem reply_order {s u : State} {req : Instr} {st : Status} {body : List Byte} (h : OrderKept s u := by exact .same) :
    EndsIn (reply req u st body) (OrderKept s) := .next (h.trans .same)

theorem withChan_order {s : State} {own : Chan → Answer} (req : Instr) (chan : Byte) (h : ∀ c, EndsIn (own c) (OrderKept s)) :
    EndsIn (withChan req s chan own) (OrderKept s) := by
  unfold withChan
  split
  · exact reply_order
  · exact h _

/-- A request on a profile: refused, or answered by its own rule (R7). -/
theorem withProfile_order {req : Instr} {s : State} {id : BitVec 16} {ok : Bool} {own : Profile → Answer}
    (h : ∀ p, EndsIn (own p) (OrderKept s)) : EndsIn (withProfile req s id ok own) (OrderKept s) :=
  withProfile_ends (fun _ => reply_order) fun p _ _ _ => h p

/-- A request on the optics set: refused, or answered by its own rule (R53). -/
theorem withOptics_order {req : Instr} {s : State} {ok : Bool} {own : Answer} (h : ok = true → EndsIn own (OrderKept s)) :
    EndsIn (withOptics req s ok own) (OrderKept s) := by
  by_cases hok : ok = true
  · exact withOptics_ends (fun _ => reply_order) (h hok)
  · rw [withOptics_range hok]
    exact reply_order

/-! ## The control link and the queries -/

theorem readOut_order (s : State) (read : ReadTransfer) : OrderKept s (readOut s read) := .ite _ (fun _ => .same) fun _ => .same

theorem execRequestTransaction_order (bytes : List Byte) (s : State) : EndsIn (execRequestTransaction bytes s) (OrderKept s) := by
  cases bytes with
  | nil => exact .next (.ite _ (fun _ => .same) fun _ => .refl s)
  | cons code rest => exact .next (.ite _ (fun _ => .same) fun _ => .ite _ (fun _ => readOut_order s _) fun _ => .same)

theorem execRequestAnswered_order (s : State) : EndsIn (execRequestAnswered s) (OrderKept s) := by
  refine .next ?_
  split
  · exact .same
  · exact .refl s

theorem execProfileQuery_order (id : BitVec 16) (s : State) : EndsIn (execProfileQuery id s) (OrderKept s) := by
  refine .ite _ (fun _ => reply_order) fun _ => ?_
  split <;> exact reply_order

theorem execProfileReadCurve_order (id : BitVec 16) (bank chan first count : Byte) (s : State) :
    EndsIn (execProfileReadCurve id bank chan first count s) (OrderKept s) := by
  simp only [execProfileReadCurve]
  split
  · refine .ite _ (fun _ => reply_order) fun _ => ?_
    split
    · exact reply_order
    · split <;> exact reply_order
  · exact reply_order

theorem execProfileEvaluate_order (id : BitVec 16) (bank chan : Byte) (code position : BitVec 16) (facet : Byte) (s : State) :
    EndsIn (execProfileEvaluate id bank chan code position facet s) (OrderKept s) := by
  simp only [execProfileEvaluate]
  split
  · refine .ite _ (fun _ => reply_order) fun _ => ?_
    split
    · exact reply_order
    · split <;> exact reply_order
  · exact reply_order

theorem execOpticsRead_order (bank part : Byte) (s : State) : EndsIn (execOpticsRead bank part s) (OrderKept s) := by
  simp only [execOpticsRead]
  split
  · exact reply_order
  · split
    · exact reply_order
    · split <;> exact reply_order
  · exact reply_order

theorem execSetupQuery_order (slot : Byte) (s : State) : EndsIn (execSetupQuery slot s) (OrderKept s) := by
  simp only [execSetupQuery]
  split <;> exact reply_order

/-! ## The profiles, the optics set and the setups -/

/-- The profile table is no part of the order: each profile request is refused, or changes the table alone. -/
theorem execProfilePutCurve_order (id : BitVec 16) (chan : Byte) (knots : List (BitVec 16 × BitVec 16)) (s : State) :
    EndsIn (execProfilePutCurve id chan knots s) (OrderKept s) := by
  simp only [execProfilePutCurve]
  split
  · exact reply_order
  · exact withProfile_order fun _ => .ite _ (fun _ => reply_order) fun _ => .ite _ (fun _ => reply_order) fun _ => reply_order

theorem execProfileCommit_order (id : BitVec 16) (s : State) : EndsIn (execProfileCommit id s) (OrderKept s) := by
  refine withProfile_order fun _ => ?_
  split
  · exact reply_order
  · exact .ite _ (fun _ => reply_order) fun _ => reply_order

theorem execOpticsStage_order (source : Byte) (s : State) : EndsIn (execOpticsStage source s) (OrderKept s) := by
  refine withOptics_order (fun _ => .ite _ (fun _ => reply_order) fun _ => .ite _ (fun _ => reply_order) fun _ => reply_order ?_)
  refine optics_order rfl fun h c hc => ?_
  cases hc
  show 1 ≤ (if copyOf source = some true then s.optics.cur else Corrections.default).facets
  split
  · exact h.current
  · decide

/-- The staged corrections change, with an F that stays positive. -/
theorem modStaged_order {s : State} {f : Corrections → Corrections} (hf : ∀ c, 1 ≤ c.facets → 1 ≤ (f c).facets) :
    OrderKept s { s with optics := s.optics.modStaged f } := by
  refine optics_order rfl fun h c hc => ?_
  obtain ⟨o, ho, rfl⟩ := Option.map_eq_some_iff.1 hc
  exact hf o (h.other o ho)

theorem execOpticsPutFacets_order (facets : List (Byte × Byte)) (s : State) : EndsIn (execOpticsPutFacets facets s) (OrderKept s) := by
  refine withOptics_order fun hok => .ite _ (fun _ => reply_order) fun _ => reply_order (modStaged_order fun _ _ => ?_)
  obtain ⟨hmin, -, -⟩ := (facets_iff facets).1 hok
  exact le_trans (by decide) hmin

theorem execOpticsPutShading_order (chan : Byte) (knots : Vector Byte 65) (s : State) :
    EndsIn (execOpticsPutShading chan knots s) (OrderKept s) := by
  simp only [execOpticsPutShading]
  split
  · exact reply_order
  · exact withOptics_order (fun _ => .ite _ (fun _ => reply_order) fun _ => reply_order (modStaged_order fun _ h => h))

theorem execOpticsDiscard_order (s : State) : EndsIn (execOpticsDiscard s) (OrderKept s) := by
  refine withOptics_order (fun _ => .ite _ (fun _ => reply_order) fun hstaging => reply_order ?_)
  have hdiscard : s.optics.discard = { s.optics with other := none, staging := false } := if_pos (by simpa using hstaging)
  rw [hdiscard]
  exact optics_order rfl fun _ => nofun

/-- A commit makes the staged set current (R58): the two sets held change places, and a change of F reaches the engine. -/
theorem execOpticsCommit_order (s : State) : EndsIn (execOpticsCommit s) (OrderKept s) := by
  refine withOptics_order fun _ => ?_
  split
  · exact reply_order
  · next staged hstaged =>
    have hother : s.optics.other = some staged := by
      unfold Optics.staged at hstaged
      split at hstaged
      · exact hstaged
      · cases hstaged
    have hcur (h : FacetsPositive s) (c : Corrections) (hc : some s.optics.cur = some c) : 1 ≤ c.facets := by cases hc; exact h.current
    refine .ite _ (fun _ => reply_order) fun _ => reply_order (.ite _ (fun _ => ?_) fun hsame => ?_)
    · exact facetsChanged_order fun h => ⟨h.other staged hother, hcur h, h.loading⟩
    · have hsame : staged.facets = s.optics.cur.facets := by simpa using hsame
      exact optics_order (o := s.optics.commit staged) hsame hcur

/-- Arming or disarming a setup, which keeps its configuration, and its profile's count of bound setups. -/
theorem setArmed_order (s : State) (i : Fin 8) (armed : Bool) (id : Nat) (f : Profile → Profile) :
    OrderKept s ((s.setSetup i { s.setup i with armed := armed }).modProfile id f) :=
  (setSetup_order (s := s) (i := i) (x := { s.setup i with armed := armed }) (fun h => h)).trans .same

theorem execSetupWrite_order (slot : Byte) (fields : SetupFields) (s : State) : EndsIn (execSetupWrite slot fields s) (OrderKept s) := by
  simp only [execSetupWrite]
  split
  · next i c _ hc =>
    exact .ite _ (fun _ => reply_order) fun _ => reply_order (setSetup_order fun _ => stepsPerLine_of_inRange (setupConfigOf_inRange c hc))
  · exact reply_order

theorem execSetupArm_order (slot : Byte) (s : State) : EndsIn (execSetupArm slot s) (OrderKept s) := by
  simp only [execSetupArm]
  split
  · exact reply_order
  · refine .ite _ (fun _ => reply_order) fun _ => ?_
    split
    · exact reply_order
    · exact .ite _ (fun _ => reply_order) fun _ => .ite _ (fun _ => reply_order) fun _ => reply_order (setArmed_order s _ _ _ _)

theorem execSetupDisarm_order (slot : Byte) (s : State) : EndsIn (execSetupDisarm slot s) (OrderKept s) := by
  simp only [execSetupDisarm]
  split
  · exact reply_order
  · exact .ite _ (fun _ => reply_order) fun _ => .ite _ (fun _ => reply_order) fun _ => reply_order (setArmed_order s _ _ _ _)

/-! ## The frame cycle, the port and the engine -/

theorem configured_order (s : State) (cfg : EngineConfig) (changes : Prop) [Decidable changes] :
    OrderKept s (tickIfDue (if changes then periodFiguresChanged { s with engine := { s.engine with config := cfg } }
      else { s with engine := { s.engine with config := cfg } })) :=
  .trans (.ite _ (fun _ => (periodFiguresChanged_order _).after) fun _ => .same) (tickIfDue_order _)

theorem execEngineConfigure_order (fields : EngineFields) (s : State) : EndsIn (execEngineConfigure fields s) (OrderKept s) := by
  unfold execEngineConfigure
  cases engineConfigOf fields with
  | none => exact reply_order
  | some cfg =>
    refine .ite _ (fun _ => reply_order) fun _ => ?_
    refine .ite _ (fun _ => reply_order) fun _ => ?_
    exact reply_order (configured_order s cfg _)

theorem execHeaderTaken_order (s : State) : EndsIn (execHeaderTaken s) (OrderKept s) := by
  refine .next ?_
  split
  · exact .refl s
  · refine .ite _ (fun h => ?_) fun _ => .refl s
    obtain ⟨hidle, hfree⟩ := (free?_iff s).1 (Bool.and_eq_true_iff.1 h).1
    exact takeHeader_order hidle hfree _

theorem execHeaderFailureTaken_order (s : State) : EndsIn (execHeaderFailureTaken s) (OrderKept s) := by
  refine .next ?_
  split
  · exact .refl s
  · next withEnd rest _ =>
    refine .ite _ (fun h => ?_) fun _ => .refl s
    have hidle : State.inFlight { s with frame := { s.frame with failures := rest } } = false := ((free?_iff s).1 h).1
    exact (takeFailure_order hidle withEnd).after.trans (deliver_order _)

theorem execLineComplete_order (s : State) : EndsIn (execLineComplete s) (OrderKept s) := by
  refine .next ?_
  split
  · exact .refl s
  · exact pass_order _ s

theorem execMonitorWindowOpen_order (s : State) : EndsIn (execMonitorWindowOpen s) (OrderKept s) := by
  refine .next ?_
  split
  · exact pass_order _ s
  · exact .refl s

/-- The last pulse of a group has been issued (R153): a group under way stands beside no pending one and no line. -/
theorem execStepGroupEnd_order (s : State) : EndsIn (execStepGroupEnd s) (OrderKept s) := by
  refine .next ?_
  split
  · exact .refl s
  · next g hg =>
    let m : State := { s with
      transport := { s.transport with group := none }, outputs := { s.outputs with steps := s.outputs.steps + g.pulses } }
    refine .of_parts (t := groupEnded m g.kind) (fun h => ?_) (fun h => h.of_eq (by simp [m]) (by simp [m]))
      (fun h => groupEnded_fit (s := m) ⟨h.setups, h.groups.pending, nofun⟩ _) (by simp [m]) (by simp [m]) (groupEnded_numbers m _)
    have hpending : s.frame.pendingGroup = none := by
      by_contra hne
      rw [(h.pending (Option.isSome_iff_ne_none.2 hne)).2.1] at hg
      cases hg
    exact groupEnded_sound (s := m) hpending rfl h.alone (fun e => (h.line e).1) _

/-! ## The channels -/

theorem execChannelOn_order (chan : Byte) (s : State) : EndsIn (execChannelOn chan s) (OrderKept s) := by
  refine withChan_order _ _ fun c => .ite _ (fun _ => reply_order) fun _ => .ite _ (fun _ => reply_order) fun _ => ?_
  split
  · exact reply_order (setChan_warm_order fun _ => rfl)
  · exact reply_order (setChan_warm_order fun _ => rfl)
  · exact reply_order

theorem execChannelBias_order (chan : Byte) (s : State) : EndsIn (execChannelBias chan s) (OrderKept s) := by
  refine withChan_order _ _ fun c => .ite _ (fun _ => reply_order) fun _ => ?_
  split
  · exact reply_order (enterBiased_order s c)
  · exact reply_order (enterBiased_order s c)
  · exact reply_order
  · exact reply_order

theorem execChannelOff_order (chan : Byte) (s : State) : EndsIn (execChannelOff chan s) (OrderKept s) := by
  refine withChan_order _ _ fun c => ?_
  split
  · exact reply_order
  · exact reply_order
  · exact reply_order (enterDark_order s c)

theorem execChannelConfigure_order (chan : Byte) (fields : ChannelFields) (delay : BitVec 16) (s : State) :
    EndsIn (execChannelConfigure chan fields delay s) (OrderKept s) := by
  refine withChan_order _ _ fun c => ?_
  split
  · exact reply_order
  · next cfg _ =>
    exact .ite _ (fun _ => reply_order) fun _ =>
      reply_order ((setChan_warm_order (s := s) (c := c) (x := (s.chan c).configure cfg) id).trans .same)

theorem execChannelSetReference_order (chan : Byte) (value : BitVec 16) (s : State) :
    EndsIn (execChannelSetReference chan value s) (OrderKept s) :=
  withChan_order _ _ fun _ => .ite _ (fun _ => reply_order) fun _ => .ite _ (fun _ => reply_order) fun _ =>
    reply_order (setChan_warm_order fun h => by rw [setReference_state]; exact h)

theorem execChannelCaptureReference_order (chan : Byte) (s : State) : EndsIn (execChannelCaptureReference chan s) (OrderKept s) :=
  withChan_order _ _ fun _ => .ite _ (fun _ => reply_order) fun _ => .ite _ (fun _ => reply_order) fun _ =>
    reply_order (setChan_warm_order id)

/-! ## The transport and the input lines -/

/-- A roll is loaded or unloaded with no frame in flight (R157, R158), and no advance begins or ends. -/
theorem execRollLoad_order (tag : Word32) (capacity lowMark : BitVec 16) (s : State) :
    EndsIn (execRollLoad tag capacity lowMark s) (OrderKept s) :=
  .ite _ (fun _ => reply_order) fun _ => .ite _ (fun _ => reply_order) fun _ =>
    reply_order (transport_order rfl (fun h e => ⟨(h.alone e).1, rfl⟩) fun h => h.waits)

theorem execRollUnload_order (s : State) : EndsIn (execRollUnload s) (OrderKept s) := by
  simp only [execRollUnload]
  split
  · exact reply_order
  · refine .ite _ (fun _ => reply_order) fun hidle => reply_order (transport_order rfl (fun _ e => ?_) fun h => h.waits)
    rw [e] at hidle
    exact absurd rfl hidle

theorem execRollAdvance_order (frames : BitVec 16) (s : State) : EndsIn (execRollAdvance frames s) (OrderKept s) := by
  refine .ite _ (fun _ => reply_order) fun _ => ?_
  split
  · exact reply_order
  · refine .ite _ (fun _ => reply_order) fun _ => .ite _ (fun _ => reply_order) fun hbusy => .ite _ (fun _ => reply_order) fun _ => ?_
    have hidle : s.inFlight = false := Bool.eq_false_iff.2 fun e => hbusy (by rw [e]; rfl)
    exact reply_order (startAdvance_order hidle _)

/-- A SEATING frame goes on to READYING, and to EXPOSING where the rest is ready (R86, R87). -/
theorem execSeatedRise_order (s : State) : EndsIn (execSeatedRise s) (OrderKept s) := by
  refine .next (.ite _ (fun hstate => ?_) fun _ => (advanceSeated_order _).after)
  have hstate : s.frame.state = .seating := hstate
  have hflight : s.inFlight = true := by simp [State.inFlight, hstate, FrameState.inFlight]
  let m : State := { s with
    transport := { s.transport with seated := true }, frame := { s.frame with state := .readying } }
  refine .trans (t := m) (.of_parts (fun h => ?_) (fun h => h) (.of_eq rfl rfl rfl) rfl rfl rfl) (testReady_order m)
  have hnone : s.line = none := h.line_none (by rw [hstate]; decide)
  exact ⟨h.pending, fun e => absurd hnone (Option.isSome_iff_ne_none.1 e), fun _ => h.seating (.inl hstate), fun _ => h.alone hflight,
    h.waits⟩

theorem execSeatedFall_order (s : State) : EndsIn (execSeatedFall s) (OrderKept s) :=
  .next (.ite _ (fun _ => (spoil_order _ _).after) fun _ => .same)

theorem execXportFaultAsserted_order (s : State) : EndsIn (execXportFaultAsserted s) (OrderKept s) :=
  .next (.trans (.ite _ (fun _ => (endAdvance_order _ _).after) fun _ => .same) (spoil_order _ _))

theorem execSafeOpen_order (s : State) : EndsIn (execSafeOpen s) (OrderKept s) := by
  let opened := State.raise { s with transport := { s.transport with safeOpen := true } } .interlockOpen
  have hspoil : OrderKept s (spoil opened .interlock) := (spoil_order opened .interlock).after
  have hdark := ((hspoil.trans (darkenIfLit_order _ .red)).trans (darkenIfLit_order _ .grn)).trans (darkenIfLit_order _ .blu)
  exact .next (hdark.trans .same)

/-! ## The image memory -/

theorem issueOps_order (s : State) (v : Save) (ops : List FlashOp) : OrderKept s (issueOps s v ops) := by
  cases ops with
  | nil => exact .refl s
  | cons op later => exact .same

theorem issueRecord_order (s : State) (v : Save) (address : Nat) (bytes : List Byte) : OrderKept s (issueRecord s v address bytes) :=
  issueOps_order s v (programsOf address bytes)

theorem formHeader_order (s : State) (v : Save) : OrderKept s (formHeader s v) := by
  unfold formHeader
  exact issueRecord_order s _ _ _

theorem formChannels_order (s : State) (v : Save) : OrderKept s (formChannels s v) := by
  unfold formChannels
  exact issueRecord_order s _ _ _

theorem formOptics_order (s : State) (v : Save) : OrderKept s (formOptics s v) := by
  unfold formOptics
  exact issueRecord_order s _ _ _

theorem formProfile_order (s : State) (v : Save) : OrderKept s (formProfile s v) := by
  unfold formProfile
  split
  · exact formOptics_order s v
  · exact issueRecord_order s _ _ _

/-- A save changes the flash and its own part of the image record, none of which is the load set (R179). -/
theorem saveNext_order (s : State) (v : Save) : OrderKept s (saveNext s v) := by
  unfold saveNext
  split
  · exact formProfile_order s v
  · exact (formProfile_order (recordWritten s) v).after
  · exact (formChannels_order (recordWritten s) v).after
  · exact (formHeader_order (recordWritten s) v).after
  · exact .same

theorem execFlashOperationDone_order (s : State) : EndsIn (execFlashOperationDone s) (OrderKept s) := by
  refine .next ?_
  split
  · exact .refl s
  · dsimp only
    split
    · exact (saveNext_order _ _).after
    · exact (issueOps_order _ _ _).after

theorem execImageLoad_order (s : State) : EndsIn (execImageLoad s) (OrderKept s) := by
  refine .ite _ (fun _ => reply_order) fun _ => .ite _ (fun _ => reply_order) fun _ => ?_
  split
  · exact reply_order (beginLoad_order s)
  · exact reply_order (beginLoad_order s)

/-! ## Every command and every step -/

theorem exec_order (c : Instr) (s : State) : EndsIn (exec c s) (OrderKept s) := by
  cases c with
  | powerOnReset pins => exact .next (.ite _ (fun _ => (powerOn_order pins s).trans (beginLoad_order _)) fun _ => powerOn_order pins s)
  | softReset => exact reply_order (softReset_order s)
  | requestTransaction bytes => exact execRequestTransaction_order bytes s
  | readTransaction read => exact .next (readOut_order s read)
  | requestAnswered => exact execRequestAnswered_order s
  | identify => exact reply_order
  | eventsRead => exact reply_order
  | eventsClear mask => exact .ite _ (fun _ => reply_order) fun _ => reply_order
  | eventsEnable mask => exact .ite _ (fun _ => reply_order) fun _ => reply_order
  | profileCreate id label =>
    exact .ite _ (fun _ => reply_order) fun _ => .ite _ (fun _ => reply_order) fun _ => .ite _ (fun _ => reply_order) fun _ =>
      .ite _ (fun _ => reply_order) fun _ => reply_order
  | profileStage id source =>
    exact withProfile_order fun _ => .ite _ (fun _ => reply_order) fun _ => .ite _ (fun _ => reply_order) fun _ =>
      .ite _ (fun _ => reply_order) fun _ => reply_order
  | profilePutCurve id chan knots => exact execProfilePutCurve_order id chan knots s
  | profilePutTerms id trims darks life label => exact withProfile_order fun _ => .ite _ (fun _ => reply_order) fun _ => reply_order
  | profileCommit id => exact execProfileCommit_order id s
  | profileDiscard id => exact withProfile_order fun _ => .ite _ (fun _ => reply_order) fun _ => reply_order
  | profileRetire id =>
    exact withProfile_order fun _ => .ite _ (fun _ => reply_order) fun _ => .ite _ (fun _ => reply_order) fun _ => reply_order
  | profileList => exact reply_order
  | profileQuery id => exact execProfileQuery_order id s
  | profileReadCurve id bank chan first count => exact execProfileReadCurve_order id bank chan first count s
  | profileEvaluate id bank chan code position facet => exact execProfileEvaluate_order id bank chan code position facet s
  | opticsStage source => exact execOpticsStage_order source s
  | opticsPutFacets facets => exact execOpticsPutFacets_order facets s
  | opticsPutShading chan knots => exact execOpticsPutShading_order chan knots s
  | opticsCommit => exact execOpticsCommit_order s
  | opticsDiscard => exact execOpticsDiscard_order s
  | opticsRead bank part => exact execOpticsRead_order bank part s
  | setupWrite slot fields => exact execSetupWrite_order slot fields s
  | setupArm slot => exact execSetupArm_order slot s
  | setupDisarm slot => exact execSetupDisarm_order slot s
  | setupQuery slot => exact execSetupQuery_order slot s
  | frameCancel => exact .ite _ (fun _ => reply_order (spoil_order s _)) fun _ => reply_order
  | frameStatus => exact reply_order
  | frameConfigure v => exact .ite _ (fun _ => reply_order) fun _ => .ite _ (fun _ => reply_order) fun _ => reply_order
  | portConfigure lanes v => exact .ite _ (fun _ => reply_order) fun _ => .ite _ (fun _ => reply_order) fun _ => reply_order
  | portStatus => exact reply_order
  | engineConfigure fields => exact execEngineConfigure_order fields s
  | engineQuery => exact reply_order
  | channelOn chan => exact execChannelOn_order chan s
  | channelBias chan => exact execChannelBias_order chan s
  | channelOff chan => exact execChannelOff_order chan s
  | channelClear chan =>
    exact withChan_order _ _ fun c => .ite _ (fun _ => reply_order (enterDark_order s c)) fun _ => reply_order
  | channelConfigure chan fields delay => exact execChannelConfigure_order chan fields delay s
  | channelSetReference chan value => exact execChannelSetReference_order chan value s
  | channelCaptureReference chan => exact execChannelCaptureReference_order chan s
  | channelQuery chan => exact withChan_order _ _ fun _ => reply_order
  | rollLoad tag capacity lowMark => exact execRollLoad_order tag capacity lowMark s
  | rollUnload => exact execRollUnload_order s
  | rollAdvance frames => exact execRollAdvance_order frames s
  | rollQuery => exact reply_order
  | imageSave => exact .ite _ (fun _ => reply_order) fun _ => reply_order
  | imageLoad => exact execImageLoad_order s
  | imageStatus => exact reply_order
  | frameStart start => exact .next (takeWord_order s start wordFrameStart_order)
  | lineStart start number => exact .next (takeWord_order s start (wordLineStart_order number))
  | dataWord start payload => exact .next (takeWord_order s start (wordData_order payload))
  | frameEnd start => exact .next (takeWord_order s start wordFrameEnd_order)
  | undefinedTagWord start tagLow => exact .next (takeWord_order s start wordUndefined_order)
  | headerTaken => exact execHeaderTaken_order s
  | headerFailureTaken => exact execHeaderFailureTaken_order s
  | seatedRise => exact execSeatedRise_order s
  | seatedFall => exact execSeatedFall_order s
  | xportFaultAsserted => exact execXportFaultAsserted_order s
  | xportFaultDeasserted => exact .next .same
  | safeOpen => exact execSafeOpen_order s
  | safeClose => exact .next .same
  | facet periods => exact .next ((pass_order periods s).trans (takeFacet_order _))
  | index => exact index_order s
  | lineComplete => exact execLineComplete_order s
  | monitorWindowOpen => exact execMonitorWindowOpen_order s
  | monitorReading chan reading => exact execMonitorReading_order chan reading s
  | stepGroupEnd => exact execStepGroupEnd_order s
  | millisecondTick => exact .next (pass_order _ s)
  | startTimeout => exact .next (startTimeoutPassed_order s)
  | lineWaitLimitPassed => exact .next (lineWaitPassed_order s)
  | stall => exact .next (stallEngine_order s)
  | warmTimeout chan => exact .next (warmTimeoutPassed_order s chan)
  | autoBias => exact .next (.ite _ (fun _ => autoBias_order s) fun _ => .refl s)
  | advancePullTimeout => exact .next (pullTimeoutPassed_order s)
  | flashOperationDone => exact execFlashOperationDone_order s
  | imageOperationTimeout => exact .next (failSave_order s)
  | imageRecordRead => exact execImageRecordRead_order s

/-- Every step keeps the order: it is a command, or a REFCLK period. -/
theorem step_order (s : State) : EndsIn (step s) (OrderKept s) := by
  unfold step
  split
  · next c rest _ => exact (exec_order c { s with pending := rest }).imp fun _ h => h.after
  · split
    · exact exec_order _ s
    · exact .next (pass_order 1 s)

/-- Settles O45: each of the five is a part of `OrderKept`, which the one lemma over all steps gives; the window's is two of its parts. -/
theorem engineAndLinesStayInOrder : Obligations.EngineAndLinesStayInOrder := by
  refine ⟨fun s t h e => (step_order s t e).numbering h, fun s t h e => ?_, fun s t h e => (step_order s t e).steps h,
    fun s t h e => (step_order s t e).buffers h, fun s t hs h e => ((step_order s t e).groups ⟨hs.stepsPerLine, h⟩).groups⟩
  obtain ⟨hreads, hawaits⟩ := (windowSound_iff s).1 h
  exact (windowSound_iff t).2 ⟨(step_order s t e).reads hreads, (step_order s t e).awaits hawaits⟩

end Sys2Proof.Machine
end

section
/-! The print setups: what SETUP_WRITE takes and writes (O24), and the checks and effects of SETUP_ARM and SETUP_DISARM (O25). -/

namespace Sys2Proof.Machine

-- one theorem after another, as in the tests: a checker's memory limit leaves no room for many threads at once
set_option Elab.async false

open Sys2Proof

theorem slotOf_some {slot : Byte} {i : Fin 8} (h : slot.toNat = i) : slotOf slot = some i := by
  have hlt : slot.toNat < 8 := h ▸ i.isLt
  exact (dif_pos hlt).trans (congrArg some (Fin.ext h))

/-! ## The fields of SETUP_WRITE -/

theorem not_lt_two {n : Nat} (h0 : n ≠ 0) (h1 : n ≠ 1) : ¬n < 2 := by omega

theorem formatOf_eq (b : Byte) : formatOf b = if b.toNat < 2 then some (if b = 0 then .l10 else .l12) else none := by
  simp only [← BitVec.toNat_inj]
  unfold formatOf
  split
  · next h => simp [h]
  · next h => simp [h]
  · next h0 h1 => exact (if_neg (not_lt_two h0 h1)).symm

theorem mirrorOf_eq (b : Byte) : mirrorOf b = if b.toNat < 2 then some (decide (b = 1)) else none := by
  simp only [← BitVec.toNat_inj]
  unfold mirrorOf
  split
  · next h => simp [h]
  · next h => simp [h]
  · next h0 h1 => exact (if_neg (not_lt_two h0 h1)).symm

theorem stalePolicyOf_eq (b : Byte) : stalePolicyOf b = if b.toNat < 2 then some (if b = 0 then .expose else .refuse) else none := by
  simp only [← BitVec.toNat_inj]
  unfold stalePolicyOf
  split
  · next h => simp [h]
  · next h => simp [h]
  · next h0 h1 => exact (if_neg (not_lt_two h0 h1)).symm

/-- Every field is in its range of Table 4-1 and the relations of R67 hold. -/
def setupFieldsInRange (f : SetupFields) : Prop :=
  1 ≤ f.profileId.toNat ∧ f.profileId.toNat ≤ 65534 ∧ f.format.toNat < 2 ∧ 1 ≤ f.srcWidth.toNat ∧ f.srcWidth.toNat ≤ 8192 ∧
  1 ≤ f.srcHeight.toNat ∧ f.srcHeight.toNat ≤ 8192 ∧ f.x0.toNat ≤ f.x1.toNat ∧ f.x1.toNat < f.srcWidth.toNat ∧
  f.y0.toNat ≤ f.y1.toNat ∧ f.y1.toNat < f.srcHeight.toNat ∧ f.mirror.toNat < 2 ∧ f.prescale.toNat ∈ [1, 2, 4, 8] ∧
  1 ≤ f.scaler.toNat ∧ f.scaler.toNat ≤ 32 ∧ f.leftMargin.toNat ≤ 8191 ∧ f.topMargin.toNat ≤ 1023 ∧
  1 ≤ f.stepsPerLine.toNat ∧ f.stepsPerLine.toNat ≤ 16 ∧ 1 ≤ f.stride.toNat ∧ f.stride.toNat ≤ 4 ∧ f.stalePolicy.toNat < 2 ∧
  f.leftMargin.toNat + (f.x1.toNat - f.x0.toNat + 1) ≤ 8192

/-- The configuration that fields in range stand for. -/
def setupOfFields (f : SetupFields) : SetupConfig :=
  ⟨f.profileId.toNat, if f.format = 0 then .l10 else .l12, f.srcWidth.toNat, f.srcHeight.toNat, f.x0.toNat, f.x1.toNat,
    f.y0.toNat, f.y1.toNat, f.mirror = 1, f.prescale.toNat, f.scaler.toNat, f.leftMargin.toNat, f.topMargin.toNat,
    f.stepsPerLine.toNat, f.stride.toNat, if f.stalePolicy = 0 then .expose else .refuse⟩

/-- The three codes give a configuration's parts exactly where they are below 2; the rest of the check is on numbers. -/
theorem setupConfigOf_eq_some {f : SetupFields} {c : SetupConfig} : setupConfigOf f = some c ↔ setupFieldsInRange f ∧ setupOfFields f = c := by
  unfold setupConfigOf setupFieldsInRange
  rw [formatOf_eq, mirrorOf_eq, stalePolicyOf_eq]
  by_cases hformat : f.format.toNat < 2
  · by_cases hmirror : f.mirror.toNat < 2
    · by_cases hpolicy : f.stalePolicy.toNat < 2
      · simp [hformat, hmirror, hpolicy, idInRange, setupOfFields, and_assoc]
      · simp [hformat, hmirror, hpolicy]
    · simp [hformat, hmirror]
  · simp [hformat]

theorem setupConfigOf_isSome (f : SetupFields) : setupConfigOf f ≠ none ↔ setupFieldsInRange f := by
  simp [Option.ne_none_iff_exists', setupConfigOf_eq_some]

/-! ## SETUP_WRITE -/

theorem setupWrite_range {slot : Byte} {f : SetupFields} (s : State) (h : 8 ≤ slot.toNat ∨ setupConfigOf f = none) :
    exec (.setupWrite slot f) s = .next (s.answer (.setupWrite slot f) .range) := by
  show execSetupWrite slot f s = _
  unfold execSetupWrite
  obtain hslot | hfields := h
  · simp [slotOf_none hslot, reply]
  · simp [hfields, reply]

theorem execSetupWrite_eq {slot : Byte} {i : Fin 8} {f : SetupFields} {c : SetupConfig} (s : State) (hslot : slot.toNat = i)
    (hc : setupConfigOf f = some c) : exec (.setupWrite slot f) s =
      if (s.setup i).armed then .next (s.answer (.setupWrite slot f) .state)
      else .next (State.answer (s.setSetup i ⟨false, c, 0, 0, 0, none⟩) (.setupWrite slot f) .ok) := by
  show execSetupWrite slot f s = _
  simp only [execSetupWrite, slotOf_some hslot, hc, reply]
  rfl

/-- Settles O24: the range of the fields is `setupConfigOf_eq_some`, the request is refused or writes what that gives. -/
theorem setupWriteIsChecked : Obligations.SetupWriteIsChecked := by
  refine ⟨setupConfigOf_isSome, fun f c h => (setupConfigOf_eq_some.1 h).2.symm, fun s slot f => ⟨setupWrite_range s, ?_⟩⟩
  intro i c hslot hc
  rw [execSetupWrite_eq s hslot hc]
  exact ⟨fun harmed => if_pos harmed, fun hdraft => if_neg (by simp [hdraft])⟩

/-! ## SETUP_ARM and SETUP_DISARM -/

theorem fitsScan_iff (c : SetupConfig) (lead span : Nat) :
    fitsScan c lead span = true ↔ (c.leftMargin + (c.x1 - c.x0 + 1)) * (c.prescale * c.scaler) + lead + 128 ≤ span := decide_eq_true_iff

/-- The setup armed or disarmed, and its profile's count of bound setups changed with it (R69, R70). -/
def State.rebind (s : State) (i : Fin 8) (armed : Bool) (id : Nat) (count : Nat → Nat) : State :=
  (s.setSetup i { s.setup i with armed := armed }).modProfile id fun q => { q with bound := count q.bound }

/-- What `State.rebind` changes: the setup's state, the count of the profile, and nothing else. -/
theorem State.rebind_changes {s : State} {i : Fin 8} {id : Nat} {p : Profile} (armed : Bool) (count : Nat → Nat)
    (hp : s.profile id = some p) :
    let t := s.rebind i armed p.id count
    t = { s with profiles := t.profiles, setups := t.setups } ∧ t.setup i = { s.setup i with armed := armed } ∧
    (∀ j, j ≠ i → t.setup j = s.setup j) ∧ t.profile p.id = some { p with bound := count p.bound } ∧
    ∀ j, j ≠ p.id → t.profile j = s.profile j := by
  have hid : p.id = id := (State.profile_some hp).2
  have hprofile (j : Nat) : (s.rebind i armed p.id count).profile j =
      if j = p.id then (s.profile j).map fun q => { q with bound := count q.bound } else s.profile j :=
    State.profile_modProfile _ _ _ fun _ => rfl
  refine ⟨rfl, State.setSetup_setup_self s i _, fun j hj => (State.setSetup_setup s i j _).trans (if_neg hj), ?_, fun j hj => ?_⟩
  · rw [hprofile, if_pos rfl, hid, hp, ← hid]
    rfl
  · rw [hprofile, if_neg hj]

theorem settled_state {x : ProfileState} (h : x = .active ∨ x = .stale) : x ≠ .draft ∧ x ≠ .retiring := by
  obtain rfl | rfl := h <;> decide

section Requests

variable {s : State} {slot : Byte} {i : Fin 8}

theorem setupArm_range (h : 8 ≤ slot.toNat) : exec (.setupArm slot) s = .next (s.answer (.setupArm slot) .range) := by
  show execSetupArm slot s = _
  simp [execSetupArm, slotOf_none h, reply]

theorem setupDisarm_range (h : 8 ≤ slot.toNat) : exec (.setupDisarm slot) s = .next (s.answer (.setupDisarm slot) .range) := by
  show execSetupDisarm slot s = _
  simp [execSetupDisarm, slotOf_none h, reply]

theorem setupArm_state (hslot : slot.toNat = i) (h : (s.setup i).armed = true) :
    exec (.setupArm slot) s = .next (s.answer (.setupArm slot) .state) := by
  show execSetupArm slot s = _
  simp [execSetupArm, slotOf_some hslot, h, reply]

theorem setupArm_notFound (hslot : slot.toNat = i) (h : (s.setup i).armed = false)
    (hp : s.liveProfile (s.setup i).config.profileId = none) :
    exec (.setupArm slot) s = .next (s.answer (.setupArm slot) .notFound) := by
  show execSetupArm slot s = _
  simp [execSetupArm, slotOf_some hslot, h, hp, reply]

/-- Past the profile's lookup: DRAFT, the fit, and the setup bound to the profile (checks 3 and 4 of R69). -/
theorem execSetupArm_live {p : Profile} (hslot : slot.toNat = i) (h : (s.setup i).armed = false)
    (hp : s.liveProfile (s.setup i).config.profileId = some p) :
    exec (.setupArm slot) s =
      if p.state = .draft then .next (s.answer (.setupArm slot) .notReady)
      else if !fitsScan (s.setup i).config s.engine.config.scanLead s.engine.config.scanSpan then .next (s.answer (.setupArm slot) .window)
      else .next ((s.rebind i true p.id (· + 1)).answer (.setupArm slot) .ok) := by
  show execSetupArm slot s = _
  simp only [execSetupArm, slotOf_some hslot, h, hp]
  rfl

theorem execSetupDisarm_eq (hslot : slot.toNat = i) :
    exec (.setupDisarm slot) s =
      if !(s.setup i).armed then .next (s.answer (.setupDisarm slot) .state)
      else if s.flightIn i then .next (s.answer (.setupDisarm slot) .busy)
      else .next ((s.rebind i false (s.setup i).config.profileId (· - 1)).answer (.setupDisarm slot) .ok) := by
  show execSetupDisarm slot s = _
  simp only [execSetupDisarm, slotOf_some hslot]
  rfl

end Requests

theorem State.flightIn_iff (s : State) (i : Fin 8) : s.flightIn i = true ↔ s.inFlight = true ∧ s.frame.slot = some i := by
  simp [State.flightIn]

/-- Settles O25: the checks are the branches of the two requests in order, the changes those of `State.rebind`. -/
theorem setupArmAndDisarm : Obligations.SetupArmAndDisarm := by
  refine fun s slot => ⟨fun h => ⟨setupArm_range h, setupDisarm_range h⟩,
    fun i hslot => ⟨setupArm_state hslot, fun hoff => ?_, ?_, ?_, ?_⟩⟩
  · refine ⟨fun hnone => setupArm_notFound hslot hoff (State.liveProfile_eq_none.2 hnone), fun p hp => ⟨fun hdraft => ?_, fun hstate => ?_⟩⟩
    · have hlive := State.liveProfile_eq_some.2 ⟨hp, by rw [hdraft]; decide⟩
      rw [execSetupArm_live hslot hoff hlive, if_pos hdraft]
    · obtain ⟨hdraft, hretiring⟩ := settled_state hstate
      have hlive := State.liveProfile_eq_some.2 ⟨hp, hretiring⟩
      rw [execSetupArm_live hslot hoff hlive, if_neg hdraft]
      refine ⟨fun hfits => if_pos (by simpa using mt (fitsScan_iff _ _ _).1 hfits), fun hfits => ?_⟩
      exact ⟨_, if_neg (by simpa using (fitsScan_iff _ _ _).2 hfits), State.rebind_changes true (· + 1) hp⟩
  · exact fun hoff => (execSetupDisarm_eq hslot).trans (if_pos (by simp [hoff]))
  · intro harmed hflight hframe
    rw [execSetupDisarm_eq hslot, if_neg (by simp [harmed]), if_pos ((State.flightIn_iff s i).2 ⟨hflight, hframe⟩)]
  · intro harmed hfree p hp
    rw [execSetupDisarm_eq hslot, if_neg (by simp [harmed]), if_neg (mt (State.flightIn_iff s i).1 hfree), ← (State.profile_some hp).2]
    exact ⟨_, rfl, State.rebind_changes false (· - 1) hp⟩

end Sys2Proof.Machine
end

section
/-! A whole window line through the port (O35): which columns its words complete, the buffer after each word, and the run of the line. -/

namespace Sys2Proof.Machine

-- one theorem after another, as in the tests: a checker's memory limit leaves no room for many threads at once
set_option Elab.async false

open Sys2Proof

/-! ## The columns that the words of a line complete -/

/-- The window columns whose last bits stand in the first `n` words of a line, ascending (R101, R102). -/
def windowColumns (c : SetupConfig) (f : Format) (n : Nat) : List Nat := ((List.range n).filterMap (wordCompletes f)).filter c.holdsColumn

theorem windowColumns_succ (c : SetupConfig) (f : Format) (n : Nat) :
    windowColumns c f (n + 1) = windowColumns c f n ++ (wordCompletes f n).toList.filter c.holdsColumn := by
  simp only [windowColumns, List.range_succ, List.filterMap_append, List.filter_append]
  cases hn : wordCompletes f n <;> simp [hn]

/-- The nine words of an L12 group complete its eight columns, the first of them none. -/
theorem wordCompletes_group (g : Nat) :
    (List.map (9 * g + ·) (List.range 9)).filterMap (wordCompletes .l12) = List.map (8 * g + ·) (List.range 8) := by
  have hfirst : wordCompletes .l12 (9 * g + 0) = none := if_pos (by omega)
  have hlater (j : Nat) (hj : j ∈ List.range 8) : wordCompletes .l12 (9 * g + (j + 1)) = some (8 * g + j) := by
    have hj : j < 8 := List.mem_range.1 hj
    have hmod : (9 * g + (j + 1)) % 9 = j + 1 := by omega
    have hdiv : (9 * g + (j + 1)) / 9 = g := by omega
    simp [wordCompletes, hmod, hdiv]
  rw [List.range_succ_eq_map, List.map_cons, List.filterMap_cons_none hfirst, List.map_map, List.filterMap_map]
  exact (List.filterMap_congr hlater).trans (congrFun List.filterMap_eq_map _)

theorem wordCompletes_groups (g : Nat) : (List.range (9 * g)).filterMap (wordCompletes .l12) = List.range (8 * g) := by
  induction g with
  | zero => rfl
  | succ g ih =>
    rw [Nat.mul_succ, Nat.mul_succ, List.range_add, List.range_add, List.filterMap_append, ih, wordCompletes_group]

/-- The words of a whole line complete as many columns as the source width, or the next multiple of 8. -/
theorem wordCompletes_line (f : Format) (width : Nat) :
    ∃ n, width ≤ n ∧ (List.range (lineWords f width)).filterMap (wordCompletes f) = List.range n := by
  cases f with
  | l10 => exact ⟨width, le_rfl, List.filterMap_some⟩
  | l12 => exact ⟨8 * ((width + 7) / 8), by omega, wordCompletes_groups _⟩

theorem lineWords_pos (f : Format) {width : Nat} (h : 0 < width) : 0 < lineWords f width := by
  cases f with
  | l10 => exact h
  | l12 => exact Nat.mul_pos (by decide) (by omega)

theorem filter_range_interval {a b n : Nat} (hab : a ≤ b) (hbn : b < n) :
    (List.range n).filter (fun x => a ≤ x && x ≤ b) = List.range' a (b - a + 1) := by
  obtain ⟨m, rfl⟩ : ∃ m, n = a + ((b - a + 1) + m) := ⟨n - (b + 1), by omega⟩
  rw [List.range_eq_range', ← List.range'_append_1, ← List.range'_append_1, List.filter_append, List.filter_append]
  have hbefore : (List.range' 0 a).filter (fun x => a ≤ x && x ≤ b) = [] := by
    simp only [List.filter_eq_nil_iff, List.mem_range'_1]
    intro x hx
    simp; omega
  have hwindow : (List.range' (0 + a) (b - a + 1)).filter (fun x => a ≤ x && x ≤ b) = List.range' a (b - a + 1) := by
    rw [Nat.zero_add]
    simp only [List.filter_eq_self, List.mem_range'_1]
    intro x hx
    simp; omega
  have hafter : (List.range' (0 + a + (b - a + 1)) m).filter (fun x => a ≤ x && x ≤ b) = [] := by
    simp only [List.filter_eq_nil_iff, List.mem_range'_1]
    intro x hx
    simp; omega
  rw [hbefore, hwindow, hafter]
  simp

theorem windowColumns_line {c : SetupConfig} (f : Format) {width : Nat} (hx : c.x0 ≤ c.x1) (hwidth : c.x1 < width) :
    windowColumns c f (lineWords f width) = List.range' c.x0 (c.x1 - c.x0 + 1) := by
  obtain ⟨n, hn, hcolumns⟩ := wordCompletes_line f width
  rw [windowColumns, hcolumns]
  exact filter_range_interval hx (hwidth.trans_le hn)

/-- A word that completes a window column of a window line carries window pixels (R102). -/
theorem carriesWindow_of_completes {c : SetupConfig} {f : Format} {y n x : Nat} (hy : c.holdsLine y = true)
    (hx : c.holdsColumn x = true) (hn : wordCompletes f n = some x) : carriesWindow c f y n = true := by
  simp only [SetupConfig.holdsColumn, Bool.and_eq_true, decide_eq_true_eq] at hx
  cases f with
  | l10 =>
    cases hn
    simp [carriesWindow, wordColumns, hy, hx]
  | l12 =>
    simp only [wordCompletes] at hn
    split at hn
    · cases hn
    · cases hn
      simp only [carriesWindow, wordColumns, hy, Bool.true_and, Bool.and_eq_true]
      exact ⟨decide_eq_true hx.2, decide_eq_true (by omega)⟩

theorem windowColumns_succ_of_not_carried {c : SetupConfig} {f : Format} {y n : Nat} (hy : c.holdsLine y = true)
    (h : carriesWindow c f y n = false) : windowColumns c f (n + 1) = windowColumns c f n := by
  have hnone : (wordCompletes f n).toList.filter c.holdsColumn = [] := List.filter_eq_nil_iff.2 fun x hx hcolumn => by
    rw [carriesWindow_of_completes hy hcolumn (Option.mem_toList.1 hx)] at h
    cases h
  rw [windowColumns_succ, hnone, List.append_nil]

/-- The pixel that a word completes is that of the column among the words of the line (R101). -/
theorem pixelOf_eq_sourcePixel {f : Format} {words : List Word32} {prev : Word32} {n x : Nat} (hn : wordCompletes f n = some x)
    (hprev : n ≠ 0 → prev = words.getD (n - 1) 0) : pixelOf f prev (words.getD n 0) n = sourcePixel f words x := by
  cases f with
  | l10 =>
    cases hn
    rfl
  | l12 =>
    simp only [wordCompletes] at hn
    split at hn
    · cases hn
    · next hfirst =>
      cases hn
      have hbefore : 9 * ((8 * (n / 9) + (n % 9 - 1)) / 8) + (8 * (n / 9) + (n % 9 - 1)) % 8 = n - 1 := by omega
      have hplace : (8 * (n / 9) + (n % 9 - 1)) % 8 + 1 = n % 9 := by omega
      have hn : n - 1 + 1 = n := by omega
      simp only [pixelOf, sourcePixel, hbefore, hplace, hn]
      rw [hprev (by omega)]

/-! ## The buffer after each word -/

/-- Pixels of ascending columns in exposure order (R111). -/
def SetupConfig.exposureOrder (c : SetupConfig) (l : List (Rgb Nat)) : List (Rgb Nat) := if c.mirror then l.reverse else l

/-- The buffer of line `y` after the first `n` of its words: still EMPTY with no window column complete, or FILLING with those complete. -/
def FilledTo (c : SetupConfig) (f : Format) (words : List Word32) (y n : Nat) (b : LineBuffer) : Prop :=
  (b.state = .empty ∧ windowColumns c f n = []) ∨
    b = ⟨.filling, y, c.exposureOrder ((windowColumns c f n).map (sourcePixel f words))⟩

theorem LineBuffer.store_exposureOrder (c : SetupConfig) (st : BufferState) (y : Nat) (l : List (Rgb Nat)) (px : Rgb Nat) :
    LineBuffer.store ⟨st, y, c.exposureOrder l⟩ c.mirror px = ⟨st, y, c.exposureOrder (l ++ [px])⟩ := by
  cases h : c.mirror <;> simp [LineBuffer.store, SetupConfig.exposureOrder, h]

section Buffer

variable {c : SetupConfig} {f : Format} {words : List Word32} {y n : Nat} {b : LineBuffer}

/-- A word that carries window pixels makes the buffer FILLING, whatever it held before (R110). -/
theorem FilledTo.opened (h : FilledTo c f words y n b) :
    (if b.state = .empty then { LineBuffer.cleared with state := .filling, line := y } else b) =
      ⟨.filling, y, c.exposureOrder ((windowColumns c f n).map (sourcePixel f words))⟩ := by
  obtain ⟨hempty, hnone⟩ | rfl := h
  · rw [if_pos hempty, hnone]
    cases hm : c.mirror <;> simp [SetupConfig.exposureOrder, LineBuffer.cleared, hm]
  · rfl

theorem FilledTo.carried {prev : Word32} (h : FilledTo c f words y n b) (hprev : n ≠ 0 → prev = words.getD (n - 1) 0) :
    FilledTo c f words y (n + 1) (fillBuffer c f y n prev (words.getD n 0) b) := by
  right
  simp only [fillBuffer, h.opened, windowColumns_succ]
  cases hn : wordCompletes f n with
  | none => simp
  | some x =>
    rw [pixelOf_eq_sourcePixel hn hprev]
    by_cases hx : c.holdsColumn x = true
    · simp [hx, LineBuffer.store_exposureOrder]
    · simp [hx]

theorem FilledTo.passed (h : FilledTo c f words y n b) (hy : c.holdsLine y = true) (hcarries : carriesWindow c f y n = false) :
    FilledTo c f words y (n + 1) b := by
  unfold FilledTo
  rw [windowColumns_succ_of_not_carried hy hcarries]
  exact h

theorem FilledTo.emptyOrFilling (h : FilledTo c f words y n b) : b.state = .empty ∨ b.state = .filling := by
  obtain ⟨hempty, -⟩ | rfl := h
  · exact .inl hempty
  · exact .inr rfl

/-- After the last word of the line the buffer holds every window column. -/
theorem FilledTo.line {width : Nat} (h : FilledTo c f words y (lineWords f width) b) (hx : c.x0 ≤ c.x1) (hwidth : c.x1 < width) :
    b = ⟨.filling, y, c.exposureOrder ((List.range' c.x0 (c.x1 - c.x0 + 1)).map (sourcePixel f words))⟩ := by
  rw [← windowColumns_line f hx hwidth]
  obtain ⟨-, hnone⟩ | hb := h
  · rw [windowColumns_line f hx hwidth] at hnone
    simp at hnone
  · exact hb

end Buffer

/-! ## The line under way -/

theorem Port.setBuf_eq (p : Port) (k : Nat) (b : LineBuffer) :
    p.setBuf k b = { p with buf0 := (p.setBuf k b).buf0, buf1 := (p.setBuf k b).buf1 } := by
  unfold Port.setBuf
  split <;> rfl

theorem Port.bothFull_false {p : Port} (k : Nat) (h : (p.buf k).state ≠ .full) : p.bothFull = false := by
  unfold Port.buf at h
  unfold Port.bothFull
  split at h <;> simp [h]

/-- The words of a line that the port parses for the setup `c`, from its state `s` before the first of them: the first `n` of them taken. -/
structure LineUnderWay (s : State) (c : SetupConfig) (words : List Word32) (n : Nat) (t : State) : Prop where
  same : t = { s with port := t.port }
  line : t.port.state = .inLine
  waiting : t.port.waiting = none
  settled : t.port.settled = false
  format : t.port.format = s.port.format
  srcWidth : t.port.srcWidth = s.port.srcWidth
  expected : t.port.expected = s.port.expected
  received : t.port.received = s.port.received
  count : t.port.wordCount = n
  prev : n ≠ 0 → t.port.prev = words.getD (n - 1) 0
  buffer : FilledTo c s.port.format words s.port.expected n (t.port.buf (s.port.expected - c.y0))
  other : t.port.buf (s.port.expected - c.y0 + 1) = s.port.buf (s.port.expected - c.y0 + 1)

/-- The port while a data word of the setup's window line is stored: its buffer changed where the word carries window pixels. -/
def Port.stored (p : Port) (c : SetupConfig) (w : Word32) : Port :=
  if carriesWindow c p.format p.expected p.wordCount then
    p.setBuf (p.expected - c.y0) (fillBuffer c p.format p.expected p.wordCount p.prev w (p.buf (p.expected - c.y0)))
  else p

theorem Port.stored_eq (p : Port) (c : SetupConfig) (w : Word32) :
    p.stored c w = { p with buf0 := (p.stored c w).buf0, buf1 := (p.stored c w).buf1 } := by
  unfold Port.stored
  split
  · exact Port.setBuf_eq p _ _
  · rfl

theorem Port.stored_otherBuf (p : Port) (c : SetupConfig) (w : Word32) :
    (p.stored c w).buf (p.expected - c.y0 + 1) = p.buf (p.expected - c.y0 + 1) := by
  unfold Port.stored
  split
  · exact (Port.buf_setBuf p _ _ _).trans (if_neg (by omega))
  · rfl

theorem FilledTo.stored {p : Port} {c : SetupConfig} {words : List Word32}
    (h : FilledTo c p.format words p.expected p.wordCount (p.buf (p.expected - c.y0))) (hy : c.holdsLine p.expected = true)
    (hprev : p.wordCount ≠ 0 → p.prev = words.getD (p.wordCount - 1) 0) :
    FilledTo c p.format words p.expected (p.wordCount + 1) ((p.stored c (words.getD p.wordCount 0)).buf (p.expected - c.y0)) := by
  unfold Port.stored
  split
  · rw [Port.buf_setBuf, if_pos rfl]
    exact h.carried hprev
  · next hcarries => exact h.passed hy (Bool.eq_false_iff.2 hcarries)

theorem Port.buf_bufferOf (p : Port) (c : SetupConfig) (y : Nat) : p.buf (c.bufferOf y) = p.buf (y - c.y0) := by
  simp [Port.buf, SetupConfig.bufferOf]

theorem Port.setBuf_bufferOf (p : Port) (c : SetupConfig) (y : Nat) (b : LineBuffer) : p.setBuf (c.bufferOf y) b = p.setBuf (y - c.y0) b := by
  simp [Port.setBuf, SetupConfig.bufferOf]

theorem storeWord_window {t : State} {c : SetupConfig} (hc : portWindow t = some c) (w : Word32) :
    storeWord t w = { t.port.stored c w with wordCount := t.port.wordCount + 1, prev := w } := by
  simp only [storeWord, hc, Port.stored, Port.buf_bufferOf, Port.setBuf_bufferOf]

/-- The port after the last data word of a line of the setup's window (R106, R110). -/
def Port.lineDone (p : Port) (c : SetupConfig) : Port :=
  Port.setBuf { p with state := .betweenLines, received := p.received + 1, expected := p.expected + 1 } (p.expected - c.y0)
    { p.buf (p.expected - c.y0) with state := .full }

theorem Port.lineDone_eq (p : Port) (c : SetupConfig) :
    p.lineDone c = { p with
      state := .betweenLines, received := p.received + 1, expected := p.expected + 1
      buf0 := (p.lineDone c).buf0, buf1 := (p.lineDone c).buf1 } := Port.setBuf_eq _ _ _

theorem Port.lineDone_buf (p : Port) (c : SetupConfig) :
    (p.lineDone c).buf (p.expected - c.y0) = { p.buf (p.expected - c.y0) with state := .full } :=
  (Port.buf_setBuf _ _ _ _).trans (if_pos rfl)

theorem Port.lineDone_otherBuf (p : Port) (c : SetupConfig) :
    (p.lineDone c).buf (p.expected - c.y0 + 1) = p.buf (p.expected - c.y0 + 1) :=
  (Port.buf_setBuf _ _ _ _).trans (if_neg (by omega))

theorem lineReceived_window {t : State} {c : SetupConfig} (hc : portWindow t = some c) (hy : c.holdsLine t.port.expected = true) :
    lineReceived t = { t with port := t.port.lineDone c, frame := { t.frame with lineWait := 0 } } := by
  simp only [lineReceived, hc, hy, if_true, Port.setBuf_bufferOf, Port.buf_bufferOf, bufferFull]
  rfl

/-- A word that began with READY asserted, which it still is, is handled by its kind (R107). -/
theorem takeWord_ready {t : State} (h : t.ready = true) (handle : State → State) : takeWord t .ready handle = handle t := by
  simp [takeWord, overruns, h]

section Line

variable {s t : State} {c : SetupConfig} {words : List Word32} {n : Nat}

theorem LineUnderWay.start (hstate : s.port.state = .inLine) (hcount : s.port.wordCount = 0) (hwaiting : s.port.waiting = none)
    (hsettled : s.port.settled = false) (hempty : (s.port.buf (s.port.expected - c.y0)).state = .empty) : LineUnderWay s c words 0 s :=
  ⟨rfl, hstate, hwaiting, hsettled, rfl, rfl, rfl, rfl, hcount, fun h => absurd rfl h, .inl ⟨hempty, rfl⟩, rfl⟩

theorem LineUnderWay.window (h : LineUnderWay s c words n t) (hc : portWindow s = some c) : portWindow t = some c := by
  have hsetup : t.frameSetup = s.frameSetup := by
    rw [h.same]
    rfl
  unfold portWindow at hc ⊢
  rw [h.settled, hsetup]
  split at hc
  · cases hc
  · exact hc

/-- READY is asserted all through the line: no header waits, and its buffer is neither held nor FULL (R113). -/
theorem LineUnderWay.ready (h : LineUnderWay s c words n t) (hc : portWindow s = some c) : t.ready = true := by
  have hbuffer := h.buffer.emptyOrFilling
  have hheld : readyHeldByBuffer t = false := by
    simp only [readyHeldByBuffer, h.window hc, Port.buf_bufferOf, h.expected]
    obtain e | e := hbuffer <;> simp [e]
  have hfull : t.port.bothFull = false :=
    Port.bothFull_false (s.port.expected - c.y0) (by obtain e | e := hbuffer <;> rw [e] <;> decide)
  simp [State.ready, hheld, readyHeldBySeating, hfull, h.waiting]

/-- One more data word stored (R106, R111). -/
theorem LineUnderWay.store (h : LineUnderWay s c words n t) (hc : portWindow s = some c) (hy : c.holdsLine s.port.expected = true) :
    LineUnderWay s c words (n + 1) { t with port := storeWord t (words.getD n 0) } := by
  have hport := t.port.stored_eq c (words.getD n 0)
  rw [storeWord_window (h.window hc)]
  exact {
    same := by rw [h.same]
    line := (congrArg Port.state hport).trans h.line
    waiting := (congrArg Port.waiting hport).trans h.waiting
    settled := (congrArg Port.settled hport).trans h.settled
    format := (congrArg Port.format hport).trans h.format
    srcWidth := (congrArg Port.srcWidth hport).trans h.srcWidth
    expected := (congrArg Port.expected hport).trans h.expected
    received := (congrArg Port.received hport).trans h.received
    count := congrArg (· + 1) h.count
    prev := fun _ => rfl
    buffer := by
      have hfilled := FilledTo.stored (p := t.port) (c := c) (words := words)
      rw [h.format, h.expected, h.count] at hfilled
      exact hfilled h.buffer hy h.prev
    other := by
      have hother := t.port.stored_otherBuf c (words.getD n 0)
      rw [h.expected] at hother
      exact hother.trans h.other }

/-- A data word of the line: stored, and the line received with the last (R106). -/
theorem LineUnderWay.word (h : LineUnderWay s c words n t) (hc : portWindow s = some c) (hy : c.holdsLine s.port.expected = true)
    (hlength : words.length = lineWords s.port.format s.port.srcWidth) :
    let u : State := { t with port := storeWord t (words.getD n 0) }
    exec (.dataWord .ready (words.getD n 0)) t = .next (if n + 1 = words.length then lineReceived u else u) := by
  have hstored := h.store hc hy
  have hcount : (storeWord t (words.getD n 0)).wordCount = n + 1 := hstored.count
  have hformat : (storeWord t (words.getD n 0)).format = s.port.format := hstored.format
  have hwidth : (storeWord t (words.getD n 0)).srcWidth = s.port.srcWidth := hstored.srcWidth
  show execDataWord .ready (words.getD n 0) t = _
  unfold execDataWord
  rw [takeWord_ready (h.ready hc)]
  simp only [wordData, h.line, hcount, hformat, hwidth, hlength]

/-- What the whole line leaves (R106, R110, R111). -/
def LineTaken (s : State) (c : SetupConfig) (columns : List (Rgb Nat)) (t : State) : Prop :=
  t.port.buf (s.port.expected - c.y0) = ⟨.full, s.port.expected, c.exposureOrder columns⟩ ∧
  t.port.buf (s.port.expected - c.y0 + 1) = s.port.buf (s.port.expected - c.y0 + 1) ∧ t.port.state = .betweenLines ∧
  t.port.received = s.port.received + 1 ∧ t.port.expected = s.port.expected + 1 ∧ t.frame = { s.frame with lineWait := 0 } ∧
  t = { s with port := t.port, frame := t.frame }

theorem LineUnderWay.taken (h : LineUnderWay s c words (lineWords s.port.format s.port.srcWidth) t) (hc : portWindow s = some c)
    (hy : c.holdsLine s.port.expected = true) (hx : c.x0 ≤ c.x1) (hwidth : c.x1 < s.port.srcWidth) :
    LineTaken s c ((List.range' c.x0 (c.x1 - c.x0 + 1)).map (sourcePixel s.port.format words)) (lineReceived t) := by
  have hbuf := t.port.lineDone_buf c
  have hother := t.port.lineDone_otherBuf c
  have hport := t.port.lineDone_eq c
  rw [h.expected] at hbuf hother
  rw [h.buffer.line hx hwidth] at hbuf
  rw [lineReceived_window (h.window hc) (by rw [h.expected]; exact hy)]
  refine ⟨hbuf, hother.trans h.other, congrArg Port.state hport, (congrArg Port.received hport).trans (congrArg (· + 1) h.received),
    (congrArg Port.expected hport).trans (congrArg (· + 1) h.expected), by rw [h.same], by rw [h.same]⟩

/-- The rest of the line's words, one after another. -/
theorem LineUnderWay.run (hc : portWindow s = some c) (hy : c.holdsLine s.port.expected = true) (hx : c.x0 ≤ c.x1)
    (hwidth : c.x1 < s.port.srcWidth) (hlength : words.length = lineWords s.port.format s.port.srcWidth) (rest : List Word32) :
    ∀ (done : List Word32) (t : State), words = done ++ rest → rest ≠ [] → LineUnderWay s c words done.length t →
      ∃ u, runAll (rest.map (.dataWord .ready)) t = .next u ∧
        LineTaken s c ((List.range' c.x0 (c.x1 - c.x0 + 1)).map (sourcePixel s.port.format words)) u := by
  induction rest with
  | nil => exact fun _ _ _ hne => absurd rfl hne
  | cons w rest ih =>
    intro done t hwords _ h
    have hw : words.getD done.length 0 = w := by simp [hwords]
    have hword := h.word hc hy hlength
    have hstored := h.store hc hy
    rw [hw] at hword hstored
    rw [List.map_cons, runAll, hword]
    by_cases hrest : rest = []
    · have hlast : done.length + 1 = words.length := by simp [hwords, hrest]
      rw [if_pos hlast, hrest]
      rw [hlast, hlength] at hstored
      exact ⟨_, rfl, hstored.taken hc hy hx hwidth⟩
    · have hlater : done.length + 1 ≠ words.length := by simp [hwords, hrest]
      rw [if_neg hlater]
      exact ih (done ++ [w]) _ (by simp [hwords]) hrest (by simpa using hstored)

end Line

/-- Settles O35: the words are taken one after another (`LineUnderWay.run`), from the line's start on. -/
theorem lineFillsItsBuffer : Obligations.LineFillsItsBuffer := by
  intro s i words c p y hstate hcount hwaiting hsettled hslot hy0 hy1 hx hwidth hempty hlength columns
  have hc : portWindow s = some c := by
    simp only [portWindow, State.frameSetup, hslot]
    exact if_neg (Bool.not_eq_true _ ▸ hsettled)
  have hy : c.holdsLine y = true := by simp [SetupConfig.holdsLine, hy0, hy1]
  have hne : words ≠ [] := List.ne_nil_of_length_pos (hlength ▸ lineWords_pos _ (Nat.zero_lt_of_lt hwidth))
  exact LineUnderWay.run hc hy hx hwidth hlength words [] s rfl hne (.start hstate hcount hwaiting hsettled hempty)

end Sys2Proof.Machine
end

section
/-! The laser safety (O51): the fields that it reads, what a change must keep of them, and the shared operations that only darken. -/

namespace Sys2Proof.Machine

-- one theorem after another, as in the tests: a checker's memory limit leaves no room for many threads at once
set_option Elab.async false

open Sys2Proof

/-! ## The fields that the laser safety reads -/

/-- What the laser safety reads of the state (R87, R126, R133, R148). -/
structure Beams where
  safeOpen : Bool
  chan : Chan → ChannelState
  drive : Chan → Drive
  frame : FrameState
  engine : EngineState

/-- The fields of `Beams` as they stand in a state. -/
def State.beams (s : State) : Beams where
  safeOpen := s.transport.safeOpen
  chan c := (s.chan c).state
  drive := s.drives.get
  frame := s.frame.state
  engine := s.engine.state

theorem LaserSafe.congr {s t : State} (h : t.beams = s.beams) (k : LaserSafe s) : LaserSafe t := by
  simp only [State.beams, Beams.mk.injEq] at h
  obtain ⟨hsafe, hchan, hdrive, hframe, hengine⟩ := h
  refine ⟨fun e c => ?_, fun c e => ?_, fun e => ⟨fun c => ?_, ?_⟩⟩
  · rw [congrFun hchan c]; exact k.dark (hsafe ▸ e) c
  · rw [congrFun hchan c, hsafe]; exact k.guarded c (congrFun hdrive c ▸ e)
  · rw [congrFun hchan c]; exact (k.exposing (hframe ▸ e)).1 c
  · rw [hengine]; exact (k.exposing (hframe ▸ e)).2

/-! ## What a change must keep -/

/-- A change that keeps the laser safety. -/
def LaserKept (s t : State) : Prop := LaserSafe s → LaserSafe t

theorem LaserKept.trans {s t u : State} (h : LaserKept s t) (k : LaserKept t u) : LaserKept s u := fun hs => k (h hs)

/-- A change outside the fields that the laser safety reads; without a proof given, the two states say so themselves. -/
theorem LaserKept.same {s t : State} (h : t.beams = s.beams := by rfl) : LaserKept s t := .congr h

theorem LaserKept.refl (s : State) : LaserKept s s := .same

/-- A change that begins from the state with other fields changed first. -/
theorem LaserKept.after {s m t : State} (h : LaserKept m t) (beams : m.beams = s.beams := by rfl) : LaserKept s t := .trans (.same beams) h

theorem LaserKept.ite {s t u : State} (c : Prop) [Decidable c] (ht : c → LaserKept s t) (hu : ¬c → LaserKept s u) :
    LaserKept s (if c then t else u) := by
  split
  · exact ht ‹_›
  · exact hu ‹_›

/-- A change that lights no channel and drives no modulator: SAFE stands, a lit channel was lit, and a driven one was driven in the state it
is in. -/
structure Darkens (s t : State) : Prop where
  safe : t.transport.safeOpen = s.transport.safeOpen
  lit : ∀ c, (t.chan c).state.lit = true → (s.chan c).state.lit = true
  driven : ∀ c, t.drives.get c ≠ .off → s.drives.get c ≠ .off ∧ (t.chan c).state = (s.chan c).state

theorem Darkens.trans {s t u : State} (h : Darkens s t) (k : Darkens t u) : Darkens s u where
  safe := k.safe.trans h.safe
  lit c e := h.lit c (k.lit c e)
  driven c e := ⟨(h.driven c (k.driven c e).1).1, (k.driven c e).2.trans (h.driven c (k.driven c e).1).2⟩

/-- The channels stay in their states, and each drive stays or goes off. -/
theorem Darkens.of_drives {s t : State} (drives : ∀ c, t.drives.get c = s.drives.get c ∨ t.drives.get c = .off)
    (safe : t.transport.safeOpen = s.transport.safeOpen := by simp) (chans : t.chans = s.chans := by simp) : Darkens s t where
  safe := safe
  lit c e := by rwa [State.chan, chans] at e
  driven c e := ⟨fun hoff => (drives c).elim (fun h => e (h.trans hoff)) e, by rw [State.chan, chans]; rfl⟩

/-- SAFE, the channels and the drives stay. -/
theorem Darkens.same {s t : State} (safe : t.transport.safeOpen = s.transport.safeOpen := by rfl) (chans : t.chans = s.chans := by rfl)
    (drives : t.drives = s.drives := by rfl) : Darkens s t := .of_drives (fun c => .inl (by rw [drives])) safe chans

theorem Darkens.refl (s : State) : Darkens s s := .same

/-- A change that darkens and leaves no frame EXPOSING (R94). -/
theorem Darkens.landed {s t : State} (h : Darkens s t) (hframe : t.frame.state ≠ .exposing) : LaserKept s t := by
  refine fun k => ⟨fun e c => ?_, fun c e => ?_, fun e => absurd e hframe⟩
  · have hdark := k.dark (h.safe ▸ e) c
    cases hl : (t.chan c).state.lit with
    | false => rfl
    | true => rw [h.lit c hl] at hdark; cases hdark
  · obtain ⟨hdrive, hstate⟩ := h.driven c e
    rw [hstate, h.safe]
    exact k.guarded c hdrive

/-- A change that darkens, with the channels and the engine in their states and no frame newly EXPOSING. -/
theorem Darkens.kept {s t : State} (h : Darkens s t) (hframe : t.frame.state = .exposing → s.frame.state = .exposing)
    (hchan : ∀ c, (t.chan c).state = (s.chan c).state) (hengine : t.engine.state = s.engine.state) : LaserKept s t := fun k => by
  by_cases hexp : t.frame.state = .exposing
  · have hlanded : LaserSafe { t with frame := { t.frame with state := .idle } } :=
      Darkens.landed (s := s) ⟨h.safe, h.lit, h.driven⟩ nofun k
    refine ⟨hlanded.dark, hlanded.guarded, fun _ => ⟨fun c => ?_, ?_⟩⟩
    · rw [hchan]; exact (k.exposing (hframe hexp)).1 c
    · rw [hengine]; exact (k.exposing (hframe hexp)).2
  · exact h.landed hexp k

/-! ## SAFE under the shared operations -/

@[simp] theorem issuePull_safeOpen (s : State) : (issuePull s).transport.safeOpen = s.transport.safeOpen := by
  cases h : s.transport.roll with
  | none => rw [issuePull_none h]
  | some r => rw [issuePull_roll h]

@[simp] theorem advancePull_safeOpen (s : State) : (advancePull s).transport.safeOpen = s.transport.safeOpen := by
  unfold advancePull
  split <;> simp

@[simp] theorem groupEnded_safeOpen (s : State) (k : GroupKind) : (groupEnded s k).transport.safeOpen = s.transport.safeOpen := by
  rcases resumeAdvance_cases { s with frame := groupNotice s.frame k } with h | ⟨n, l, -, h⟩
  · rw [groupEnded, h]
  · rw [groupEnded, h, advancePull_safeOpen]

@[simp] theorem beginGroup_safeOpen (s : State) (k : GroupKind) (n : Nat) : (beginGroup s k n).transport.safeOpen = s.transport.safeOpen := by
  unfold beginGroup
  split <;> simp

@[simp] theorem windowPassed_safeOpen (s : State) : (windowPassed s).transport.safeOpen = s.transport.safeOpen := by
  unfold windowPassed
  split <;> simp

@[simp] theorem endWindow_safeOpen (s : State) : (endWindow s).transport.safeOpen = s.transport.safeOpen := by
  by_cases h : s.engine.window = .none
  · rw [endWindow_of_none h]
  · rw [endWindow_eq h]
    split <;> simp [dropWindow]

@[simp] theorem dropSample_safeOpen (s : State) (c : Chan) : (dropSample s c).transport.safeOpen = s.transport.safeOpen := by
  unfold dropSample
  dsimp only
  split
  · split
    · split <;> simp
    · rfl
  · rfl

@[simp] theorem spoil_safeOpen (s : State) (c : Cause) : (spoil s c).transport.safeOpen = s.transport.safeOpen := by
  unfold spoil
  split
  · simp
  · rfl

/-! ## The shared operations that darken -/

theorem windowPassed_darkens (s : State) : Darkens s (windowPassed s) := .of_drives fun c => by simp

theorem endWindow_darkens (s : State) : Darkens s (endWindow s) := .of_drives (endWindow_drive s)

theorem endWindow_laser (s : State) : LaserKept s (endWindow s) :=
  (endWindow_darkens s).kept (by simp) (fun c => by simp [State.chan]) (by simp)

theorem windowPassed_laser (s : State) : LaserKept s (windowPassed s) :=
  (windowPassed_darkens s).kept (by rw [(windowPassed_kept s).state]; exact id) (fun c => by simp [State.chan]) (by simp)

/-- The drives of a reading dropped: the channel's own is off, and none comes on (R126, R127). -/
theorem dropSample_drive (s : State) (c d : Chan) :
    (dropSample s c).drives.get d = s.drives.get d ∨ (dropSample s c).drives.get d = .off := by
  have hset : (s.setDrive c .off).drives.get d = s.drives.get d ∨ (s.setDrive c .off).drives.get d = .off := by
    rw [State.setDrive_drives, Rgb.get_set]
    split
    · exact .inr rfl
    · exact .inl rfl
  unfold dropSample
  dsimp only
  split
  · split
    · split
      · rcases endWindow_drive { s.setDrive c .off with engine := { s.engine with window := .opened _ _ _ } } d with h | h
        · rw [show State.engine (s.setDrive c .off) = s.engine from rfl, h]; exact hset
        · exact .inr h
      · exact hset
    · exact hset
  · exact hset

/-- A channel leaves WARMING and READY for a state that is lit only if it was lit before (R126, R140, R142). -/
theorem leaveWarm_darkens (s : State) (c : Chan) {x : Channel} (h : x.state.lit = true → (s.chan c).state.lit = true) :
    Darkens s (dropSample (s.setChan c x) c) where
  safe := by simp
  lit d e := by
    rw [State.chan, dropSample_chans, ← State.chan, State.setChan_chan] at e
    split at e
    · next hd => rw [hd]; exact h e
    · exact e
  driven d e := by
    have hne : d ≠ c := fun hd => e (by rw [hd]; exact dropSample_drive_self _ c)
    rw [State.chan, dropSample_chans, ← State.chan, State.setChan_chan, if_neg hne]
    exact ⟨(dropSample_drive (s.setChan c x) c d).elim (fun hs => hs ▸ e) fun hoff => absurd hoff e, rfl⟩

theorem darken_darkens (s : State) (c : Chan) : Darkens s (darken s c) := leaveWarm_darkens s c nofun

theorem enterBiased_darkens (s : State) (c : Chan) (h : (s.chan c).state.lit = true) : Darkens s (enterBiased s c) :=
  leaveWarm_darkens s c fun _ => h

theorem spoil_darkens (s : State) (c : Cause) : Darkens s (spoil s c) := .of_drives (spoil_drive s c)

theorem exposing_inFlight {s : State} (h : s.inFlight = false) : s.frame.state ≠ .exposing := fun e => by
  simp [State.inFlight, e, FrameState.inFlight] at h

theorem spoil_not_exposing (s : State) (c : Cause) : (spoil s c).frame.state ≠ .exposing := exposing_inFlight (spoil_inFlight s c)

theorem spoil_laser (s : State) (c : Cause) : LaserKept s (spoil s c) := (spoil_darkens s c).landed (spoil_not_exposing s c)

theorem enterDark_laser (s : State) (c : Chan) : LaserKept s (enterDark s c) :=
  ((darken_darkens s c).trans (spoil_darkens _ _)).landed (spoil_not_exposing _ _)

theorem enterFault_laser (s : State) (c : Chan) (x : FaultCause) : LaserKept s (enterFault s c x) := by
  have hfault : Darkens s (dropSample (s.setChan c { (s.chan c).dropCapture with state := .fault, faultCause := some x }) c) :=
    leaveWarm_darkens s c nofun
  exact ((hfault.trans .same).trans (spoil_darkens _ _)).landed (spoil_not_exposing _ _)

/-- The engine leaves LOCKED, and a frame in EXPOSING is spoiled (R123). -/
theorem leaveLocked_laser {s m : State} (next : EngineState) (h : Darkens s m) : LaserKept s (leaveLocked m next) := by
  let r := State.raise { m with engine := { m.engine with state := next, good := 0 } } .lockLost
  let p := if r.frame.state = .exposing then spoil r .sync else r
  have hspoil : Darkens r p ∧ p.frame.state ≠ .exposing := by
    by_cases hr : r.frame.state = .exposing
    · rw [show p = spoil r .sync from if_pos hr]
      exact ⟨spoil_darkens r .sync, spoil_not_exposing r .sync⟩
    · rw [show p = r from if_neg hr]
      exact ⟨.refl r, hr⟩
  have hoff : Darkens p p.drivesOff := .of_drives (fun c => .inr (by cases c <;> rfl)) rfl rfl
  refine (((h.trans .same).trans hspoil.1).trans (hoff.trans (endWindow_darkens _))).landed ?_
  rw [endWindow_state]
  exact hspoil.2

end Sys2Proof.Machine
end

section
/-! The engine, the frame cycle, the channels, the timers, the words of the port and the resets keep the laser safety (R87, R94, R126, R133, R148). -/

namespace Sys2Proof.Machine

-- one theorem after another, as in the tests: a checker's memory limit leaves no room for many threads at once
set_option Elab.async false

open Sys2Proof

/-! ## The engine -/

theorem facetsChanged_laser (s : State) : LaserKept s (facetsChanged s) := by
  unfold facetsChanged
  split
  · exact leaveLocked_laser _ (.refl s)
  · exact .same
  · exact .refl s

theorem periodFiguresChanged_laser (s : State) : LaserKept s (periodFiguresChanged s) := by
  unfold periodFiguresChanged
  split
  · exact leaveLocked_laser _ (.refl s)
  · exact .same
  · exact .refl s

/-- Out of LOCKED no frame is EXPOSING (R94). -/
theorem LaserSafe.not_exposing {s : State} (h : LaserSafe s) (hstate : s.engine.state ≠ .locked) : s.frame.state ≠ .exposing :=
  fun e => hstate (h.exposing e).2

/-- The engine's record changes out of LOCKED. -/
theorem unlocked_laser {s : State} (e : Engine) (h : s.engine.state ≠ .locked) : LaserKept s { s with engine := e } := fun k =>
  ⟨k.dark, k.guarded, fun hexp => absurd hexp (k.not_exposing h)⟩

theorem stallEngine_laser (s : State) : LaserKept s (stallEngine s) := by
  unfold stallEngine
  split
  · exact .refl s
  · next h => exact unlocked_laser _ (by rw [h]; decide)
  · exact leaveLocked_laser _ .same

/-! ## Readiness -/

theorem isReady_iff (s : State) : s.isReady = true ↔ (∀ c, (s.chan c).state = .ready) ∧ s.engine.state = .locked := by
  simp [State.isReady, Rgb.all_iff, State.chan]

theorem enterExposing_state (s : State) : (enterExposing s).frame.state = .exposing := by
  simp only [enterExposing, (beginGroup_kept _ _ _).state]

@[simp] theorem enterExposing_safeOpen (s : State) : (enterExposing s).transport.safeOpen = s.transport.safeOpen := by
  simp [enterExposing]

/-- A frame enters EXPOSING with the channels READY and the engine LOCKED (R87). -/
theorem testReady_laser (s : State) : LaserKept s (testReady s) := by
  refine .ite _ (fun h k => ?_) fun _ => .refl s
  have hdark : Darkens s (enterExposing s) := .of_drives fun c => by simp
  have hlanded : LaserSafe { enterExposing s with frame := s.frame } :=
    Darkens.landed (s := s) ⟨hdark.safe, hdark.lit, hdark.driven⟩
      (by rw [show State.frame { enterExposing s with frame := s.frame } = _ from rfl, h.1]; decide) k
  refine ⟨hlanded.dark, hlanded.guarded, fun _ => ?_⟩
  simpa [State.chan] using (isReady_iff s).1 h.2

/-- A WARMING channel goes to READY (R137). -/
theorem enterReady_laser {s : State} {c : Chan} (h : (s.chan c).state = .warming) : LaserKept s (enterReady s c) := by
  have hset : LaserKept s (s.setChan c { s.chan c with state := .ready, outRun := 0 }) := fun k => by
    have hstate (d : Chan) : ((s.setChan c { s.chan c with state := .ready, outRun := 0 }).chan d).state =
        if d = c then .ready else (s.chan d).state := by
      rw [State.setChan_chan]
      split <;> rfl
    refine ⟨fun e d => ?_, fun d e => ?_, fun e => ⟨fun d => ?_, (k.exposing e).2⟩⟩
    · have hdark := k.dark e c
      rw [h] at hdark
      cases hdark
    · obtain ⟨hwarm, hsafe⟩ := k.guarded d e
      refine ⟨?_, hsafe⟩
      rw [hstate]
      split
      · rfl
      · exact hwarm
    · rw [hstate]
      split
      · rfl
      · exact (k.exposing e).1 d
  exact (hset.trans .same).trans (testReady_laser _)

/-! ## FACET and the lines -/

theorem drivesOf_get (s : State) (which : Chan → Bool) (d : Drive) (c : Chan) :
    (s.drivesOf which d).get c = if which c && s.mayDrive c then d else .off := by cases c <;> rfl

/-- The drives are given anew, to channels that may drive their modulators (R126). -/
theorem drivesOf_laser {s t : State} (which : Chan → Bool) (d : Drive) (h : t.beams = { s.beams with drive := (s.drivesOf which d).get }) :
    LaserKept s t := fun k => by
  refine .congr (s := { s with drives := s.drivesOf which d }) h ⟨k.dark, fun c e => ?_, k.exposing⟩
  have hdrive : (s.drivesOf which d).get c ≠ .off := e
  rw [drivesOf_get] at hdrive
  split at hdrive
  · next hmay =>
    obtain ⟨hwarm, hsafe⟩ := Bool.and_eq_true_iff.1 (Bool.and_eq_true_iff.1 hmay).2
    exact ⟨hwarm, by simpa using hsafe⟩
  · exact absurd rfl hdrive

theorem exposeLine_laser (s : State) (k : Nat) : LaserKept s (exposeLine s k) := by
  unfold exposeLine
  split
  · exact drivesOf_laser (fun _ => true) .slots rfl
  · exact .refl s

theorem offerFacet_laser (s : State) (k : Nat) : LaserKept s (offerFacet s k) := by
  unfold offerFacet
  cases facetUse s with
  | uncounted => exact .refl s
  | passes => exact .same
  | starved => exact .same
  | carries => exact (exposeLine_laser _ k).after

theorem scheduleSample_laser (s : State) (phase k : Nat) (carries : Bool) : LaserKept s (scheduleSample s phase k carries) :=
  .ite _ (fun _ => .same) fun _ => .refl s

theorem lockedFacet_laser (s : State) (phase p : Nat) : LaserKept s (lockedFacet s phase p) :=
  .ite _ (fun _ => leaveLocked_laser _ .same) fun _ => ((offerFacet_laser _ _).after).trans (scheduleSample_laser _ _ _ _)

theorem takeFacet_laser (s : State) : LaserKept s (takeFacet s) := by
  let m : State := { endWindow s with engine := (endWindow s).engine.nextPhase }
  refine ((endWindow_laser s).trans (.same (t := m))).trans ?_
  unfold takeFacet
  dsimp only
  split
  · next h => exact unlocked_laser (s := m) _ (by rw [show m.engine.state = _ from h]; decide)
  · next h => exact unlocked_laser (s := m) _ (by rw [show m.engine.state = _ from h]; decide)
  · exact (lockedFacet_laser _ _ _).after

theorem endLine_laser (s : State) (x : LineContext) : LaserKept s (endLine s x) :=
  Darkens.kept (.of_drives (fun c => .inr (by cases c <;> rfl)) rfl rfl) id (fun _ => rfl) rfl

theorem settle_laser (s : State) : LaserKept s (settle s) :=
  Darkens.landed (.of_drives fun c => by simp) (exposing_inFlight (settle_inFlight s))

theorem completeLine_laser (s : State) (x : LineContext) : LaserKept s (completeLine s x) :=
  .trans (t := lineSettled s x) ((endLine_laser s x).trans (.ite _ (fun _ => settle_laser _) fun _ => .refl _))
    (.ite _ (fun _ => .refl _) fun _ => windowPassed_laser _)

theorem completeIfDue_laser (s : State) : LaserKept s (completeIfDue s) := by
  unfold completeIfDue
  split
  · exact .ite _ (fun _ => completeLine_laser s _) fun _ => .refl s
  · exact .refl s

theorem openIfDue_laser (s : State) : LaserKept s (openIfDue s) := by
  refine .ite _ (fun _ => ?_) fun _ => .refl s
  unfold openScheduled
  split
  · exact .ite _ (fun _ => endWindow_laser s) fun _ => drivesOf_laser (fun c => (s.chan c).state.warm) .reference rfl
  · exact .refl s

/-! ## INDEX and the readings -/

theorem gainLock_laser {s : State} (h : s.engine.state ≠ .locked) : LaserKept s (gainLock s) :=
  ((unlocked_laser _ h).trans .same).trans (testReady_laser _)

theorem execIndex_laser (s : State) : EndsIn (execIndex s) (LaserKept s) := by
  refine .next ?_
  dsimp only
  split
  · exact .refl s
  · next h =>
    refine .ite _ (fun _ => (gainLock_laser ?_).after) fun _ => .same
    exact fun e => by cases h.symm.trans e
  · exact .ite _ (fun _ => .same) fun _ => leaveLocked_laser _ .same

/-- A channel's record changes and its state does not. -/
theorem setChan_laser {s : State} {c : Chan} {x : Channel} (h : x.state = (s.chan c).state) : LaserKept s (s.setChan c x) := by
  refine .same ?_
  have hstate : (fun d => ((s.setChan c x).chan d).state) = fun d => (s.chan d).state := by
    funext d
    rw [State.setChan_chan]
    split
    · next hd => rw [hd, h]
    · rfl
  simp only [State.beams, hstate]
  rfl

/-- A drive goes off (R126). -/
theorem setDrive_laser (s : State) (c : Chan) : LaserKept s (s.setDrive c .off) :=
  Darkens.kept (.of_drives (fun d => by
    rw [State.setDrive_drives, Rgb.get_set]
    split
    · exact .inr rfl
    · exact .inl rfl) rfl rfl) id (fun _ => rfl) rfl

@[simp] theorem read_state (x : Channel) (m : Nat) : (x.read m).state = x.state := by
  unfold Channel.read Channel.takeCapture
  dsimp only
  split
  · split <;> rfl
  · rfl

theorem handleSample_laser (s : State) (c : Chan) (m : Nat) : LaserKept s (handleSample s c m) := by
  simp only [handleSample]
  split
  · next h =>
    refine (setChan_laser (s := s) (c := c) ?_).trans (.ite _ (fun _ => enterReady_laser ?_) fun _ => .refl _)
    · exact read_state _ m
    · rw [State.setChan_chan_self]; exact h
  · refine (setChan_laser (s := s) (c := c) ?_).trans (.ite _ (fun _ => enterFault_laser _ c _) fun _ => .refl _)
    exact (driftSample_state _ _ _).trans (read_state _ m)
  · exact .refl s

theorem handleReading_laser (s : State) (c : Chan) (m : Nat) : LaserKept s (handleReading s c m) := by
  have hlast : LaserKept s (s.setChan c { s.chan c with lastM := some 0 }) := setChan_laser rfl
  exact .ite _ (fun _ => hlast.trans (enterFault_laser _ c _)) fun _ => handleSample_laser s c m

theorem closeRead_laser (s : State) : LaserKept s (closeRead s) := by
  unfold closeRead
  split
  · exact endWindow_laser s
  · exact .refl s

theorem execMonitorReading_laser (c : Chan) (reading : BitVec 12) (s : State) : EndsIn (execMonitorReading c reading s) (LaserKept s) := by
  refine .next ?_
  split
  · refine .ite _ (fun _ => ?_) fun _ => .refl s
    exact (((setDrive_laser _ c).after).trans (handleReading_laser _ c _)).trans (closeRead_laser _)
  · exact .refl s

/-! ## The timers -/

theorem biasIfReady_state (s : State) (c : Chan) : (biasIfReady s c).frame.state = s.frame.state := by
  unfold biasIfReady
  split
  · simp [enterBiased]
  · rfl

theorem biasIfReady_darkens (s : State) (c : Chan) : Darkens s (biasIfReady s c) := by
  unfold biasIfReady
  split
  · next h => exact enterBiased_darkens s c (by rw [h]; rfl)
  · exact .refl s

/-- Auto bias comes only without a frame in flight (R146). -/
theorem autoBias_laser {s : State} (h : s.inFlight = false) : LaserKept s (autoBias s) := by
  have hbias := ((biasIfReady_darkens { s with idle := { s.idle with seconds := 0, millis := 0 } } .red).trans (biasIfReady_darkens _ .grn)).trans
    (biasIfReady_darkens _ .blu)
  refine LaserKept.after (hbias.landed ?_)
  simp only [biasIfReady_state]
  exact exposing_inFlight h

theorem idleRuns_iff (s : State) : s.idleRuns = true ↔ s.inFlight = false := by simp [State.idleRuns]

theorem idleTick_laser (s : State) : LaserKept s (idleTick s) :=
  .ite _ (fun h => .ite _ (fun _ => (autoBias_laser (s := { s with idle := s.idle.advance }) ((idleRuns_iff s).1 h)).after) fun _ => .same)
    fun _ => .refl s

theorem startTimeoutPassed_laser (s : State) : LaserKept s (startTimeoutPassed s) := .ite _ (fun _ => spoil_laser s _) fun _ => .refl s

theorem lineWaitPassed_laser (s : State) : LaserKept s (lineWaitPassed s) := .ite _ (fun _ => spoil_laser s _) fun _ => .refl s

theorem warmTimeoutPassed_laser (s : State) (c : Chan) : LaserKept s (warmTimeoutPassed s c) :=
  .ite _ (fun _ => enterFault_laser s c _) fun _ => .refl s

theorem pullTimeoutPassed_laser (s : State) : LaserKept s (pullTimeoutPassed s) := by
  unfold pullTimeoutPassed
  split
  · exact .same
  · exact .refl s

theorem startTick_laser (s : State) : LaserKept s (startTick s) :=
  .ite _ (fun _ => .ite _ (fun _ => startTimeoutPassed_laser s) fun _ => .same) fun _ => .refl s

theorem lineWaitTick_laser (s : State) : LaserKept s (lineWaitTick s) :=
  .ite _ (fun _ => .ite _ (fun _ => lineWaitPassed_laser s) fun _ => .same) fun _ => .refl s

theorem facetTick_laser (s : State) : LaserKept s (facetTick s) := by
  unfold facetTick
  split
  · exact .refl s
  · exact .ite _ (fun _ => stallEngine_laser s) fun _ => .same

theorem warmTick_laser (s : State) (c : Chan) : LaserKept s (warmTick s c) :=
  .ite _ (fun _ => .ite _ (fun _ => warmTimeoutPassed_laser s c) fun _ => setChan_laser rfl) fun _ => .refl s

theorem pullTick_laser (s : State) : LaserKept s (pullTick s) := by
  unfold pullTick
  split
  · exact .ite _ (fun _ => pullTimeoutPassed_laser s) fun _ => .same
  · exact .refl s

theorem failSave_laser (s : State) : LaserKept s (failSave s) := by
  unfold failSave
  split
  · exact .refl s
  · rw [failFlash_eq]; exact .same

theorem imageTick_laser (s : State) : LaserKept s (imageTick s) :=
  .ite _ (fun _ => .ite _ (fun _ => failSave_laser s) fun _ => .same) fun _ => .refl s

theorem tick_laser (s : State) : LaserKept s (tick s) := by
  have hframe := (((idleTick_laser s).trans (startTick_laser _)).trans (lineWaitTick_laser _)).trans (facetTick_laser _)
  have hwarm := ((hframe.trans (warmTick_laser _ .red)).trans (warmTick_laser _ .grn)).trans (warmTick_laser _ .blu)
  exact (hwarm.trans (pullTick_laser _)).trans (imageTick_laser _)

theorem tickIfDue_laser (s : State) : LaserKept s (tickIfDue s) := .ite _ (fun _ => (tick_laser _).after) fun _ => .refl s

theorem periodEvents_laser (s : State) : LaserKept s (periodEvents s) :=
  ((completeIfDue_laser s).trans (openIfDue_laser _)).trans (tickIfDue_laser _)

theorem elapse_laser (fuel n : Nat) (s : State) : LaserKept s (elapse fuel n s) := by
  induction fuel generalizing n s with
  | zero => exact .same
  | succ fuel ih => exact .ite _ (fun _ => .same) fun _ => ((periodEvents_laser _).after).trans (ih _ _)

theorem pass_laser (n : Nat) (s : State) : LaserKept s (pass n s) := elapse_laser n n s

/-! ## The words of the port and the header that is taken -/

/-- The frame record changes, and not to EXPOSING. -/
theorem frame_laser {s t : State} (h : t.beams = { s.beams with frame := t.frame.state })
    (hframe : t.frame.state = .exposing → s.frame.state = .exposing) : LaserKept s t := fun k =>
  .congr (s := { s with frame := t.frame }) h ⟨k.dark, k.guarded, fun e => k.exposing (hframe e)⟩

theorem tellEnd_exposing {f : FrameCycle} (h : (tellEnd f).state = .exposing) : f.state = .exposing := by
  unfold tellEnd at h
  split at h
  · exact h
  · cases h
  · exact h

theorem endTold_laser (s : State) (isEnd : Bool) : LaserKept s (endTold s isEnd) :=
  .ite _ (fun _ => frame_laser rfl tellEnd_exposing) fun _ => .refl s

theorem takeFailure_laser (s : State) (withEnd : Bool) : LaserKept s (takeFailure s withEnd) := by
  have hrefuse : LaserKept s (refuseFormat s) := frame_laser rfl nofun
  exact hrefuse.trans (endTold_laser _ withEnd)

theorem deliver_laser (s : State) : LaserKept s (deliver s) := by
  rcases deliver_cases s with h | ⟨-, -, -, h⟩
  · rw [h]; exact .refl s
  · rw [h]; exact frame_laser rfl nofun

theorem headerFailed_laser (s : State) (isEnd : Bool) : LaserKept s (headerFailed s isEnd) :=
  .ite _ (fun _ => takeFailure_laser s isEnd) fun _ => .same

theorem framingError_laser (s : State) (next : PortState) (isEnd : Bool) : LaserKept s (framingError s next isEnd) := by
  refine .after (m := portError s) ?_
  unfold framingError
  dsimp only
  split
  · exact (headerFailed_laser _ _).after
  · exact .trans (.ite _ (fun _ => .refl _) fun _ => spoil_laser _ _) (endTold_laser _ _).after

theorem strayWord_laser (s : State) : LaserKept s (strayWord s) := .ite _ (fun _ => .same) fun _ => .same

theorem takeWord_laser (s : State) (start : WordStart) {handle : State → State} (h : ∀ s, LaserKept s (handle s)) :
    LaserKept s (takeWord s start handle) :=
  .ite _ (fun _ => .refl s) fun _ => .ite _ (fun _ => framingError_laser s _ _) fun _ => h s

theorem wordFrameStart_laser (s : State) : LaserKept s (wordFrameStart s) := by
  unfold wordFrameStart
  split
  · exact .same
  · exact .same
  · exact framingError_laser s _ _

theorem wordLineStart_laser (n : Word32) (s : State) : LaserKept s (wordLineStart n s) := by
  unfold wordLineStart
  dsimp only
  split
  · exact strayWord_laser s
  · exact .refl s
  · exact .ite _ (fun _ => .same) fun _ => framingError_laser s _ _
  · exact framingError_laser s _ _

theorem wordFrameEnd_laser (s : State) : LaserKept s (wordFrameEnd s) := by
  unfold wordFrameEnd
  dsimp only
  split
  · exact strayWord_laser s
  · exact frame_laser rfl tellEnd_exposing
  · exact .ite _ (fun _ => frame_laser rfl tellEnd_exposing) fun _ => framingError_laser s _ _
  · exact framingError_laser s _ _

theorem wordUndefined_laser (s : State) : LaserKept s (wordUndefined s) := by
  unfold wordUndefined
  split
  · exact strayWord_laser s
  · exact .refl s
  · exact framingError_laser s _ _

theorem lineReceived_laser (s : State) : LaserKept s (lineReceived s) := by
  unfold lineReceived
  dsimp only
  split
  · exact .ite _ (fun _ => .same) fun _ => .same
  · exact .same

theorem wordData_laser (w : Word32) (s : State) : LaserKept s (wordData w s) := by
  unfold wordData
  split
  · exact strayWord_laser s
  · exact .refl s
  · exact (deliver_laser _).after
  · exact framingError_laser s _ _
  · exact LaserKept.after (m := { s with port := storeWord s w }) (.ite _ (fun _ => lineReceived_laser _) fun _ => .refl _)

theorem headerCause_safe {s : State} {x : Setup} {h : Header} (hc : headerCause s x h = none) : s.transport.safeOpen = false := by
  unfold headerCause at hc
  dsimp only at hc
  by_contra hopen
  have hopen : s.transport.safeOpen = true := by simpa using hopen
  simp only [hopen, if_true] at hc
  repeat' split at hc
  all_goals cases hc

/-- The latch point wakes BIASED channels while SAFE is closed (R84, R147). -/
theorem latch_laser {s : State} (hsafe : s.transport.safeOpen = false) (i : Fin 8) (h : Header) : LaserKept s (latch s i h) := fun k => by
  have hopen : (latch s i h).transport.safeOpen = false := by simpa [latch] using hsafe
  have hdrives : (latch s i h).drives = s.drives := by simp [latch]
  refine ⟨fun e => ?_, fun c e => ⟨?_, hopen⟩, nofun⟩
  · rw [hopen] at e
    cases e
  · rw [latch_chan]
    exact atLatch_warm (k.guarded c (hdrives ▸ e)).1

theorem takeHeader_laser (s : State) (h : Header) : LaserKept s (takeHeader s h) := by
  simp only [takeHeader]
  split
  · exact frame_laser rfl nofun
  · next i _ =>
    split
    · exact frame_laser rfl nofun
    · next hc => exact (latch_laser (s := { s with port := s.port.accept h (s.setup i).config.format }) (headerCause_safe hc) i h).after

/-! ## The transport, the image memory and the resets -/

theorem advancePull_laser (s : State) : LaserKept s (advancePull s) := .same (by simp [State.beams, State.chan])

theorem startAdvance_laser (s : State) (n : Nat) : LaserKept s (startAdvance s n) :=
  .ite _ (fun _ => .same) fun _ => (advancePull_laser _).after

theorem advanceSeated_laser (s : State) : LaserKept s (advanceSeated s) := by
  unfold advanceSeated
  split
  · exact .ite _ (fun _ => .same) fun _ => advancePull_laser s
  · exact .refl s

theorem groupEnded_laser (s : State) (k : GroupKind) : LaserKept s (groupEnded s k) :=
  .same (by simp [State.beams, State.chan, (groupNotice_kept s.frame k).state])

theorem beginLoad_laser (s : State) : LaserKept s (beginLoad s) := by
  unfold beginLoad
  split <;> exact .same

theorem placeOptics_laser (s : State) (c : Option Corrections) : LaserKept s (placeOptics s c) := by
  unfold placeOptics
  split
  · exact .refl s
  · exact .ite _ (fun _ => (facetsChanged_laser _).after) fun _ => .same

theorem placeChannels_laser (s : State) (refs : Option (Rgb Nat)) : LaserKept s (placeChannels s refs) := by
  cases refs with
  | none => exact .refl s
  | some r =>
    have hstate : (fun c => ((placeChannels s (some r)).chan c).state) = fun c => (s.chan c).state := by
      funext c
      rw [placeChannels_chan, setReference_state]
    refine .same ?_
    simp only [State.beams, hstate]
    rfl

theorem placeLoadSet_laser (s : State) (set : LoadSet) : LaserKept s (placeLoadSet s set) := by
  have hplaced : LaserKept s (placeChannels (placeOptics (s.fill set) set.optics) set.channels) :=
    ((placeOptics_laser (s.fill set) _).trans (placeChannels_laser _ _)).after
  exact hplaced.trans .same

theorem execImageRecordRead_laser (s : State) : EndsIn (execImageRecordRead s) (LaserKept s) := by
  refine .next ?_
  split
  · exact .refl s
  · split
    · unfold readProfileRecord
      dsimp only
      split
      · exact .same
      · split <;> exact .same
    · exact .same
    · exact placeLoadSet_laser s _

/-- A state with every channel dark, every drive off and no frame EXPOSING is safe (R126, R148). -/
theorem LaserSafe.of_dark {s : State} (chan : ∀ c, (s.chan c).state = .dark) (drives : s.drives = ⟨.off, .off, .off⟩)
    (frame : s.frame.state ≠ .exposing) : LaserSafe s where
  dark _ c := by rw [chan]; rfl
  guarded c e := absurd (by rw [drives]; cases c <;> rfl) e
  exposing e := absurd e frame

theorem softReset_laser (s : State) : LaserSafe (softReset s) := by
  refine .of_dark (fun c => ?_) rfl ?_
  · rw [State.chan, softReset_chans, Rgb.get_map]; rfl
  · rw [softReset_frame]; exact nofun

theorem powerOn_laser (pins : ResetPins) (s : State) : LaserSafe (powerOn pins s) := .of_dark (fun c => by cases c <;> rfl) rfl nofun

end Sys2Proof.Machine
end

section
/-! Every command and every step keeps the laser safety (O51). -/

namespace Sys2Proof.Machine

-- one theorem after another, as in the tests: a checker's memory limit leaves no room for many threads at once
set_option Elab.async false

open Sys2Proof

/-! ## Answers -/

/-- An answer given after a change; without a proof given, the change is outside the laser safety. -/
theorem reply_laser {s u : State} {req : Instr} {st : Status} {body : List Byte} (h : LaserKept s u := by exact .same) :
    EndsIn (reply req u st body) (LaserKept s) := .next (h.trans .same)

theorem withChan_laser {s : State} {own : Chan → Answer} (req : Instr) (chan : Byte) (h : ∀ c, EndsIn (own c) (LaserKept s)) :
    EndsIn (withChan req s chan own) (LaserKept s) := by
  unfold withChan
  split
  · exact reply_laser
  · exact h _

theorem withProfile_laser {req : Instr} {s : State} {id : BitVec 16} {ok : Bool} {own : Profile → Answer}
    (h : ∀ p, EndsIn (own p) (LaserKept s)) : EndsIn (withProfile req s id ok own) (LaserKept s) :=
  withProfile_ends (fun _ => reply_laser) fun p _ _ _ => h p

theorem withOptics_laser {req : Instr} {s : State} {ok : Bool} {own : Answer} (h : EndsIn own (LaserKept s)) :
    EndsIn (withOptics req s ok own) (LaserKept s) := withOptics_ends (fun _ => reply_laser) h

/-! ## The control link, the queries and the records -/

theorem readOut_laser (s : State) (read : ReadTransfer) : LaserKept s (readOut s read) := .ite _ (fun _ => .same) fun _ => .same

theorem execRequestTransaction_laser (bytes : List Byte) (s : State) : EndsIn (execRequestTransaction bytes s) (LaserKept s) := by
  cases bytes with
  | nil => exact .next (.ite _ (fun _ => .same) fun _ => .refl s)
  | cons code rest => exact .next (.ite _ (fun _ => .same) fun _ => .ite _ (fun _ => readOut_laser s _) fun _ => .same)

theorem execRequestAnswered_laser (s : State) : EndsIn (execRequestAnswered s) (LaserKept s) := by
  refine .next ?_
  split
  · exact .same
  · exact .refl s

theorem execProfileQuery_laser (id : BitVec 16) (s : State) : EndsIn (execProfileQuery id s) (LaserKept s) := by
  refine .ite _ (fun _ => reply_laser) fun _ => ?_
  split <;> exact reply_laser

theorem execProfileReadCurve_laser (id : BitVec 16) (bank chan first count : Byte) (s : State) :
    EndsIn (execProfileReadCurve id bank chan first count s) (LaserKept s) := by
  simp only [execProfileReadCurve]
  split
  · refine .ite _ (fun _ => reply_laser) fun _ => ?_
    split
    · exact reply_laser
    · split <;> exact reply_laser
  · exact reply_laser

theorem execProfileEvaluate_laser (id : BitVec 16) (bank chan : Byte) (code position : BitVec 16) (facet : Byte) (s : State) :
    EndsIn (execProfileEvaluate id bank chan code position facet s) (LaserKept s) := by
  simp only [execProfileEvaluate]
  split
  · refine .ite _ (fun _ => reply_laser) fun _ => ?_
    split
    · exact reply_laser
    · split <;> exact reply_laser
  · exact reply_laser

theorem execOpticsRead_laser (bank part : Byte) (s : State) : EndsIn (execOpticsRead bank part s) (LaserKept s) := by
  simp only [execOpticsRead]
  split
  · exact reply_laser
  · split
    · exact reply_laser
    · split <;> exact reply_laser
  · exact reply_laser

theorem execSetupQuery_laser (slot : Byte) (s : State) : EndsIn (execSetupQuery slot s) (LaserKept s) := by
  simp only [execSetupQuery]
  split <;> exact reply_laser

theorem execProfilePutCurve_laser (id : BitVec 16) (chan : Byte) (knots : List (BitVec 16 × BitVec 16)) (s : State) :
    EndsIn (execProfilePutCurve id chan knots s) (LaserKept s) := by
  simp only [execProfilePutCurve]
  split
  · exact reply_laser
  · exact withProfile_laser fun _ => .ite _ (fun _ => reply_laser) fun _ => .ite _ (fun _ => reply_laser) fun _ => reply_laser

theorem execProfileCommit_laser (id : BitVec 16) (s : State) : EndsIn (execProfileCommit id s) (LaserKept s) := by
  refine withProfile_laser fun _ => ?_
  split
  · exact reply_laser
  · exact .ite _ (fun _ => reply_laser) fun _ => reply_laser

theorem execOpticsPutShading_laser (chan : Byte) (knots : Vector Byte 65) (s : State) :
    EndsIn (execOpticsPutShading chan knots s) (LaserKept s) := by
  simp only [execOpticsPutShading]
  split
  · exact reply_laser
  · exact withOptics_laser (.ite _ (fun _ => reply_laser) fun _ => reply_laser)

theorem execOpticsDiscard_laser (s : State) : EndsIn (execOpticsDiscard s) (LaserKept s) := by
  refine withOptics_laser ?_
  exact .ite _ (fun _ => reply_laser) fun _ => reply_laser

/-- A commit reaches the engine where F changes (R59). -/
theorem execOpticsCommit_laser (s : State) : EndsIn (execOpticsCommit s) (LaserKept s) := by
  refine withOptics_laser ?_
  split
  · exact reply_laser
  · refine .ite _ (fun _ => reply_laser) fun _ => reply_laser ?_
    exact .ite _ (fun _ => (facetsChanged_laser _).after) fun _ => .same

theorem execSetupWrite_laser (slot : Byte) (fields : SetupFields) (s : State) : EndsIn (execSetupWrite slot fields s) (LaserKept s) := by
  simp only [execSetupWrite]
  split
  · exact .ite _ (fun _ => reply_laser) fun _ => reply_laser
  · exact reply_laser

theorem execSetupArm_laser (slot : Byte) (s : State) : EndsIn (execSetupArm slot s) (LaserKept s) := by
  simp only [execSetupArm]
  split
  · exact reply_laser
  · refine .ite _ (fun _ => reply_laser) fun _ => ?_
    split
    · exact reply_laser
    · exact .ite _ (fun _ => reply_laser) fun _ => .ite _ (fun _ => reply_laser) fun _ => reply_laser

theorem execSetupDisarm_laser (slot : Byte) (s : State) : EndsIn (execSetupDisarm slot s) (LaserKept s) := by
  simp only [execSetupDisarm]
  split
  · exact reply_laser
  · exact .ite _ (fun _ => reply_laser) fun _ => .ite _ (fun _ => reply_laser) fun _ => reply_laser

/-! ## The engine and the frame cycle -/

theorem configured_laser (s : State) (cfg : EngineConfig) (changes : Prop) [Decidable changes] :
    LaserKept s (tickIfDue (if changes then periodFiguresChanged { s with engine := { s.engine with config := cfg } }
      else { s with engine := { s.engine with config := cfg } })) :=
  .trans (.ite _ (fun _ => (periodFiguresChanged_laser _).after) fun _ => .same) (tickIfDue_laser _)

theorem execEngineConfigure_laser (fields : EngineFields) (s : State) : EndsIn (execEngineConfigure fields s) (LaserKept s) := by
  unfold execEngineConfigure
  cases engineConfigOf fields with
  | none => exact reply_laser
  | some cfg =>
    refine .ite _ (fun _ => reply_laser) fun _ => ?_
    refine .ite _ (fun _ => reply_laser) fun _ => ?_
    exact reply_laser (configured_laser s cfg _)

theorem execLineComplete_laser (s : State) : EndsIn (execLineComplete s) (LaserKept s) := by
  refine .next ?_
  split
  · exact .refl s
  · exact pass_laser _ s

theorem execMonitorWindowOpen_laser (s : State) : EndsIn (execMonitorWindowOpen s) (LaserKept s) := by
  refine .next ?_
  split
  · exact pass_laser _ s
  · exact .refl s

theorem execHeaderTaken_laser (s : State) : EndsIn (execHeaderTaken s) (LaserKept s) := by
  refine .next ?_
  split
  · exact .refl s
  · exact .ite _ (fun _ => takeHeader_laser s _) fun _ => .refl s

theorem execHeaderFailureTaken_laser (s : State) : EndsIn (execHeaderFailureTaken s) (LaserKept s) := by
  refine .next ?_
  split
  · exact .refl s
  · exact .ite _ (fun _ => (takeFailure_laser _ _).after.trans (deliver_laser _)) fun _ => .refl s

theorem execStepGroupEnd_laser (s : State) : EndsIn (execStepGroupEnd s) (LaserKept s) := by
  refine .next ?_
  split
  · exact .refl s
  · exact (groupEnded_laser _ _).after

/-! ## The channels -/

/-- A channel is lit only while SAFE is closed (R141, R148), and one that was DARK or BIASED leaves no frame EXPOSING. -/
theorem warm_laser {s : State} {c : Chan} (target : Nat) (hsafe : s.transport.safeOpen = false) (h : (s.chan c).state ≠ .ready) :
    LaserKept s (s.setChan c ((s.chan c).warm target)) := fun k => by
  refine ⟨fun e => ?_, fun d e => ⟨?_, hsafe⟩, fun e => absurd ((k.exposing e).1 c) h⟩
  · rw [State.setChan_transport, hsafe] at e
    cases e
  · rw [State.setChan_chan]
    split
    · rfl
    · exact (k.guarded d e).1

theorem execChannelOn_laser (chan : Byte) (s : State) : EndsIn (execChannelOn chan s) (LaserKept s) := by
  refine withChan_laser _ _ fun c => .ite _ (fun _ => reply_laser) fun _ => .ite _ (fun _ => reply_laser) fun hsafe => ?_
  have hsafe : s.transport.safeOpen = false := Bool.eq_false_iff.2 hsafe
  split
  · next h => exact reply_laser (warm_laser _ hsafe (by rw [h]; decide))
  · next h => exact reply_laser (warm_laser _ hsafe (by rw [h]; decide))
  · exact reply_laser

/-- CHANNEL_BIAS is refused in EXPOSING (R142). -/
theorem execChannelBias_laser (chan : Byte) (s : State) : EndsIn (execChannelBias chan s) (LaserKept s) := by
  refine withChan_laser _ _ fun c => .ite _ (fun _ => reply_laser) fun hstate => ?_
  have hframe : (enterBiased s c).frame.state ≠ .exposing := by
    rw [enterBiased, dropSample_state]
    exact fun e => hstate (.inr e)
  split
  · next h => exact reply_laser ((enterBiased_darkens s c (by rw [h]; rfl)).landed hframe)
  · next h => exact reply_laser ((enterBiased_darkens s c (by rw [h]; rfl)).landed hframe)
  · exact reply_laser
  · exact reply_laser

theorem execChannelOff_laser (chan : Byte) (s : State) : EndsIn (execChannelOff chan s) (LaserKept s) := by
  refine withChan_laser _ _ fun c => ?_
  split
  · exact reply_laser
  · exact reply_laser
  · exact reply_laser (enterDark_laser s c)

theorem execChannelConfigure_laser (chan : Byte) (fields : ChannelFields) (delay : BitVec 16) (s : State) :
    EndsIn (execChannelConfigure chan fields delay s) (LaserKept s) := by
  refine withChan_laser _ _ fun c => ?_
  split
  · exact reply_laser
  · next cfg _ =>
    exact .ite _ (fun _ => reply_laser) fun _ =>
      reply_laser ((setChan_laser (s := s) (c := c) (x := (s.chan c).configure cfg) rfl).trans .same)

theorem execChannelSetReference_laser (chan : Byte) (value : BitVec 16) (s : State) :
    EndsIn (execChannelSetReference chan value s) (LaserKept s) :=
  withChan_laser _ _ fun _ => .ite _ (fun _ => reply_laser) fun _ => .ite _ (fun _ => reply_laser) fun _ =>
    reply_laser (setChan_laser (setReference_state _ _))

theorem execChannelCaptureReference_laser (chan : Byte) (s : State) : EndsIn (execChannelCaptureReference chan s) (LaserKept s) :=
  withChan_laser _ _ fun _ => .ite _ (fun _ => reply_laser) fun _ => .ite _ (fun _ => reply_laser) fun _ => reply_laser (setChan_laser rfl)

/-! ## The transport and the input lines -/

theorem execRollUnload_laser (s : State) : EndsIn (execRollUnload s) (LaserKept s) := by
  simp only [execRollUnload]
  split
  · exact reply_laser
  · exact .ite _ (fun _ => reply_laser) fun _ => reply_laser

theorem execRollAdvance_laser (frames : BitVec 16) (s : State) : EndsIn (execRollAdvance frames s) (LaserKept s) := by
  refine .ite _ (fun _ => reply_laser) fun _ => ?_
  split
  · exact reply_laser
  · exact .ite _ (fun _ => reply_laser) fun _ => .ite _ (fun _ => reply_laser) fun _ => .ite _ (fun _ => reply_laser) fun _ =>
      reply_laser (startAdvance_laser s _)

theorem execSeatedRise_laser (s : State) : EndsIn (execSeatedRise s) (LaserKept s) := by
  refine .next (.ite _ (fun _ => ?_) fun _ => (advanceSeated_laser _).after)
  let m : State := { s with
    transport := { s.transport with seated := true }, frame := { s.frame with state := .readying } }
  exact LaserKept.trans (t := m) (frame_laser rfl nofun) (testReady_laser m)

theorem execSeatedFall_laser (s : State) : EndsIn (execSeatedFall s) (LaserKept s) :=
  .next (.ite _ (fun _ => (spoil_laser _ _).after) fun _ => .same)

theorem execXportFaultAsserted_laser (s : State) : EndsIn (execXportFaultAsserted s) (LaserKept s) :=
  .next (.trans (.ite _ (fun _ => .same) fun _ => .same) (spoil_laser _ _))

/-- A channel that is lit goes to DARK, and no other is lit by it (R148). -/
theorem darkenIfLit_lit (s : State) (c d : Chan) : ((darkenIfLit s c).chan d).state.lit = true → (s.chan d).state.lit = true ∧ d ≠ c := by
  unfold darkenIfLit
  split
  · rw [darken, State.chan, dropSample_chans, ← State.chan, State.setChan_chan]
    split
    · exact nofun
    · next hne => exact fun e => ⟨e, hne⟩
  · next hdark => exact fun e => ⟨e, fun hd => hdark (hd ▸ e)⟩

theorem darkenIfLit_state (s : State) (c : Chan) : (darkenIfLit s c).frame.state = s.frame.state := by
  unfold darkenIfLit
  split
  · simp [darken]
  · rfl

/-- SAFE opens: the frame in flight is spoiled, every channel goes dark and every drive off (R148). -/
theorem execSafeOpen_laser (s : State) : EndsIn (execSafeOpen s) (LaserKept s) := by
  refine .next fun _ => ⟨fun _ c => ?_, fun c e => absurd (by cases c <;> rfl) e, fun e => ?_⟩
  · refine Bool.eq_false_iff.2 fun e => ?_
    obtain ⟨e, hblu⟩ := darkenIfLit_lit _ .blu c e
    obtain ⟨e, hgrn⟩ := darkenIfLit_lit _ .grn c e
    obtain ⟨-, hred⟩ := darkenIfLit_lit _ .red c e
    cases c
    · exact hred rfl
    · exact hgrn rfl
    · exact hblu rfl
  · rw [State.drivesOff_frame, darkenIfLit_state, darkenIfLit_state, darkenIfLit_state] at e
    exact absurd e (spoil_not_exposing _ _)

/-! ## The image memory -/

theorem issueOps_laser (s : State) (v : Save) (ops : List FlashOp) : LaserKept s (issueOps s v ops) := by
  cases ops with
  | nil => exact .refl s
  | cons op later => exact .same

/-- A save changes the flash and the image record alone (R179). -/
theorem saveNext_laser (s : State) (v : Save) : LaserKept s (saveNext s v) := by
  have hprofile (u : State) : LaserKept u (formProfile u v) := by
    unfold formProfile formOptics issueRecord
    split <;> exact issueOps_laser u _ _
  unfold saveNext formChannels formHeader issueRecord
  split
  · exact hprofile s
  · exact (hprofile (recordWritten s)).after
  · exact (issueOps_laser (recordWritten s) _ _).after
  · exact (issueOps_laser (recordWritten s) _ _).after
  · exact .same

theorem execFlashOperationDone_laser (s : State) : EndsIn (execFlashOperationDone s) (LaserKept s) := by
  refine .next ?_
  split
  · exact .refl s
  · dsimp only
    split
    · exact (saveNext_laser _ _).after
    · exact (issueOps_laser _ _ _).after

theorem execImageLoad_laser (s : State) : EndsIn (execImageLoad s) (LaserKept s) := by
  refine .ite _ (fun _ => reply_laser) fun _ => .ite _ (fun _ => reply_laser) fun _ => ?_
  split
  · exact reply_laser (beginLoad_laser s)
  · exact reply_laser (beginLoad_laser s)

/-! ## Every command and every step -/

theorem exec_laser (c : Instr) (s : State) : EndsIn (exec c s) (LaserKept s) := by
  cases c with
  | powerOnReset pins => exact .next (.ite _ (fun _ _ => beginLoad_laser _ (powerOn_laser pins s)) fun _ _ => powerOn_laser pins s)
  | softReset => exact reply_laser fun _ => softReset_laser s
  | requestTransaction bytes => exact execRequestTransaction_laser bytes s
  | readTransaction read => exact .next (readOut_laser s read)
  | requestAnswered => exact execRequestAnswered_laser s
  | identify => exact reply_laser
  | eventsRead => exact reply_laser
  | eventsClear mask => exact .ite _ (fun _ => reply_laser) fun _ => reply_laser
  | eventsEnable mask => exact .ite _ (fun _ => reply_laser) fun _ => reply_laser
  | profileCreate id label =>
    exact .ite _ (fun _ => reply_laser) fun _ => .ite _ (fun _ => reply_laser) fun _ => .ite _ (fun _ => reply_laser) fun _ =>
      .ite _ (fun _ => reply_laser) fun _ => reply_laser
  | profileStage id source =>
    exact withProfile_laser fun _ => .ite _ (fun _ => reply_laser) fun _ => .ite _ (fun _ => reply_laser) fun _ =>
      .ite _ (fun _ => reply_laser) fun _ => reply_laser
  | profilePutCurve id chan knots => exact execProfilePutCurve_laser id chan knots s
  | profilePutTerms id trims darks life label => exact withProfile_laser fun _ => .ite _ (fun _ => reply_laser) fun _ => reply_laser
  | profileCommit id => exact execProfileCommit_laser id s
  | profileDiscard id => exact withProfile_laser fun _ => .ite _ (fun _ => reply_laser) fun _ => reply_laser
  | profileRetire id =>
    exact withProfile_laser fun _ => .ite _ (fun _ => reply_laser) fun _ => .ite _ (fun _ => reply_laser) fun _ => reply_laser
  | profileList => exact reply_laser
  | profileQuery id => exact execProfileQuery_laser id s
  | profileReadCurve id bank chan first count => exact execProfileReadCurve_laser id bank chan first count s
  | profileEvaluate id bank chan code position facet => exact execProfileEvaluate_laser id bank chan code position facet s
  | opticsStage source =>
    exact withOptics_laser (.ite _ (fun _ => reply_laser) fun _ => .ite _ (fun _ => reply_laser) fun _ => reply_laser)
  | opticsPutFacets facets => exact withOptics_laser (.ite _ (fun _ => reply_laser) fun _ => reply_laser)
  | opticsPutShading chan knots => exact execOpticsPutShading_laser chan knots s
  | opticsCommit => exact execOpticsCommit_laser s
  | opticsDiscard => exact execOpticsDiscard_laser s
  | opticsRead bank part => exact execOpticsRead_laser bank part s
  | setupWrite slot fields => exact execSetupWrite_laser slot fields s
  | setupArm slot => exact execSetupArm_laser slot s
  | setupDisarm slot => exact execSetupDisarm_laser slot s
  | setupQuery slot => exact execSetupQuery_laser slot s
  | frameCancel => exact .ite _ (fun _ => reply_laser (spoil_laser s _)) fun _ => reply_laser
  | frameStatus => exact reply_laser
  | frameConfigure v => exact .ite _ (fun _ => reply_laser) fun _ => .ite _ (fun _ => reply_laser) fun _ => reply_laser
  | portConfigure lanes v => exact .ite _ (fun _ => reply_laser) fun _ => .ite _ (fun _ => reply_laser) fun _ => reply_laser
  | portStatus => exact reply_laser
  | engineConfigure fields => exact execEngineConfigure_laser fields s
  | engineQuery => exact reply_laser
  | channelOn chan => exact execChannelOn_laser chan s
  | channelBias chan => exact execChannelBias_laser chan s
  | channelOff chan => exact execChannelOff_laser chan s
  | channelClear chan =>
    exact withChan_laser _ _ fun c => .ite _ (fun _ => reply_laser (enterDark_laser s c)) fun _ => reply_laser
  | channelConfigure chan fields delay => exact execChannelConfigure_laser chan fields delay s
  | channelSetReference chan value => exact execChannelSetReference_laser chan value s
  | channelCaptureReference chan => exact execChannelCaptureReference_laser chan s
  | channelQuery chan => exact withChan_laser _ _ fun _ => reply_laser
  | rollLoad tag capacity lowMark => exact .ite _ (fun _ => reply_laser) fun _ => .ite _ (fun _ => reply_laser) fun _ => reply_laser
  | rollUnload => exact execRollUnload_laser s
  | rollAdvance frames => exact execRollAdvance_laser frames s
  | rollQuery => exact reply_laser
  | imageSave => exact .ite _ (fun _ => reply_laser) fun _ => reply_laser
  | imageLoad => exact execImageLoad_laser s
  | imageStatus => exact reply_laser
  | frameStart start => exact .next (takeWord_laser s start wordFrameStart_laser)
  | lineStart start number => exact .next (takeWord_laser s start (wordLineStart_laser number))
  | dataWord start payload => exact .next (takeWord_laser s start (wordData_laser payload))
  | frameEnd start => exact .next (takeWord_laser s start wordFrameEnd_laser)
  | undefinedTagWord start tagLow => exact .next (takeWord_laser s start wordUndefined_laser)
  | headerTaken => exact execHeaderTaken_laser s
  | headerFailureTaken => exact execHeaderFailureTaken_laser s
  | seatedRise => exact execSeatedRise_laser s
  | seatedFall => exact execSeatedFall_laser s
  | xportFaultAsserted => exact execXportFaultAsserted_laser s
  | xportFaultDeasserted => exact .next .same
  | safeOpen => exact execSafeOpen_laser s
  | safeClose => exact .next fun k => ⟨nofun, fun c e => ⟨(k.guarded c e).1, rfl⟩, k.exposing⟩
  | facet periods => exact .next ((pass_laser periods s).trans (takeFacet_laser _))
  | index => exact execIndex_laser s
  | lineComplete => exact execLineComplete_laser s
  | monitorWindowOpen => exact execMonitorWindowOpen_laser s
  | monitorReading chan reading => exact execMonitorReading_laser chan reading s
  | stepGroupEnd => exact execStepGroupEnd_laser s
  | millisecondTick => exact .next (pass_laser _ s)
  | startTimeout => exact .next (startTimeoutPassed_laser s)
  | lineWaitLimitPassed => exact .next (lineWaitPassed_laser s)
  | stall => exact .next (stallEngine_laser s)
  | warmTimeout chan => exact .next (warmTimeoutPassed_laser s chan)
  | autoBias => exact .next (.ite _ (fun h => autoBias_laser ((idleRuns_iff s).1 (Bool.and_eq_true_iff.1 h).1)) fun _ => .refl s)
  | advancePullTimeout => exact .next (pullTimeoutPassed_laser s)
  | flashOperationDone => exact execFlashOperationDone_laser s
  | imageOperationTimeout => exact .next (failSave_laser s)
  | imageRecordRead => exact execImageRecordRead_laser s

/-- Every step keeps the order: it is a command, or a REFCLK period. -/
theorem step_laser (s : State) : EndsIn (step s) (LaserKept s) := by
  unfold step
  split
  · next c rest _ => exact (exec_laser c { s with pending := rest }).imp fun _ h => h.after
  · split
    · exact exec_laser _ s
    · exact .next (pass_laser 1 s)

/-- Settles O51: the laser safety is kept by every command and by the passing of REFCLK periods. -/
theorem laserSafetyIsKept : Obligations.LaserSafetyIsKept := fun s t h e => step_laser s t e h

end Sys2Proof.Machine
end

section
/-! The words of the port outside a frame (O32) and within one (O33), READY, and the frame's and the port's settings (O31). -/

namespace Sys2Proof.Machine

-- one theorem after another, as in the tests: a checker's memory limit leaves no room for many threads at once
set_option Elab.async false

open Sys2Proof

/-! ## The settings of the frame cycle and the port -/

theorem frameCancel_idle {s : State} (h : s.inFlight = false) : exec .frameCancel s = .next (s.answer .frameCancel .state) := by
  show execFrameCancel s = _
  simp [execFrameCancel, h, reply]

section Configure

variable {s : State}

/-- FRAME_CONFIGURE with a start timeout in range: refused BUSY in flight, or replaced (R98). -/
theorem exec_frameConfigure {v : BitVec 16} (hv : v ≠ 0) : exec (.frameConfigure v) s =
    .next (if s.inFlight then s.answer (.frameConfigure v) .busy
      else State.answer { s with frame := { s.frame with startTimeout := v.toNat } } (.frameConfigure v) .ok) := by
  show execFrameConfigure v s = _
  simp only [execFrameConfigure, if_neg hv, reply]
  split <;> rfl

theorem exec_portConfigure_range {lanes : Byte} {v : BitVec 16} (h : lanes.toNat ∉ [1, 2, 4] ∨ v = 0) :
    exec (.portConfigure lanes v) s = .next (s.answer (.portConfigure lanes v) .range) := by
  have hbad : (!([1, 2, 4].contains lanes.toNat && v != 0)) = true := by
    rw [Bool.not_eq_true', Bool.and_eq_false_iff]
    exact h.imp (fun hl => Bool.eq_false_iff.2 fun e => hl (List.contains_iff_mem.1 e)) fun hv => by rw [hv]; rfl
  exact if_pos hbad

/-- PORT_CONFIGURE with both figures in range: refused BUSY in flight, or replaced (R116). -/
theorem exec_portConfigure {lanes : Byte} {v : BitVec 16} (hl : lanes.toNat ∈ [1, 2, 4]) (hv : v ≠ 0) : exec (.portConfigure lanes v) s =
    .next (if s.inFlight then s.answer (.portConfigure lanes v) .busy
      else State.answer { s with port := { s.port with lanes := lanes.toNat, lineWaitLimit := v.toNat } } (.portConfigure lanes v) .ok) := by
  have hgood : (!([1, 2, 4].contains lanes.toNat && v != 0)) = false := by
    rw [List.contains_iff_mem.2 hl]
    simpa using hv
  show execPortConfigure lanes v s = _
  simp only [execPortConfigure, hgood, Bool.false_eq_true, if_false, reply]
  cases s.inFlight <;> rfl

end Configure

/-- Settles O31: each request's checks in order. -/
theorem frameAndPortAreConfigured : Obligations.FrameAndPortAreConfigured := by
  refine fun s => ⟨frameCancel_idle, rfl, fun v hv => ⟨fun h => ?_, fun h => ?_⟩, fun lanes v =>
    ⟨exec_portConfigure_range, fun hl hv => ⟨fun h => ?_, fun h => ?_⟩⟩⟩
  · rw [exec_frameConfigure hv, h]; rfl
  · rw [exec_frameConfigure hv, h]; rfl
  · rw [exec_portConfigure hl hv, h]; rfl
  · rw [exec_portConfigure hl hv, h]; rfl

/-! ## Words outside a frame -/

theorem takeWord_beforeReset (s : State) (handle : State → State) : takeWord s .beforeReset handle = s := if_pos rfl

/-- Outside a header and a frame's lines no word is an overrun (R107). -/
theorem takeWord_uncounted {s : State} {start : WordStart} (hstart : start ≠ .beforeReset) (h : s.port.state.counted = false)
    (handle : State → State) : takeWord s start handle = handle s := by
  simp [takeWord, hstart, h]

/-- A stray word is counted, and the first of a run raises PORT_ERROR (R104). -/
theorem strayWord_eq (s : State) : strayWord s = { s with
    port := { s.port with strays := min 65535 (s.port.strays + 1), strayRun := true }
    events := if s.port.strayRun then s.events else (s.raise .portError).events } := by
  unfold strayWord
  cases h : s.port.strayRun <;> rfl

theorem tellEnd_eq_ended (f : FrameCycle) : tellEnd f = f.ended := rfl

section Outside

variable {s : State} {start : WordStart} (hstart : start ≠ .beforeReset)

include hstart

/-- A word handled by its kind where no word is an overrun. -/
theorem exec_word_uncounted (h : s.port.state.counted = false) (n w : Word32) (tag : BitVec 2) :
    exec (.frameStart start) s = .next (wordFrameStart s) ∧ exec (.lineStart start n) s = .next (wordLineStart n s) ∧
      exec (.dataWord start w) s = .next (wordData w s) ∧ exec (.frameEnd start) s = .next (wordFrameEnd s) ∧
      exec (.undefinedTagWord start tag) s = .next (wordUndefined s) :=
  ⟨congrArg _ (takeWord_uncounted hstart h _), congrArg _ (takeWord_uncounted hstart h _), congrArg _ (takeWord_uncounted hstart h _),
    congrArg _ (takeWord_uncounted hstart h _), congrArg _ (takeWord_uncounted hstart h _)⟩

/-- WAIT_FRAME (R104): a header is opened, and any other word is a stray. -/
theorem exec_word_waitFrame (h : s.port.state = .waitFrame) (n w : Word32) (tag : BitVec 2) :
    exec (.frameStart start) s = .next { s with port := { s.port with state := .header, words := [], strayRun := false } } ∧
      ∀ c ∈ [Instr.lineStart start n, .dataWord start w, .frameEnd start, .undefinedTagWord start tag], exec c s = .next (strayWord s) := by
  obtain ⟨hframe, hline, hdata, hend, hundefined⟩ := exec_word_uncounted hstart (by rw [h]; rfl) n w tag
  simp only [wordFrameStart, wordLineStart, wordData, wordFrameEnd, wordUndefined, h] at hframe hline hdata hend hundefined
  exact ⟨hframe, by simp [hline, hdata, hend, hundefined]⟩

/-- DRAIN (R93, R108): a header is opened, FRAME_END ends the drain, and any other word is discarded. -/
theorem exec_word_drain (h : s.port.state = .drain) (n w : Word32) (tag : BitVec 2) :
    exec (.frameStart start) s = .next { s with port := { s.port with state := .header, words := [] } } ∧
      exec (.frameEnd start) s = .next { s with port := { s.port with state := .waitFrame }, frame := s.frame.ended } ∧
      ∀ c ∈ [Instr.lineStart start n, .dataWord start w, .undefinedTagWord start tag], exec c s = .next s := by
  obtain ⟨hframe, hline, hdata, hend, hundefined⟩ := exec_word_uncounted hstart (by rw [h]; rfl) n w tag
  simp only [wordFrameStart, wordLineStart, wordData, wordFrameEnd, wordUndefined, h, tellEnd_eq_ended] at hframe hline hdata hend hundefined
  exact ⟨hframe, hend, by simp [hline, hdata, hundefined]⟩

end Outside

/-- Settles O32: each word by the port's state. -/
theorem wordsOutsideAFrame : Obligations.WordsOutsideAFrame := by
  refine fun s start n w tag => ⟨fun c hc => ?_, fun hstart h => ?_, fun hstart h => exec_word_drain hstart h n w tag⟩
  · simp only [wordsBegun, List.mem_cons, List.not_mem_nil, or_false] at hc
    rcases hc with rfl | rfl | rfl | rfl | rfl
    · exact congrArg _ (takeWord_beforeReset s wordFrameStart)
    · exact congrArg _ (takeWord_beforeReset s (wordLineStart n))
    · exact congrArg _ (takeWord_beforeReset s (wordData w))
    · exact congrArg _ (takeWord_beforeReset s wordFrameEnd)
    · exact congrArg _ (takeWord_beforeReset s wordUndefined)
  · obtain ⟨hframe, hstray⟩ := exec_word_waitFrame hstart h n w tag
    exact ⟨hframe, fun c hc => (hstray c hc).trans (congrArg _ (strayWord_eq s))⟩

/-! ## READY -/

theorem notEmptyOrFilling_iff (b : BufferState) : (b ≠ .filling ∧ b ≠ .empty) ↔ b ∈ [BufferState.full, .exposing] := by cases b <;> decide

/-- Condition 1 of R113: the next data word carries window pixels, and its line's buffer is held. -/
theorem readyHeldByBuffer_iff (s : State) : readyHeldByBuffer s = true ↔
    ∃ i, s.port.state = .inLine ∧ s.port.settled = false ∧ s.frame.slot = some i ∧
      carriesWindow (s.setup i).config s.port.format s.port.expected s.port.wordCount = true ∧
      (s.port.buf (s.port.expected - (s.setup i).config.y0)).state ∈ [BufferState.full, .exposing] := by
  unfold readyHeldByBuffer portWindow State.frameSetup
  cases hsettled : s.port.settled with
  | true => simp
  | false =>
    cases hslot : s.frame.slot with
    | none => simp
    | some i =>
      simp only [Bool.false_eq_true, if_false, Option.map_some, Port.buf_bufferOf, Bool.and_eq_true, beq_iff_eq, bne_iff_ne,
        ← notEmptyOrFilling_iff]
      constructor
      · rintro ⟨⟨⟨hline, hcarries⟩, hfilling⟩, hempty⟩
        exact ⟨i, hline, trivial, rfl, hcarries, hfilling, hempty⟩
      · rintro ⟨j, hline, -, hj, hcarries, hfilling, hempty⟩
        cases hj
        exact ⟨⟨⟨hline, hcarries⟩, hfilling⟩, hempty⟩

/-- Condition 2 of R113: a frame is SEATING or READYING, the port is within its lines, and both buffers are FULL. -/
theorem readyHeldBySeating_iff (s : State) : readyHeldBySeating s = true ↔
    s.frame.state ∈ [FrameState.seating, .readying] ∧ s.port.state ∈ [PortState.betweenLines, .inLine] ∧
      s.port.buf0.state = .full ∧ s.port.buf1.state = .full := by
  simp [readyHeldBySeating, Port.bothFull, and_assoc]

/-- READY is deasserted exactly while one of the three conditions of R113 holds. -/
theorem ready_eq_false_iff (s : State) : s.ready = false ↔
    readyHeldByBuffer s = true ∨ readyHeldBySeating s = true ∨ s.port.waiting ≠ none := by
  rw [State.ready, Bool.not_eq_false', Bool.or_eq_true, Bool.or_eq_true, Option.isSome_iff_ne_none, or_assoc]

/-- In HEADER with no header waiting READY is asserted (R113). -/
theorem ready_of_header {s : State} (h : s.port.state = .header) (hwaiting : s.port.waiting = none) : s.ready = true := by
  refine Bool.eq_true_of_not_eq_false fun e => ?_
  rcases (ready_eq_false_iff s).1 e with hheld | hheld | hheld
  · obtain ⟨i, hline, -⟩ := (readyHeldByBuffer_iff s).1 hheld
    rw [h] at hline
    cases hline
  · obtain ⟨-, hstate, -⟩ := (readyHeldBySeating_iff s).1 hheld
    rw [h] at hstate
    exact absurd hstate (by decide)
  · exact hheld hwaiting

/-! ## Words of a frame -/

/-- The fields of the three header words, by arithmetic (Table 6-1). -/
theorem headerOf_eq (w0 w1 w2 : Word32) : headerOf w0 w1 w2 =
    ⟨w0.toNat / 2 ^ 24, w0.toNat / 2 ^ 16 % 256, w1.toNat / 2 ^ 16, w1.toNat % 2 ^ 16, w2, w0.toNat % 2 ^ 16⟩ := by
  have h0 := w0.isLt
  have h1 := w1.isLt
  simp only [headerOf, BitVec.extractLsb'_toNat, Nat.shiftRight_eq_div_pow, Header.mk.injEq, Nat.pow_zero, Nat.div_one,
    true_and, and_true]
  refine ⟨Nat.mod_eq_of_lt ?_, Nat.mod_eq_of_lt ?_⟩ <;> omega

section HeaderWords

variable {s : State} (h : s.port.state = .header) (hwaiting : s.port.waiting = none)

include h hwaiting

theorem exec_headerWord (w : Word32) : exec (.dataWord .ready w) s = .next (deliver { s with port := headerWord s.port w }) := by
  show Host.Outcome.next (takeWord s .ready (wordData w)) = _
  rw [takeWord_ready (ready_of_header h hwaiting), wordData, h]

theorem headerWord_early {w : Word32} (hlength : s.port.words.length ≠ 2) :
    exec (.dataWord .ready w) s = .next { s with port := { s.port with words := w :: s.port.words } } := by
  have hword : headerWord s.port w = { s.port with words := w :: s.port.words } := by
    unfold headerWord
    split
    · next e => rw [e] at hlength; exact absurd rfl hlength
    · rfl
  rw [exec_headerWord h hwaiting, hword]
  exact congrArg _ (if_neg (by simp [hwaiting]))

/-- The third header word makes the header that waits, and its delivery ends a drain that no held failure stands before (R83, R105). -/
theorem headerWord_third {w w0 w1 : Word32} (hwords : s.port.words = [w1, w0]) :
    exec (.dataWord .ready w) s = .next (deliver { s with port := { s.port with words := [], waiting := some (headerOf w0 w1 w) } }) := by
  rw [exec_headerWord h hwaiting, headerWord, hwords]

end HeaderWords

/-- A delivered header ends the drain, unless a held failure stands before it (R83, R107). -/
theorem deliver_ends {s : State} {x : Header} (hwaiting : s.port.waiting = some x) (hstate : s.frame.state = .draining)
    (hfailures : s.frame.failures = []) : deliver s = { s with frame := { s.frame with state := .idle, endSeen := false } } := by
  simp [deliver, hwaiting, hstate, hfailures]

theorem deliver_waits {s : State} (h : s.frame.state ≠ .draining ∨ s.frame.failures ≠ []) : deliver s = s := by
  rcases deliver_cases s with e | ⟨-, hfailures, hstate, -⟩
  · exact e
  · exact (h.elim (absurd hstate) (absurd hfailures))

/-- Settles O33: the three header words, LINE_START and FRAME_END in their places, and READY. -/
theorem wordsOfAFrame : Obligations.WordsOfAFrame := by
  refine ⟨fun s w h hwaiting => ⟨headerWord_early h hwaiting, fun w0 w1 hwords => ?_⟩,
    fun s n h hready => ⟨fun hn hlines => ?_, fun hlines => ?_⟩,
    fun s => ?_⟩
  · rw [headerWord_third h hwaiting hwords, headerOf_eq]
    exact ⟨fun ⟨hstate, hfailures⟩ => congrArg _ (deliver_ends rfl hstate hfailures), fun hnot => congrArg _ (deliver_waits hnot)⟩
  · show Host.Outcome.next (takeWord s .ready (wordLineStart n)) = _
    rw [takeWord_ready hready]
    simp only [wordLineStart, h, hn, hlines, and_self, if_true]
  · show Host.Outcome.next (takeWord s .ready wordFrameEnd) = _
    rw [takeWord_ready hready]
    simp only [wordFrameEnd, h, hlines, if_true]
    rfl
  · rw [ready_eq_false_iff, readyHeldByBuffer_iff, readyHeldBySeating_iff]

end Sys2Proof.Machine
end

section
/-! FRAME_SPOIL (R94, R95): the event flags over the shared operations, what a spoil reads of the frame in flight, what it leaves, and the
changes before and after it that its cause brings with it. -/

namespace Sys2Proof.Machine

-- one theorem after another, as in the tests: a checker's memory limit leaves no room for many threads at once
set_option Elab.async false

open Sys2Proof

/-! ## The event flags -/

theorem FlagsKept.trans {u v w : Events} (h : FlagsKept u v) (k : FlagsKept v w) : FlagsKept u w := fun n hn => k n (h n hn)

theorem raise_flagsKept (v : Events) (e : Event) : FlagsKept v (v.raise e) := fun k h => by rw [raise_flag, h]; rfl

theorem raise_flag_self (v : Events) (e : Event) : (v.raise e).flags.getLsbD e.bit = true := by simp [raise_flag]

/-- The LOCK_LOST flag of a state. -/
def State.lockFlag (s : State) : Bool := s.events.flags.getLsbD Event.lockLost.bit

/-- No flag is cleared, and LOCK_LOST is not raised. -/
structure FlagsRise (s t : State) : Prop where
  kept : FlagsKept s.events t.events
  lock : t.lockFlag = s.lockFlag

theorem FlagsRise.trans {s t u : State} (h : FlagsRise s t) (k : FlagsRise t u) : FlagsRise s u := ⟨h.kept.trans k.kept, k.lock.trans h.lock⟩

theorem FlagsRise.same {s t : State} (h : t.events = s.events := by rfl) : FlagsRise s t :=
  ⟨by rw [h]; exact .refl _, by rw [State.lockFlag, h]; rfl⟩

theorem FlagsRise.refl (s : State) : FlagsRise s s := .same

theorem FlagsRise.after {s m t : State} (h : FlagsRise m t) (events : m.events = s.events := by rfl) : FlagsRise s t := .trans (.same events) h

theorem FlagsRise.ite {s t u : State} (c : Prop) [Decidable c] (ht : c → FlagsRise s t) (hu : ¬c → FlagsRise s u) :
    FlagsRise s (if c then t else u) := by
  split
  · exact ht ‹_›
  · exact hu ‹_›

theorem raise_rise (s : State) {e : Event} (h : e ≠ .lockLost) : FlagsRise s (s.raise e) where
  kept := raise_flagsKept s.events e
  lock := by
    have hbit : Event.lockLost.bit ≠ e.bit := by
      cases e with
      | lockLost => exact absurd rfl h
      | _ => decide
    rw [State.lockFlag, State.raise_events, raise_flag, decide_eq_false hbit, Bool.or_false]
    rfl

theorem issuePull_rise (s : State) : FlagsRise s (issuePull s) where
  kept := issuePull_flagsKept s
  lock := by
    cases h : s.transport.roll with
    | none => rw [issuePull_none h]
    | some r => rw [State.lockFlag, issuePull_flags h]; simp [State.lockFlag, Event.bit]

theorem advancePull_rise (s : State) : FlagsRise s (advancePull s) := by
  unfold advancePull
  split
  · exact .refl s
  · exact (issuePull_rise s).trans .same

theorem groupEnded_rise (s : State) (k : GroupKind) : FlagsRise s (groupEnded s k) := by
  rcases resumeAdvance_cases { s with frame := groupNotice s.frame k } with h | ⟨n, l, -, h⟩
  · rw [groupEnded, h]; exact .same
  · rw [groupEnded, h]; exact (advancePull_rise _).after

theorem beginGroup_rise (s : State) (k : GroupKind) (n : Nat) : FlagsRise s (beginGroup s k n) :=
  .ite _ (fun _ => groupEnded_rise s k) fun _ => .same

theorem windowPassed_rise (s : State) : FlagsRise s (windowPassed s) := by
  unfold windowPassed
  split
  · exact .refl s
  · exact (beginGroup_rise _ _ _).after

theorem endWindow_rise (s : State) : FlagsRise s (endWindow s) := by
  by_cases h : s.engine.window = .none
  · rw [endWindow_of_none h]; exact .refl s
  · rw [endWindow_eq h]
    exact .ite _ (fun _ => (windowPassed_rise (dropWindow s)).after) fun _ => .same

/-- What a reading dropped does (R126, R127): the drive goes off, the open window loses the reading, and it ends where that was the last. -/
theorem dropSample_cases (s : State) (c : Chan) :
    dropSample s c = s.setDrive c .off ∨
    ∃ k line toRead left, s.engine.window = .opened k line toRead ∧
      (dropSample s c = { s.setDrive c .off with engine := { s.engine with window := .opened k line left } } ∨
        dropSample s c = endWindow { s.setDrive c .off with engine := { s.engine with window := .opened k line left } }) := by
  unfold dropSample
  dsimp only [State.setDrive_engine]
  split
  · next k line toRead hw =>
    split
    · refine .inr ⟨k, line, toRead, toRead.erase c, hw, ?_⟩
      split
      · exact .inr rfl
      · exact .inl rfl
    · exact .inl rfl
  · exact .inl rfl

theorem dropSample_rise (s : State) (c : Chan) : FlagsRise s (dropSample s c) := by
  rcases dropSample_cases s c with h | ⟨k, line, toRead, left, -, h | h⟩
  · rw [h]; exact .same
  · rw [h]; exact .same
  · rw [h]; exact (endWindow_rise _).after

@[simp] theorem returnPins_events (s : State) : (returnPins s false).events = s.events := by
  unfold returnPins
  cases h : s.frame.latched <;> simp [h]

/-- FRAME_DONE is the one event of a spoil beside those of the window's end (R95). -/
theorem spoil_events {s : State} (c : Cause) (h : s.inFlight = true) :
    (spoil s c).events = (endWindow (State.drivesOff { s with line := none })).events.raise .frameDone := by
  simp [spoil, h]

theorem spoil_rise (s : State) (c : Cause) : FlagsRise s (spoil s c) := by
  cases h : s.inFlight with
  | false => rw [spoil_of_idle h]; exact .refl s
  | true =>
    have hend : FlagsRise s ((endWindow (State.drivesOff { s with line := none })).raise .frameDone) :=
      ((endWindow_rise _).after).trans (raise_rise _ (by decide))
    exact hend.trans (.same (spoil_events c h))

/-- CHANNEL_FAULT is raised (R140). -/
theorem enterFault_flag (s : State) (c : Chan) (x : FaultCause) :
    (enterFault s c x).events.flags.getLsbD Event.channelFault.bit = true :=
  (spoil_rise _ _).kept _ (raise_flag_self _ _)

/-- The engine leaves LOCKED: LOCK_LOST is raised and no flag is cleared (R123). -/
theorem leaveLocked_flags (s : State) (next : EngineState) :
    FlagsKept s.events (leaveLocked s next).events ∧ (leaveLocked s next).lockFlag = true := by
  let r := State.raise { s with engine := { s.engine with state := next, good := 0 } } .lockLost
  have hspoil : FlagsRise r (if r.frame.state = .exposing then spoil r .sync else r) :=
    .ite _ (fun _ => spoil_rise r .sync) fun _ => .refl r
  have hrest : FlagsRise r (leaveLocked s next) := hspoil.trans (endWindow_rise _).after
  exact ⟨(raise_flagsKept s.events _).trans hrest.kept, hrest.lock.trans (raise_flag_self s.events _)⟩

/-! ## What a spoil reads of the frame in flight -/

/-- What FRAME_SPOIL reads of the state: of the STEP groups, what the end of the window leaves of them (R85, R95). -/
structure Flight where
  flying : Bool
  endSeen : Bool
  slot : Option (Fin 8)
  tag : Option Word32
  latched : Option Latched
  group : Option StepGroup
  pending : Option Nat
  advance : Option Advance
  port : PortState
  optics : Optics
  profiles : List Profile
  setups : Vector Setup 8
  delay : Nat

/-- The fields of `Flight` as they stand in a state. -/
def State.flight (s : State) : Flight where
  flying := s.inFlight
  endSeen := s.frame.endSeen
  slot := s.frame.slot
  tag := s.frame.tag
  latched := s.frame.latched
  group := (s.transport.noticed s.engine.window.carriesLine s.frame.pendingGroup).group
  pending := if s.engine.window.carriesLine then none else s.frame.pendingGroup
  advance := s.transport.advance
  port := s.port.state
  optics := s.optics
  profiles := s.profiles
  setups := s.setups
  delay := s.idle.delay

/-- A change that leaves the frame to be spoiled as it was, where no advance waits for a group. -/
def FlightKept (s u : State) : Prop := s.transport.advance = none → u.flight = s.flight

theorem FlightKept.trans {s t u : State} (h : FlightKept s t) (k : FlightKept t u) : FlightKept s u := fun ha =>
  (k ((congrArg Flight.advance (h ha)).trans ha)).trans (h ha)

theorem FlightKept.same {s u : State} (h : u.flight = s.flight := by rfl) : FlightKept s u := fun _ => h

theorem FlightKept.refl (s : State) : FlightKept s s := .same

theorem FlightKept.after {s m u : State} (h : FlightKept m u) (flight : m.flight = s.flight := by rfl) : FlightKept s u := .trans (.same flight) h

theorem noticed_false (t : Transport) (pending : Option Nat) : t.noticed false pending = t := rfl

/-- The end of the window tells the frame cycle before the spoil what the spoil would tell it (R85, R95). -/
theorem endWindow_flight (s : State) : FlightKept s (endWindow s) := fun ha => by
  have hkept := endWindow_kept s
  have htransport := endWindow_transport ha
  have hadvance : (endWindow s).transport.advance = s.transport.advance := by rw [htransport, noticed_roll]
  simp only [State.flight, endWindow_inFlight, hkept.endSeen, hkept.slot, hkept.tag, hkept.latched, endWindow_engine, Window.carriesLine,
    noticed_false, htransport, endWindow_pendingGroup, endWindow_port, endWindow_optics, endWindow_profiles, endWindow_setups, endWindow_idle]
  rw [noticed_roll]
  simp

theorem dropSample_flight (s : State) (c : Chan) : FlightKept s (dropSample s c) := by
  rcases dropSample_cases s c with h | ⟨k, line, toRead, left, hw, h | h⟩
  · rw [h]; exact .same
  · rw [h]; exact .same (by simp only [State.flight, hw]; rfl)
  · rw [h]; exact (endWindow_flight _).after (by simp only [State.flight, hw]; rfl)

/-! ## What a spoil leaves -/

theorem spoil_drives {s : State} (c : Cause) (h : s.inFlight = true) : (spoil s c).drives = ⟨.off, .off, .off⟩ := by
  simp only [spoil, h, if_true, leaveFlight_drives, State.raise_drives, chargeFrame_drives, returnPins_drives]
  exact endWindow_drivesOff_drives _

theorem spoil_setup_other {s : State} (c : Cause) {i j : Fin 8} (h : s.inFlight = true) (hi : s.frame.slot = some i) (hj : j ≠ i) :
    (spoil s c).setup j = s.setup j := by
  let dark := State.drivesOff { s with line := none }
  let r := { returnPins (endWindow dark) false with port := spoilPort (returnPins (endWindow dark) false).port }
  have hslot : r.frame.slot = some i := by
    rw [show r.frame = (endWindow dark).frame from returnPins_frame _ _, (endWindow_kept dark).slot]
    exact hi
  have hsetups : (spoil s c).setups = (chargeFrame r .spoiled (some c)).setups := by simp [spoil, h, r, dark]
  have hsetup : r.setup j = s.setup j := by simp [r, dark, State.setup]
  rw [State.setup, hsetups, ← State.setup, ← hsetup]
  unfold chargeFrame
  split
  · next k _ _ hk _ _ =>
    rw [hslot] at hk
    cases hk
    rw [State.setSetup_setup, if_neg hj]
  · rfl

theorem spoilPort_state (p : Port) : (spoilPort p).state = if p.state = .betweenLines ∨ p.state = .inLine then .drain else p.state := by
  unfold spoilPort
  dsimp only
  cases h : p.state <;> simp [h, Port.flush]

theorem spoilPort_bufs (p : Port) : (spoilPort p).buf0 = .cleared ∧ (spoilPort p).buf1 = .cleared := by
  unfold spoilPort
  dsimp only
  split <;> exact ⟨rfl, rfl⟩

/-- What a spoil leaves of the record of the pinned profile (R18, R95). -/
theorem spoil_profile {s : State} {l : Latched} (c : Cause) (hs : idsAscend s.profiles) (h : s.inFlight = true) (hl : s.frame.latched = some l) :
    (∀ j, j ≠ l.profileId → (spoil s c).profile j = s.profile j) ∧ ∀ p, s.profile l.profileId = some p →
      (spoil s c).profile l.profileId = if p.state = .retiring then none else some { p with pinned := none } := by
  have hprofiles : (spoil s c).profiles = returnProfilePin s.profiles l.profileId false := by
    rw [spoil_profiles h, returnPins_profiles, hl]
  simp only [State.profile_eq, hprofiles]
  refine ⟨fun j hj => lookup_returnProfilePin_ne hj false, fun p hp => ?_⟩
  split
  · next hr => exact lookup_returnProfilePin_retiring hs hp hr false
  · next hr => exact lookup_returnProfilePin_some hs hp hr false

/-- A spoil leaves the frame of `s` as R95 states, from any state in which that frame stands as in `s`. -/
theorem Spoiled.of_flight {s u : State} (hs : RecordsSound s) (hstep : StepSound s) (hflight : s.inFlight = true) (h : FlightKept s u)
    (c : Cause) : Spoiled s (spoil u c) c false := by
  obtain ⟨hadvance, -⟩ := hstep.alone hflight
  have hview := h hadvance
  simp only [State.flight, Flight.mk.injEq] at hview
  obtain ⟨hflying, hend, hslot, htag, hlatched, hgroup, hpending, hadv, hport, hoptics, hprofiles, hsetups, hdelay⟩ := hview
  have hfly : u.inFlight = true := hflying.trans hflight
  have hleft : (if s.engine.window.carriesLine then none else s.frame.pendingGroup) = none := by
    cases hp : s.frame.pendingGroup with
    | none => simp
    | some n => rw [if_pos (hstep.pending (by rw [hp]; rfl)).1]
  have htransport := spoil_transport (c := c) hfly (hadv.trans hadvance)
  have hprofile (j : Nat) : u.profile j = s.profile j := by rw [State.profile_eq, hprofiles]; rfl
  have hsetup (j : Fin 8) : u.setup j = s.setup j := by rw [State.setup, hsetups]; rfl
  exact {
    state := by rw [spoil_state hfly, hend, Bool.or_false]
    result := spoil_result hfly
    line := spoil_line hfly
    drives := spoil_drives c hfly
    window := by rw [spoil_engine hfly]
    group := by rw [spoil_pendingGroup hfly, hpending, hleft]
    groupBegins := fun n hn hpos => by
      obtain ⟨m, rfl⟩ := Nat.exists_eq_succ_of_ne_zero hpos
      rw [htransport, hgroup, hn, (hstep.pending (by rw [hn]; rfl)).1]
      rfl
    groupKept := fun hn => by
      rw [htransport, hgroup, hn]
      cases s.engine.window.carriesLine <;> rfl
    port := fun _ => by rw [spoil_port hfly, spoilPort_state, hport]
    buffers := by rw [spoil_port hfly]; exact spoilPort_bufs u.port
    optics := by rw [spoil_optics hfly, hoptics]
    profiles := fun l hl => by
      have hpins := spoil_profile c (hprofiles ▸ hs.table.ascend) hfly (hlatched.trans hl)
      simp only [hprofile] at hpins
      exact hpins
    report := fun i tag l hi ht hl => by
      refine ⟨?_, fun j hj => (spoil_setup_other c hfly (hslot.trans hi) hj).trans (hsetup j)⟩
      rw [spoil_setup hfly (hslot.trans hi) (htag.trans ht) (hlatched.trans hl), hsetup]
      rfl
    event := by
      rw [spoil_events c hfly]
      exact raise_flag_self _ _
    idleTimer := by
      rw [spoil_idle hfly]
      exact congrArg (fun d => (⟨d, 0, 0⟩ : IdleBias)) hdelay }

/-! ## After a spoil -/

/-- What `Spoiled` reads of the state after the spoil, with the two timers of the frame in flight. -/
structure Landing where
  state : FrameState
  result : Option Result
  cause : Option Cause
  startTimer : Nat
  lineWait : Nat
  pending : Option Nat
  line : Option LineContext
  drives : Rgb Drive
  window : Window
  group : Option StepGroup
  port : PortState
  buffers : LineBuffer × LineBuffer
  optics : Optics
  profiles : List Profile
  setups : Vector Setup 8
  idle : IdleBias

/-- The fields of `Landing` as they stand in a state. -/
def State.landing (s : State) : Landing where
  state := s.frame.state
  result := s.frame.result
  cause := s.frame.cause
  startTimer := s.frame.startTimer
  lineWait := s.frame.lineWait
  pending := s.frame.pendingGroup
  line := s.line
  drives := s.drives
  window := s.engine.window
  group := s.transport.group
  port := s.port.state
  buffers := (s.port.buf0, s.port.buf1)
  optics := s.optics
  profiles := s.profiles
  setups := s.setups
  idle := s.idle

/-- A change that leaves a spoiled frame alone: with no frame in flight, no window and every drive off, the fields of `Landing` stay, and no
flag is cleared. -/
structure Rests (s t : State) : Prop where
  landing : s.inFlight = false → s.engine.window = .none → s.drives = ⟨.off, .off, .off⟩ → t.landing = s.landing
  flags : FlagsKept s.events t.events

theorem Rests.trans {s t u : State} (h : Rests s t) (k : Rests t u) : Rests s u where
  landing hflight hwindow hdrives := by
    have hland := h.landing hflight hwindow hdrives
    have hflight' : t.inFlight = false := by
      rw [State.inFlight, show t.frame.state = s.frame.state from congrArg Landing.state hland]
      exact hflight
    exact (k.landing hflight' ((congrArg Landing.window hland).trans hwindow) ((congrArg Landing.drives hland).trans hdrives)).trans hland
  flags := h.flags.trans k.flags

theorem Rests.same {s t : State} (h : t.landing = s.landing := by rfl) (events : FlagsKept s.events t.events := by exact .refl _) :
    Rests s t := ⟨fun _ _ _ => h, events⟩

theorem Rests.refl (s : State) : Rests s s := .same

theorem Rests.after {s m t : State} (h : Rests m t) (landing : m.landing = s.landing := by rfl)
    (events : FlagsKept s.events m.events := by exact .refl _) : Rests s t := .trans (.same landing events) h

theorem Rests.ite {s t u : State} (c : Prop) [Decidable c] (ht : c → Rests s t) (hu : ¬c → Rests s u) : Rests s (if c then t else u) := by
  split
  · exact ht ‹_›
  · exact hu ‹_›

/-- A frame spoiled stays as it was spoiled. -/
theorem Spoiled.rests {s m t : State} {c : Cause} {ended : Bool} (h : Spoiled s m c ended) (k : Rests m t) : Spoiled s t c ended := by
  have hflight : m.inFlight = false := by
    rw [State.inFlight, h.state]
    split <;> rfl
  have hland := k.landing hflight h.window h.drives
  simp only [State.landing, Landing.mk.injEq, Prod.mk.injEq] at hland
  obtain ⟨hstate, hresult, hcause, -, -, hpending, hline, hdrives, hwindow, hgroup, hport, ⟨hbuf0, hbuf1⟩, hoptics, hprofiles, hsetups,
    hidle⟩ := hland
  have hprofile (j : Nat) : t.profile j = m.profile j := by rw [State.profile_eq, hprofiles]; rfl
  have hsetup (j : Fin 8) : t.setup j = m.setup j := by rw [State.setup, hsetups]; rfl
  exact {
    state := hstate.trans h.state
    result := ⟨hresult.trans h.result.1, hcause.trans h.result.2⟩
    line := hline.trans h.line
    drives := hdrives.trans h.drives
    window := hwindow.trans h.window
    group := hpending.trans h.group
    groupBegins := fun n hn hpos => hgroup.trans (h.groupBegins n hn hpos)
    groupKept := fun hn => hgroup.trans (h.groupKept hn)
    port := fun hc => hport.trans (h.port hc)
    buffers := ⟨hbuf0.trans h.buffers.1, hbuf1.trans h.buffers.2⟩
    optics := hoptics.trans h.optics
    profiles := fun l hl => by simp only [hprofile]; exact h.profiles l hl
    report := fun i tag l hi ht hl => by simp only [hsetup]; exact h.report i tag l hi ht hl
    event := k.flags 0 h.event
    idleTimer := hidle.trans h.idleTimer }

theorem endWindow_rests (s : State) : Rests s (endWindow s) :=
  ⟨fun _ hwindow _ => by rw [endWindow_of_none hwindow], (endWindow_rise s).kept⟩

theorem spoil_rests (s : State) (c : Cause) : Rests s (spoil s c) :=
  ⟨fun hflight _ _ => by rw [spoil_of_idle hflight], (spoil_rise s c).kept⟩

/-- With no window and every drive off a channel leaves WARMING and READY for nothing more (R126). -/
theorem dropSample_rests (s : State) (c : Chan) : Rests s (dropSample s c) := by
  refine ⟨fun _ hwindow hdrives => ?_, (dropSample_rise s c).kept⟩
  rcases dropSample_cases s c with h | ⟨k, line, toRead, left, hw, -⟩
  · have hoff : s.drives.set c .off = s.drives := by rw [hdrives]; cases c <;> rfl
    rw [h]
    simp only [State.landing, State.setDrive_drives, hoff]
    rfl
  · rw [hwindow] at hw
    cases hw

theorem darken_rests (s : State) (c : Chan) : Rests s (darken s c) := (dropSample_rests _ c).after

theorem darkenIfLit_rests (s : State) (c : Chan) : Rests s (darkenIfLit s c) := .ite _ (fun _ => darken_rests s c) fun _ => .refl s

theorem enterFault_rests (s : State) (c : Chan) (x : FaultCause) : Rests s (enterFault s c x) := by
  let dropped := dropSample (s.setChan c { (s.chan c).dropCapture with state := .fault, faultCause := some x }) c
  have hdrop : Rests s dropped := (dropSample_rests _ c).after
  have hspoil : Rests (dropped.raise .channelFault) (enterFault s c x) := spoil_rests _ _
  exact hdrop.trans (hspoil.after rfl (raise_flagsKept _ _))

theorem drivesOff_rests (s : State) : Rests s s.drivesOff := ⟨fun _ _ hdrives => by simp only [State.landing, hdrives]; rfl, .refl _⟩

theorem leaveLocked_rests (s : State) (next : EngineState) : Rests s (leaveLocked s next) := by
  let r := State.raise { s with engine := { s.engine with state := next, good := 0 } } .lockLost
  have hspoil : Rests r (if r.frame.state = .exposing then spoil r .sync else r) := .ite _ (fun _ => spoil_rests r .sync) fun _ => .refl r
  exact (hspoil.trans ((drivesOff_rests _).trans (endWindow_rests _))).after rfl (raise_flagsKept _ _)

theorem stallEngine_rests (s : State) : Rests s (stallEngine s) := by
  unfold stallEngine
  split
  · exact .refl s
  · exact .same
  · exact (leaveLocked_rests _ _).after

/-- A frame in EXPOSING is spoiled with cause SYNC as the engine leaves LOCKED (R94, R123). -/
theorem leaveLocked_spoiled {s u : State} (hs : RecordsSound s) (hstep : StepSound s) (hexposing : s.frame.state = .exposing)
    (next : EngineState) (h : FlightKept s u) (hframe : u.frame.state = s.frame.state) : Spoiled s (leaveLocked u next) .sync false := by
  let r := State.raise { u with engine := { u.engine with state := next, good := 0 } } .lockLost
  have hr : r.frame.state = .exposing := hframe.trans hexposing
  have hspoiled : Spoiled s (spoil r .sync) .sync false := .of_flight hs hstep (inFlight_of_exposing hexposing) (h.trans .same) .sync
  have hleave : leaveLocked u next = endWindow (spoil r .sync).drivesOff := by
    show endWindow (State.drivesOff (if r.frame.state = .exposing then spoil r .sync else r)) = _
    rw [if_pos hr]
  rw [hleave]
  exact hspoiled.rests ((drivesOff_rests _).trans (endWindow_rests _))

/-- A channel's fault spoils the frame in flight with cause CHANNEL (R94, R140). -/
theorem enterFault_spoiled {s u : State} (hs : RecordsSound s) (hstep : StepSound s) (hflight : s.inFlight = true) (h : FlightKept s u)
    (c : Chan) (x : FaultCause) : Spoiled s (enterFault u c x) .channel false :=
  .of_flight hs hstep hflight (h.trans (((dropSample_flight _ c).trans .same).after)) .channel

theorem enterDark_spoiled {s : State} (hs : RecordsSound s) (hstep : StepSound s) (hflight : s.inFlight = true) (c : Chan) :
    Spoiled s (enterDark s c) .channel false :=
  .of_flight hs hstep hflight ((dropSample_flight _ c).after) .channel

end Sys2Proof.Machine
end

section
/-! The events that spoil the frame in flight (O28), and a framing error (O36). -/

namespace Sys2Proof.Machine

-- one theorem after another, as in the tests: a checker's memory limit leaves no room for many threads at once
set_option Elab.async false

open Sys2Proof

/-! ## The events of Table 5-4 -/

/-- A spoil moves nothing of the transport but a STEP group (R85, R95). -/
theorem spoil_transport_kept {s : State} (c : Cause) (h : s.inFlight = true) (hadvance : s.transport.advance = none) :
    (spoil s c).transport = { s.transport with group := (spoil s c).transport.group } := by
  rw [spoil_transport h hadvance]
  exact noticed_roll _ _ _

/-- The pins and the roll are no part of what a spoil reads; the STEP group and the advance are. -/
theorem flight_transport (s : State) (t : Transport) (hgroup : t.group = s.transport.group := by rfl)
    (hadvance : t.advance = s.transport.advance := by rfl) : State.flight { s with transport := t } = s.flight := by
  have hnoticed : (t.noticed s.engine.window.carriesLine s.frame.pendingGroup).group =
      (s.transport.noticed s.engine.window.carriesLine s.frame.pendingGroup).group := by
    unfold Transport.noticed
    split
    · rfl
    · exact hgroup
  simp only [State.flight, hnoticed, hadvance]
  rfl

@[simp] theorem darkenIfLit_safeOpen (s : State) (c : Chan) : (darkenIfLit s c).transport.safeOpen = s.transport.safeOpen := by
  unfold darkenIfLit darken
  split
  · simp
  · rfl

/-- SAFE opens: the event, the spoil, the channels' entry to DARK and every drive off (R148, R156). -/
def State.safeOpened (s : State) : State := State.raise { s with transport := { s.transport with safeOpen := true } } .interlockOpen

/-- Every channel that is lit goes to DARK (R148). -/
def darkenLit (s : State) : State := (darkenIfLit (darkenIfLit (darkenIfLit s .red) .grn) .blu).drivesOff

theorem exec_safeOpen (s : State) : exec .safeOpen s = .next (darkenLit (spoil s.safeOpened .interlock)) := rfl

theorem darkenLit_rests (s : State) : Rests s (darkenLit s) :=
  (((darkenIfLit_rests s .red).trans (darkenIfLit_rests _ .grn)).trans (darkenIfLit_rests _ .blu)).trans (drivesOff_rests _)

theorem darkenLit_safeOpen (s : State) : (darkenLit s).transport.safeOpen = s.transport.safeOpen := by simp [darkenLit]

theorem exec_channelOff {s : State} {chan : Byte} {c : Chan} (hc : chanOf chan = some c) (h : (s.chan c).state.lit = true) :
    exec (.channelOff chan) s = .next ((enterDark s c).answer (.channelOff chan) .ok) := by
  show execChannelOff chan s = _
  simp only [execChannelOff, withChan, hc]
  cases hs : (s.chan c).state with
  | dark => rw [hs] at h; cases h
  | fault => rw [hs] at h; cases h
  | _ => rfl

theorem enterDark_chan (s : State) (c : Chan) :
    (enterDark s c).chan c = { (s.chan c).dropCapture with state := .dark, drift := 0, faultCause := none } := by
  rw [State.chan, enterDark, spoil_chans, darken, dropSample_chans, ← State.chan, State.setChan_chan_self]

/-- The channels after a channel's fault (R140). -/
theorem enterFault_chan (s : State) (c d : Chan) (x : FaultCause) : (enterFault s c x).chan d =
    if d = c then { (s.chan c).dropCapture with state := .fault, faultCause := some x } else s.chan d := by
  have hchans : (enterFault s c x).chans = (s.setChan c { (s.chan c).dropCapture with state := .fault, faultCause := some x }).chans := by
    simp [enterFault]
  rw [State.chan, hchans, ← State.chan, State.setChan_chan]

theorem execWarmTimeout_warming {s : State} {c : Chan} (h : (s.chan c).state = .warming) :
    exec (.warmTimeout c) s = .next (enterFault s c .warmTimeout) := congrArg _ (if_pos h)

theorem lineWaits_iff (s : State) : s.lineWaits = true ↔
    s.frame.state = .exposing ∧ ∀ b ∈ [s.port.buf0, s.port.buf1], b.state = .empty ∨ b.state = .filling := by
  have hbuf (b : BufferState) : (b = .empty ∨ b = .filling) ↔ (b == .full) = false ∧ (b == .exposing) = false := by cases b <;> decide
  simp only [State.lineWaits, Port.someBuf, List.forall_mem_cons, List.not_mem_nil, false_implies, implies_true, and_true, hbuf,
    Bool.and_eq_true, beq_iff_eq, Bool.not_eq_true', Bool.or_eq_false_iff]
  tauto

theorem starting_iff (x : FrameState) : x.starting = true ↔ x = .seating ∨ x = .readying := by cases x <;> decide

/-- Settles O28: each event spoils the frame, from a state in which the frame stands as it did, and what comes after leaves it so. -/
theorem spoilEventsEndTheFrame : Obligations.SpoilEventsEndTheFrame := by
  intro s hs hstep hflight
  obtain ⟨hadvance, -⟩ := hstep.alone hflight
  have hspoiled (u : State) (c : Cause) (h : u.flight = s.flight) : Spoiled s (spoil u c) c false := .of_flight hs hstep hflight (.same h) c
  refine ⟨⟨_, ?_, hspoiled s .cancel rfl⟩, fun hstate => ?_, ?_, ?_, fun chan c hc hlit => ?_, fun c hwarming => ?_, fun hstate => ?_,
    fun hstate hbufs => ?_, fun hstate hlocked => ?_⟩
  · show execFrameCancel s = _
    simp [execFrameCancel, hflight, reply]
  · let u : State := { s with transport := { s.transport with seated := false } }
    refine ⟨spoil u .gate, congrArg _ (if_pos hstate), ?_, hspoiled u .gate (flight_transport s _)⟩
    rw [spoil_transport_kept (s := u) .gate hflight hadvance]
  · let u : State := State.raise { s with transport := { s.transport with xportFault := true } } .xportFault
    have hexec : exec .xportFaultAsserted s = .next (spoil u .xport) := by
      show execXportFaultAsserted s = _
      simp [execXportFaultAsserted, hadvance, u]
    refine ⟨_, hexec, ?_, (spoil_rise u .xport).kept _ (raise_flag_self _ _),
      hspoiled u .xport (flight_transport s { s.transport with xportFault := true })⟩
    rw [spoil_transport_kept (s := u) .xport hflight hadvance]
    rfl
  · refine ⟨_, exec_safeOpen s, ?_, ?_,
      (hspoiled s.safeOpened .interlock (flight_transport s { s.transport with safeOpen := true })).rests (darkenLit_rests _)⟩
    · rw [darkenLit_safeOpen, spoil_safeOpen]
      rfl
    · exact (darkenLit_rests _).flags _ ((spoil_rise s.safeOpened .interlock).kept _ (raise_flag_self _ _))
  · exact ⟨_, exec_channelOff hc hlit, by rw [enterDark_chan], enterDark_spoiled hs hstep hflight c⟩
  · refine ⟨_, execWarmTimeout_warming hwarming, ?_, enterFault_spoiled hs hstep hflight (.refl s) c _⟩
    rw [enterFault_chan, if_pos rfl]
  · exact ⟨_, congrArg Host.Outcome.next (if_pos ((starting_iff _).2 hstate)), hspoiled s .startTimeout rfl⟩
  · have hwaits : s.lineWaits = true :=
      (lineWaits_iff s).2 ⟨hstate, List.forall_mem_cons.2 ⟨hbufs 0, List.forall_mem_singleton.2 (hbufs 1)⟩⟩
    exact ⟨_, congrArg Host.Outcome.next (if_pos hwaits), hspoiled s .starve rfl⟩
  · have hexec : exec .stall s = .next (leaveLocked { s with engine := s.engine.stalled } .stopped) := by
      show execStall s = _
      simp [execStall, stallEngine, hlocked]
    refine ⟨_, hexec, ?_, (leaveLocked_flags _ _).2, leaveLocked_spoiled hs hstep hstate _ .same rfl⟩
    rw [leaveLocked_engine]

/-! ## Framing errors -/

section Words

variable {s : State}

theorem wordFrameStart_framing (h : s.port.state = .header ∨ s.port.state = .betweenLines ∨ s.port.state = .inLine) :
    wordFrameStart s = framingError s .header false := by
  unfold wordFrameStart
  rcases h with h | h | h <;> rw [h]

theorem wordUndefined_framing (h : s.port.state = .header ∨ s.port.state = .betweenLines ∨ s.port.state = .inLine) :
    wordUndefined s = framingError s .drain false := by
  unfold wordUndefined
  rcases h with h | h | h <;> rw [h]

theorem wordData_framing (w : Word32) (h : s.port.state = .betweenLines) : wordData w s = framingError s .drain false := by
  unfold wordData
  rw [h]

theorem wordLineStart_framing {n : Word32} (h : s.port.state = .header ∨ s.port.state = .inLine ∨
    (s.port.state = .betweenLines ∧ ¬ (n.toNat = s.port.expected ∧ s.port.received < s.port.srcHeight))) :
    wordLineStart n s = framingError s .drain false := by
  unfold wordLineStart
  rcases h with h | h | ⟨h, hplace⟩
  · simp only [h]
  · simp only [h]
  · simp only [h]
    exact if_neg hplace

theorem wordFrameEnd_framing (h : s.port.state = .header ∨ s.port.state = .inLine ∨
    (s.port.state = .betweenLines ∧ s.port.received ≠ s.port.srcHeight)) : wordFrameEnd s = framingError s .waitFrame true := by
  unfold wordFrameEnd
  rcases h with h | h | ⟨h, hplace⟩
  · simp only [h]
  · simp only [h]
  · simp only [h]
    exact if_neg hplace

/-- A word that R107 calls a framing error, taken with READY asserted. -/
theorem exec_framingWord {c : Instr} {next : PortState} {ended : Bool} (hready : s.ready = true)
    (h : framingWord s.port c = some (next, ended)) : exec c s = .next (framingError s next ended) := by
  cases c with
  | frameStart start =>
    cases start with
    | ready =>
      obtain ⟨hstate, hout⟩ := Option.ite_none_right_eq_some.1 h
      cases hout
      exact congrArg _ ((takeWord_ready hready _).trans (wordFrameStart_framing hstate))
    | _ => cases h
  | lineStart start n =>
    cases start with
    | ready =>
      obtain ⟨hstate, hout⟩ := Option.ite_none_right_eq_some.1 h
      cases hout
      exact congrArg _ ((takeWord_ready hready _).trans (wordLineStart_framing hstate))
    | _ => cases h
  | dataWord start w =>
    cases start with
    | ready =>
      obtain ⟨hstate, hout⟩ := Option.ite_none_right_eq_some.1 h
      cases hout
      exact congrArg _ ((takeWord_ready hready _).trans (wordData_framing w hstate))
    | _ => cases h
  | frameEnd start =>
    cases start with
    | ready =>
      obtain ⟨hstate, hout⟩ := Option.ite_none_right_eq_some.1 h
      cases hout
      exact congrArg _ ((takeWord_ready hready _).trans (wordFrameEnd_framing hstate))
    | _ => cases h
  | undefinedTagWord start tag =>
    cases start with
    | ready =>
      obtain ⟨hstate, hout⟩ := Option.ite_none_right_eq_some.1 h
      cases hout
      exact congrArg _ ((takeWord_ready hready _).trans (wordUndefined_framing hstate))
    | _ => cases h
  | _ => cases h

theorem counted_iff (x : PortState) : x.counted = true ↔ x ∈ [PortState.header, .betweenLines, .inLine] := by cases x <;> decide

/-- A word that overruns, whatever its tag (R107). -/
theorem exec_overrun {start : WordStart} (hstart : start ≠ .beforeReset) (hover : overruns s start = true)
    (hstate : s.port.state ∈ [.header, .betweenLines, .inLine]) {n w : Word32} {tag : BitVec 2} :
    ∀ c ∈ wordsBegun start n w tag, exec c s = .next (framingError s .drain false) := by
  have hword (handle : State → State) : takeWord s start handle = framingError s .drain false := by
    simp [takeWord, hstart, hover, (counted_iff _).2 hstate]
  simp only [wordsBegun, List.forall_mem_cons, List.not_mem_nil, false_implies, implies_true, and_true]
  exact ⟨congrArg _ (hword _), congrArg _ (hword _), congrArg _ (hword _), congrArg _ (hword _), congrArg _ (hword _)⟩

end Words

/-! ## What a framing error leaves -/

theorem spoil_port_counts (s : State) (c : Cause) :
    (spoil s c).port.errors = s.port.errors ∧ (spoil s c).port.strays = s.port.strays := by
  cases h : s.inFlight with
  | false => rw [spoil_of_idle h]; exact ⟨rfl, rfl⟩
  | true =>
    rw [spoil_port h]
    unfold spoilPort
    dsimp only
    split <;> exact ⟨rfl, rfl⟩

/-- The port once a header has failed (R107). -/
def headerDropped (s : State) (next : PortState) : State := { s with port := { s.port with state := next, words := [], waiting := none } }

theorem framingError_header {s : State} (next : PortState) (ended : Bool) (h : s.port.state = .header) :
    framingError s next ended = headerFailed (headerDropped (portError s) next) ended := by
  simp only [framingError, show (portError s).port.state = _ from h]
  rfl

/-- The frame once a framing error has been told to it (R107, R114). -/
def frameFailed (s : State) : State := if s.port.settled then s else spoil s .format

theorem framingError_frame {s : State} (next : PortState) (ended : Bool) (h : s.port.state ≠ .header) : framingError s next ended =
    endTold { frameFailed (portError s) with port := { (frameFailed (portError s)).port with state := next, words := [] } } ended := by
  unfold framingError
  dsimp only
  split
  · next hstate => exact absurd hstate h
  · rfl

theorem headerFailed_port (s : State) (ended : Bool) : (headerFailed s ended).port = s.port ∧ (headerFailed s ended).setups = s.setups ∧
    (headerFailed s ended).profiles = s.profiles ∧ (headerFailed s ended).events = s.events := by
  unfold headerFailed takeFailure
  split
  · cases ended <;> exact ⟨rfl, rfl, rfl, rfl⟩
  · exact ⟨rfl, rfl, rfl, rfl⟩

/-- A header's failure taken at once: a refusal, drained unless the word was the frame's FRAME_END (R82, R107). -/
theorem headerFailed_free {s : State} (ended : Bool) (h : s.inFlight = false ∧ s.groupBusy = false ∧ s.frame.failures = []) :
    (headerFailed s ended).frame = { s.frame with
      state := if ended then .idle else .draining, slot := none, tag := none, result := some .refused, cause := some .format
      latched := none, endSeen := false } := by
  obtain ⟨hflight, hgroup, hfailures⟩ := h
  have hfree : (s.free? && s.frame.failures.isEmpty) = true := by rw [(free?_iff s).2 ⟨hflight, hgroup⟩, hfailures]; rfl
  rw [headerFailed, if_pos hfree]
  cases ended <;> rfl

theorem headerFailed_held {s : State} (ended : Bool) (h : s.inFlight = true ∨ s.groupBusy = true ∨ s.frame.failures ≠ []) :
    (headerFailed s ended).frame = { s.frame with failures := s.frame.failures ++ [ended] } := by
  have hbusy : ¬(s.free? && s.frame.failures.isEmpty) = true := by
    rw [Bool.and_eq_true, free?_iff, List.isEmpty_iff]
    rintro ⟨⟨hflight, hgroup⟩, hfailures⟩
    rcases h with h | h | h
    · rw [hflight] at h; cases h
    · rw [hgroup] at h; cases h
    · exact h hfailures
  rw [headerFailed, if_neg hbusy]

/-- The frame's FRAME_END ends the drain of a spoiled frame (R93, R107). -/
theorem Spoiled.ended {s t : State} (h : Spoiled s t .format false) (next : PortState) (ended : Bool) :
    Spoiled s (endTold { t with port := { t.port with state := next, words := [] } } ended) .format ended := by
  cases ended with
  | false => exact { h with port := fun hc => absurd rfl hc }
  | true =>
    have hstate := h.state
    rw [Bool.or_false] at hstate
    have htold : (tellEnd t.frame).state = .idle ∧ (tellEnd t.frame).result = t.frame.result ∧
        (tellEnd t.frame).cause = t.frame.cause ∧ (tellEnd t.frame).pendingGroup = t.frame.pendingGroup := by
      unfold tellEnd
      split
      · next hidle => exact ⟨hidle, rfl, rfl, rfl⟩
      · exact ⟨rfl, rfl, rfl, rfl⟩
      · next hidle hdraining => split at hstate <;> contradiction
    obtain ⟨htstate, htresult, htcause, htgroup⟩ := htold
    exact {
      h with
      port := fun hc => absurd rfl hc
      state := by rw [Bool.or_true]; exact htstate
      result := ⟨htresult.trans h.result.1, htcause.trans h.result.2⟩
      group := htgroup.trans h.group }

theorem endTold_eq (s : State) (ended : Bool) : endTold s ended = { s with frame := if ended then s.frame.ended else s.frame } := by
  cases ended <;> rfl

/-- The error is counted and raised, and the frame's failure leaves both so (R107). -/
theorem frameFailed_counts (s : State) : (frameFailed (portError s)).port.errors = min 65535 (s.port.errors + 1) ∧
    (frameFailed (portError s)).port.strays = s.port.strays ∧
    (frameFailed (portError s)).events.flags.getLsbD Event.portError.bit = true := by
  unfold frameFailed
  split
  · exact ⟨rfl, rfl, raise_flag_self _ _⟩
  · obtain ⟨herrors, hstrays⟩ := spoil_port_counts (portError s) .format
    exact ⟨herrors, hstrays, (spoil_rise _ _).kept _ (raise_flag_self _ _)⟩

/-- Settles O36: the header or the frame that fails, by the port's state. -/
theorem framingErrorsEndTheFrame : Obligations.FramingErrorsEndTheFrame := by
  intro s c next ended hs hstep hword
  have hexec : exec c s = .next (framingError s next ended) := by
    rcases hword with ⟨hready, hframing⟩ | ⟨hstate, rfl, rfl, n, w, tag, hc | ⟨hready, hc⟩⟩
    · exact exec_framingWord hready hframing
    · exact exec_overrun (start := .notReady) (by decide) rfl hstate c hc
    · exact exec_overrun (start := .ready) (by decide) (by simp [overruns, hready]) hstate c hc
  refine ⟨_, hexec, ?_⟩
  by_cases hheader : s.port.state = .header
  · rw [framingError_header next ended hheader]
    obtain ⟨hport, hsetups, hprofiles, hevents⟩ := headerFailed_port (headerDropped (portError s) next) ended
    rw [hport, hsetups, hprofiles, hevents]
    exact ⟨rfl, rfl, raise_flag_self _ _, rfl, fun _ => ⟨rfl, rfl, rfl, rfl, headerFailed_free (s := headerDropped (portError s) next) ended,
      headerFailed_held (s := headerDropped (portError s) next) ended⟩,
      fun h => absurd hheader h, fun h => absurd hheader h⟩
  · rw [framingError_frame next ended hheader]
    obtain ⟨herrors, hstrays, hflag⟩ := frameFailed_counts s
    refine ⟨?_, ?_, ?_, ?_, fun h => absurd h hheader, fun _ hsettled hflight => ?_, fun _ hsettled => ?_⟩
    · rw [endTold_eq]; exact herrors
    · rw [endTold_eq]; exact hstrays
    · rw [endTold_eq]; exact hflag
    · rw [endTold_eq]
    · have hspoil : frameFailed (portError s) = spoil (portError s) .format := if_neg (Bool.eq_false_iff.1 hsettled)
      have hspoiled : Spoiled s (spoil (portError s) .format) .format false := .of_flight hs hstep hflight .same .format
      rw [hspoil]
      exact hspoiled.ended next ended
    · have hstands : frameFailed (portError s) = portError s := if_pos hsettled
      rw [hstands, endTold_eq]
      exact ⟨rfl, rfl, rfl, rfl, rfl⟩

end Sys2Proof.Machine
end

section
/-! The readiness of a frame and its entry to EXPOSING, an INDEX (O41), SEATED and the end of a STEP group (O30), and the input lines without a
frame in flight (O54). -/

namespace Sys2Proof.Machine

-- one theorem after another, as in the tests: a checker's memory limit leaves no room for many threads at once
set_option Elab.async false

open Sys2Proof

/-! ## The entry to EXPOSING -/

/-- The frame record as EXPOSING is entered (R88). -/
def FrameCycle.exposed (f : FrameCycle) : FrameCycle := { f with state := .exposing, margin := .underWay, stride := 0, lineWait := 0 }

theorem testReady_ready {s : State} (hstate : s.frame.state = .readying) (hchans : ∀ c, (s.chan c).state = .ready)
    (hengine : s.engine.state = .locked) : testReady s = enterExposing s :=
  if_pos ⟨hstate, (isReady_iff s).2 ⟨hchans, hengine⟩⟩

theorem testReady_unready {s : State} (h : ¬(s.frame.state = .readying ∧ (∀ c, (s.chan c).state = .ready) ∧ s.engine.state = .locked)) :
    testReady s = s := if_neg fun k => h ⟨k.1, (isReady_iff s).1 k.2⟩

section Enter

variable {s : State} {i : Fin 8}

theorem enterExposing_eq (hslot : s.frame.slot = some i) : enterExposing s =
    beginGroup { s with frame := s.frame.exposed } .margin ((s.setup i).config.topMargin * (s.setup i).config.stepsPerLine) := by
  have hsetup : s.frameSetup = some (s.setup i) := by simp [State.frameSetup, hslot]
  simp only [enterExposing, hsetup]
  rfl

/-- The margin group begins (R88). -/
theorem enterExposing_group (hslot : s.frame.slot = some i)
    (h : (s.setup i).config.topMargin * (s.setup i).config.stepsPerLine ≠ 0) : enterExposing s = { s with
      frame := s.frame.exposed
      transport := { s.transport with group := some ⟨.margin, (s.setup i).config.topMargin * (s.setup i).config.stepsPerLine⟩ } } := by
  rw [enterExposing_eq hslot, beginGroup, if_neg h]

/-- A margin group of no pulses ends as it begins (R88, R153). -/
theorem enterExposing_noSteps (hslot : s.frame.slot = some i)
    (h : (s.setup i).config.topMargin * (s.setup i).config.stepsPerLine = 0) (hadvance : s.transport.advance = none) :
    enterExposing s = { s with frame := { s.frame.exposed with margin := .done } } := by
  rw [enterExposing_eq hslot, h, beginGroup, if_pos rfl, groupEnded]
  exact resumeAdvance_none hadvance

end Enter

theorem enterExposing_rise (s : State) : FlagsRise s (enterExposing s) := (beginGroup_rise _ _ _).after

/-! ## INDEX -/

theorem judgedGood_iff (e : Engine) (f : Nat) : e.judgedGood f = true ↔ e.mark = .good ∧ e.revCount = some f := by
  simp [Engine.judgedGood]

/-- Lock is gained, before the frame cycle tests its readiness (R121). -/
def State.lockGained (s : State) : State := State.raise { s with engine := { s.engine with state := .locked } } .lockGained

theorem gainLock_ready {s : State} (hstate : s.frame.state = .readying) (hchans : ∀ c, (s.chan c).state = .ready) :
    gainLock s = enterExposing s.lockGained := testReady_ready (s := s.lockGained) hstate hchans rfl

theorem gainLock_unready {s : State} (h : s.frame.state ≠ .readying ∨ ∃ c, (s.chan c).state ≠ .ready) : gainLock s = s.lockGained := by
  refine testReady_unready (s := s.lockGained) ?_
  rintro ⟨hstate, hchans, -⟩
  rcases h with h | ⟨c, hc⟩
  · exact h hstate
  · exact hc (hchans c)

section Index

variable {s : State}

theorem exec_index_acquiring (h : s.engine.state = .acquiring) : exec .index s = .next
    (if (s.engine.judgedGood s.optics.cur.facets && s.engine.goodNext s.optics.cur.facets == 2) = true then
      gainLock { s with engine := { s.engine.newRevolution with good := s.engine.goodNext s.optics.cur.facets } }
    else { s with engine := { s.engine.newRevolution with good := s.engine.goodNext s.optics.cur.facets } }) := by
  show execIndex s = _
  simp only [execIndex, h]

theorem exec_index_bad (h : s.engine.state = .acquiring) (hbad : ¬s.engine.judgedGood s.optics.cur.facets = true) :
    exec .index s = .next { s with engine := { s.engine.newRevolution with good := if s.engine.mark = .none then s.engine.good else 0 } } := by
  rw [exec_index_acquiring h, Engine.goodNext, if_neg hbad, Bool.eq_false_iff.2 hbad]
  rfl

/-- The first good revolution in a row (R121). -/
theorem exec_index_first (h : s.engine.state = .acquiring) (hgood : s.engine.judgedGood s.optics.cur.facets = true)
    (hzero : s.engine.good = 0) : exec .index s = .next { s with engine := { s.engine.newRevolution with good := 1 } } := by
  rw [exec_index_acquiring h, Engine.goodNext, if_pos hgood, hzero]
  simp [satAdd]

/-- The second good revolution in a row gains lock (R121). -/
theorem exec_index_second (h : s.engine.state = .acquiring) (hgood : s.engine.judgedGood s.optics.cur.facets = true)
    (hone : 1 ≤ s.engine.good) : exec .index s = .next (gainLock { s with engine := { s.engine.newRevolution with good := 2 } }) := by
  have hnext : satAdd 2 s.engine.good 1 = 2 := by unfold satAdd; omega
  rw [exec_index_acquiring h, Engine.goodNext, if_pos hgood, hnext, hgood]
  rfl

theorem exec_index_locked (h : s.engine.state = .locked) : exec .index s = .next
    (if s.engine.revCount = some s.optics.cur.facets then { s with engine := { s.engine with revCount := some 0 } }
    else leaveLocked { s with engine := s.engine.newRevolution } .acquiring) := by
  show execIndex s = _
  unfold execIndex
  dsimp only
  split
  · next e => rw [h] at e; cases e
  · next e => rw [h] at e; cases e
  · rfl

end Index

/-- Settles O41: the revolution that the INDEX ends, by the engine's state. -/
theorem indexJudgesTheRevolution : Obligations.IndexJudgesTheRevolution := by
  intro s e f good
  have hgood : good ↔ s.engine.judgedGood s.optics.cur.facets = true := (judgedGood_iff _ _).symm
  refine ⟨fun hstopped => ?_, fun hacquiring => ⟨fun hmark => ?_, fun hmark hbad => ?_, fun h hzero => ?_, fun h hone hnot => ?_,
    fun i h hone hreadying hchans _ => ?_⟩, fun hlocked hcount => ?_, fun hlocked hcount hs hstep => ?_⟩
  · show execIndex s = _
    simp only [execIndex, show s.engine.state = _ from hstopped]
  · rw [exec_index_bad hacquiring fun h => by rw [← hgood] at h; exact absurd (hmark.symm.trans h.1) (by decide), if_pos hmark]
    rfl
  · rw [exec_index_bad hacquiring (fun h => hbad (hgood.2 h)), if_neg hmark]
    rfl
  · exact exec_index_first hacquiring (hgood.1 h) hzero
  · exact (exec_index_second hacquiring (hgood.1 h) hone).trans (congrArg _ (gainLock_unready hnot))
  · refine ⟨_, (exec_index_second hacquiring (hgood.1 h) hone).trans (congrArg _ (gainLock_ready hreadying hchans)), ?_⟩
    exact ⟨enterExposing_engine _, enterExposing_state _, (enterExposing_rise _).kept _ (raise_flag_self _ _)⟩
  · exact (exec_index_locked hlocked).trans (congrArg _ (if_pos hcount))
  · exact ⟨leaveLocked { s with engine := s.engine.newRevolution } .acquiring, (exec_index_locked hlocked).trans (congrArg _ (if_neg hcount)),
      leaveLocked_engine _ _, (leaveLocked_flags _ _).2, endWindow_drivesOff_drives _,
      fun hexposing => leaveLocked_spoiled hs hstep hexposing _ .same rfl⟩

/-! ## SEATED -/

/-- SEATED rises for a SEATING frame, before its readiness is tested (R86). -/
def State.seatedFrame (s : State) : State :=
  { s with transport := { s.transport with seated := true }, frame := { s.frame with state := .readying } }

section Seated

variable {s : State}

theorem exec_seatedRise_seating (h : s.frame.state = .seating) : exec .seatedRise s = .next (testReady s.seatedFrame) :=
  congrArg Host.Outcome.next (if_pos h)

theorem exec_seatedRise_ready (h : s.frame.state = .seating) (hchans : ∀ c, (s.chan c).state = .ready)
    (hengine : s.engine.state = .locked) : exec .seatedRise s = .next (enterExposing s.seatedFrame) :=
  (exec_seatedRise_seating h).trans (congrArg _ (testReady_ready (s := s.seatedFrame) rfl hchans hengine))

theorem exec_seatedRise_advance (h : s.frame.state ≠ .seating) :
    exec .seatedRise s = .next (advanceSeated { s with transport := { s.transport with seated := true } }) :=
  congrArg Host.Outcome.next (if_neg h)

end Seated

/-! ## The end of a STEP group -/

/-- The state as the last pulse of a STEP group has been issued (R153). -/
def State.groupIssued (s : State) (g : StepGroup) : State :=
  { s with transport := { s.transport with group := none }, outputs := { s.outputs with steps := s.outputs.steps + g.pulses } }

theorem exec_stepGroupEnd {s : State} {g : StepGroup} (h : s.transport.group = some g) :
    exec .stepGroupEnd s = .next (groupEnded (s.groupIssued g) g.kind) := by
  show execStepGroupEnd s = _
  simp only [execStepGroupEnd, h]
  rfl

theorem groupNotice_eq (f : FrameCycle) (k : GroupKind) : groupNotice f k = if f.state = .exposing then
    (if k = .margin then { f with margin := .done, stride := 0 } else { f with stride := 0 }) else f := by
  cases k <;> rfl

@[simp] theorem groupNotice_startTimeout (f : FrameCycle) (k : GroupKind) : (groupNotice f k).startTimeout = f.startTimeout := by
  unfold groupNotice
  split
  · cases k <;> rfl
  · rfl

/-- A group ends with no advance waiting for it (R153). -/
theorem groupEnded_alone {s : State} (k : GroupKind) (h : ∀ a, s.transport.advance = some a → a.pull = .seating) :
    groupEnded s k = { s with frame := groupNotice s.frame k } := by
  rcases resumeAdvance_cases { s with frame := groupNotice s.frame k } with hkept | ⟨n, l, hwaits, -⟩
  · exact hkept
  · cases h _ hwaits

/-- A group ends and the advance that waited for it pulls (R153). -/
theorem groupEnded_waiting {s : State} {n l : Nat} (k : GroupKind) (h : s.transport.advance = some ⟨n, .waitingGroup, l⟩) :
    groupEnded s k = advancePull { s with frame := groupNotice s.frame k } := by
  simp only [groupEnded, resumeAdvance, h]

theorem advancePull_outputs {s : State} {a : Advance} {r : Roll} (ha : s.transport.advance = some a) (hr : s.transport.roll = some r) :
    (advancePull s).outputs = { s.outputs with pulls := s.outputs.pulls + 1 } := by
  simp only [advancePull, ha]
  exact issuePull_outputs hr

/-- Settles O30: readiness at the rise of SEATED, and the group's notice before the waiting advance. -/
theorem seatingAndStepGroups : Obligations.SeatingAndStepGroups := by
  refine ⟨fun s => ⟨fun hseating hnot => ?_, fun i hseating hready hslot => ⟨fun hpulses => ?_, fun hpulses hadvance => ?_⟩,
    fun hseating hadvance => ?_⟩, fun s hgroup => ?_, fun s g hgroup => ⟨fun hadvance => ?_, fun n limit r hadvance hroll => ?_⟩⟩
  · exact (exec_seatedRise_seating hseating).trans (congrArg _ (testReady_unready fun h => hnot h.2))
  · exact (exec_seatedRise_ready hseating hready.1 hready.2).trans (congrArg _ (enterExposing_group hslot hpulses))
  · exact (exec_seatedRise_ready hseating hready.1 hready.2).trans (congrArg _ (enterExposing_noSteps hslot hpulses hadvance))
  · rw [exec_seatedRise_advance hseating]
    simp only [advanceSeated, hadvance]
  · show execStepGroupEnd s = _
    simp only [execStepGroupEnd, hgroup]
  · rw [exec_stepGroupEnd hgroup, groupEnded_alone (s := s.groupIssued g) g.kind hadvance, groupNotice_eq]
    rfl
  · let u : State := { s.groupIssued g with frame := groupNotice s.frame g.kind }
    have hexec : exec .stepGroupEnd s = .next (advancePull u) :=
      (exec_stepGroupEnd hgroup).trans (congrArg _ (groupEnded_waiting (s := s.groupIssued g) g.kind hadvance))
    refine ⟨advancePull u, hexec, ?_, ?_, advancePull_outputs (s := u) hadvance hroll⟩
    · exact (advancePull_frame u).trans (groupNotice_eq _ _)
    · rw [advancePull_transport (s := u) hadvance hroll, show u.frame.startTimeout = _ from groupNotice_startTimeout _ _]
      rfl

/-! ## The end of a window that a line group waits for -/

/-- A pending line group has a pulse to issue. -/
def State.pendingPositive (s : State) : Prop := ∀ n, s.frame.pendingGroup = some n → 1 ≤ n

/-- The notice of a window's end begins the pending line group, and the transport's film is not moved (R85, R128). -/
theorem windowPassed_positive {s : State} (h : s.pendingPositive) : windowPassed s = { s with
    frame := { s.frame with pendingGroup := none }
    transport := { s.transport with group := match s.frame.pendingGroup with
      | some n => some ⟨.line, n⟩
      | none => s.transport.group } } := by
  cases hpending : s.frame.pendingGroup with
  | none =>
    rw [windowPassed_of_none hpending]
    conv_lhs => rw [show s = { s with frame := { s.frame with pendingGroup := s.frame.pendingGroup } } from rfl, hpending]
  | some n => simp only [windowPassed, hpending, beginGroup, if_neg (Nat.one_le_iff_ne_zero.1 (h n hpending))]

/-- The roll stays as it was, and no pending group is emptied. -/
def RollKept (s t : State) : Prop := s.pendingPositive → t.transport.roll = s.transport.roll ∧ t.pendingPositive

theorem RollKept.trans {s t u : State} (h : RollKept s t) (k : RollKept t u) : RollKept s u := fun hs => by
  obtain ⟨hroll, ht⟩ := h hs
  obtain ⟨kroll, hu⟩ := k ht
  exact ⟨kroll.trans hroll, hu⟩

theorem RollKept.same {s t : State} (roll : t.transport.roll = s.transport.roll := by rfl)
    (pending : t.frame.pendingGroup = s.frame.pendingGroup := by rfl) : RollKept s t := fun hs => ⟨roll, fun n hn => hs n (pending ▸ hn)⟩

theorem RollKept.refl (s : State) : RollKept s s := .same

theorem RollKept.after {s m t : State} (h : RollKept m t) (roll : m.transport.roll = s.transport.roll := by rfl)
    (pending : m.frame.pendingGroup = s.frame.pendingGroup := by rfl) : RollKept s t := .trans (.same roll pending) h

theorem windowPassed_rollKept (s : State) : RollKept s (windowPassed s) := fun hs => by
  rw [windowPassed_positive hs]
  exact ⟨rfl, nofun⟩

theorem endWindow_rollKept (s : State) : RollKept s (endWindow s) := by
  by_cases h : s.engine.window = .none
  · rw [endWindow_of_none h]
    exact .refl s
  · rw [endWindow_eq h]
    split
    · exact (windowPassed_rollKept _).after
    · exact .same

theorem dropSample_rollKept (s : State) (c : Chan) : RollKept s (dropSample s c) := by
  rcases dropSample_cases s c with h | ⟨k, line, toRead, left, -, h | h⟩
  · rw [h]; exact .same
  · rw [h]; exact .same
  · rw [h]; exact (endWindow_rollKept _).after

/-! ## SAFE opens without a frame in flight -/

theorem darkenIfLit_chan (s : State) (c d : Chan) : (darkenIfLit s c).chan d = if d = c ∧ (s.chan c).state.lit = true then
    { (s.chan c).dropCapture with state := .dark, drift := 0, faultCause := none } else s.chan d := by
  by_cases h : (s.chan c).state.lit = true
  · have hchans : (darkenIfLit s c).chans =
        (s.setChan c { (s.chan c).dropCapture with state := .dark, drift := 0, faultCause := none }).chans := by
      rw [darkenIfLit, if_pos h, darken, dropSample_chans]
    rw [State.chan, hchans, ← State.chan, State.setChan_chan]
    simp only [h, and_true]
  · rw [darkenIfLit, if_neg h, if_neg fun k => h k.2]

theorem darkenLit_chan (s : State) (c : Chan) : (darkenLit s).chan c = if (s.chan c).state.lit = true then
    { (s.chan c).dropCapture with state := .dark, drift := 0, faultCause := none } else s.chan c := by
  show (darkenIfLit (darkenIfLit (darkenIfLit s .red) .grn) .blu).chan c = _
  cases c <;> simp [darkenIfLit_chan]

theorem darkenIfLit_rollKept (s : State) (c : Chan) : RollKept s (darkenIfLit s c) := by
  unfold darkenIfLit
  split
  · exact (dropSample_rollKept _ c).after
  · exact .refl s

theorem darkenLit_rollKept (s : State) : RollKept s (darkenLit s) :=
  (((darkenIfLit_rollKept s .red).trans (darkenIfLit_rollKept _ .grn)).trans (darkenIfLit_rollKept _ .blu)).trans .same

theorem darkenIfLit_records (s : State) (c : Chan) :
    (darkenIfLit s c).profiles = s.profiles ∧ (darkenIfLit s c).setups = s.setups := by
  unfold darkenIfLit
  split
  · exact ⟨darken_profiles s c, darken_setups s c⟩
  · exact ⟨rfl, rfl⟩

theorem darkenLit_records (s : State) : (darkenLit s).profiles = s.profiles ∧ (darkenLit s).setups = s.setups := by
  obtain ⟨hred, hred'⟩ := darkenIfLit_records s .red
  obtain ⟨hgrn, hgrn'⟩ := darkenIfLit_records (darkenIfLit s .red) .grn
  obtain ⟨hblu, hblu'⟩ := darkenIfLit_records (darkenIfLit (darkenIfLit s .red) .grn) .blu
  exact ⟨hblu.trans (hgrn.trans hred), hblu'.trans (hgrn'.trans hred')⟩

theorem darkenLit_state (s : State) : (darkenLit s).frame.state = s.frame.state := by
  simp only [darkenLit, State.drivesOff_frame, darkenIfLit_state]

theorem dropCapture_capture (x : Channel) : x.dropCapture.capture = false := by
  unfold Channel.dropCapture
  split
  · rfl
  · next h => exact Bool.eq_false_iff.2 h

/-- SAFE opens with no frame to spoil (R148, R156). -/
theorem exec_safeOpen_idle {s : State} (h : s.inFlight = false) : exec .safeOpen s = .next (darkenLit s.safeOpened) :=
  (exec_safeOpen s).trans (congrArg (fun t => Host.Outcome.next (darkenLit t)) (spoil_of_idle (s := s.safeOpened) h))

/-! ## The other input lines without a frame in flight -/

/-- A pull changes the transport, the outputs and the events alone (R152, R159). -/
theorem advancePull_eq (s : State) : advancePull s = { s with
    transport := (advancePull s).transport, outputs := (advancePull s).outputs, events := (advancePull s).events } := by
  have hpull : issuePull s = { s with
      transport := (issuePull s).transport, outputs := (issuePull s).outputs, events := (issuePull s).events } := by
    unfold issuePull
    split
    · rfl
    · dsimp only
      split <;> split <;> rfl
  unfold advancePull
  split
  · rfl
  · rw [hpull]

theorem not_seating_of_idle {s : State} (h : s.inFlight = false) : s.frame.state ≠ .seating := fun e => by
  rw [State.inFlight, e] at h
  cases h

/-- Settles O54: each input line by what it finds under way. -/
theorem inputLinesWithoutAFrame : Obligations.InputLinesWithoutAFrame := by
  refine fun s => ⟨rfl, rfl, fun hseating => ?_, fun hidle => ⟨?_, fun hadvance => ?_, fun hadvance => ?_, fun limit hadvance => ?_,
    fun n limit r hadvance hroll => ?_, fun _ _ hgroups => ?_⟩⟩
  · exact congrArg Host.Outcome.next (if_neg (by rw [hseating]; decide))
  · refine congrArg Host.Outcome.next (if_neg ?_)
    rintro (h | h) <;> rw [State.inFlight, h] at hidle <;> cases hidle
  · show execXportFaultAsserted s = _
    simp only [execXportFaultAsserted, State.raise_transport, hadvance]
    exact congrArg Host.Outcome.next (spoil_of_idle hidle)
  · obtain ⟨a, ha⟩ := Option.ne_none_iff_exists'.1 hadvance
    show execXportFaultAsserted s = _
    simp only [execXportFaultAsserted, State.raise_transport, ha]
    exact congrArg Host.Outcome.next (spoil_of_idle hidle)
  · rw [exec_seatedRise_advance (not_seating_of_idle hidle)]
    simp only [advanceSeated, hadvance]
    rfl
  · let u : State := { s with transport := { s.transport with seated := true } }
    have hpull : advanceSeated u = advancePull u := by simp [u, advanceSeated, hadvance]
    refine ⟨advancePull u, ?_, advancePull_transport (s := u) hadvance hroll, advancePull_eq u⟩
    rw [exec_seatedRise_advance (not_seating_of_idle hidle), hpull]
  · obtain ⟨hroll, -⟩ := darkenLit_rollKept s.safeOpened hgroups.pending
    obtain ⟨hprofiles, hsetups⟩ := darkenLit_records s.safeOpened
    refine ⟨_, exec_safeOpen_idle hidle, darkenLit_safeOpen _, (darkenLit_rests _).flags _ (raise_flag_self _ _), rfl, fun c hdark => ?_,
      fun c hlit => ?_, hroll, hprofiles, hsetups, darkenLit_state _⟩
    · rw [darkenLit_chan, if_neg]
      · rfl
      · show ¬(s.chan c).state.lit = true
        rcases hdark with h | h <;> rw [h] <;> decide
    · rw [darkenLit_chan, show (s.safeOpened.chan c).state.lit = true from hlit, if_pos rfl]
      exact ⟨rfl, rfl, dropCapture_capture _⟩

end Sys2Proof.Machine
end

section
/-! The checks of Table 5-3 and a header's turn (O26). -/

namespace Sys2Proof.Machine

-- one theorem after another, as in the tests: a checker's memory limit leaves no room for many threads at once
set_option Elab.async false

open Sys2Proof

/-! ## The checks of Table 5-3 -/

/-- A check that fails gives its cause, and one that passes leaves the question to the checks after it (R81). -/
theorem check_cons {c : Prop} [Decidable c] {b : Bool} {cause : Cause} {rest : List (Bool × Cause)} {r : Option Cause} (h : b = true ↔ ¬c)
    (hrest : r = (rest.find? fun k => !k.1).map Prod.snd) :
    (if c then some cause else r) = (((b, cause) :: rest).find? fun k => !k.1).map Prod.snd := by
  by_cases hc : c
  · rw [if_pos hc, List.find?_cons_of_pos (by simpa using fun e => h.1 e hc)]
    rfl
  · rw [if_neg hc, hrest, List.find?_cons_of_neg (by simpa using h.2 hc)]

theorem headerFormat_eq_some (n : Nat) (f : Format) : headerFormat n = some f ↔ n = if f = .l10 then 1 else 2 := by
  unfold headerFormat
  split
  · cases f <;> simp
  · cases f <;> simp
  · next h1 h2 =>
    cases f with
    | l10 => simpa using h1
    | l12 => simpa using h2

theorem stale_iff {o : Option Profile} {x : SetupConfig} :
    (¬(o.any fun p => p.state = .stale) = true ∨ x.stalePolicy = .expose) ↔
      ¬(((o.map fun p => p.state == .stale).getD false && x.stalePolicy == .refuse) = true) := by
  have hpolicy : x.stalePolicy = .expose ↔ ¬x.stalePolicy = .refuse := by cases x.stalePolicy <;> decide
  cases o with
  | none => simp
  | some p => simp [hpolicy, Classical.or_iff_not_imp_left]

theorem rollLeft_iff {o : Option Roll} :
    (o.any fun r => decide (1 ≤ r.remaining)) = true ↔ ¬((!((o.map fun r => decide (1 ≤ r.remaining)).getD false)) = true) := by
  cases o <;> simp [Nat.one_le_iff_ne_zero]

theorem lit_iff (x : ChannelState) : x.lit = decide (x = .warming ∨ x = .ready ∨ x = .biased) := by cases x <;> rfl

/-- The cause of the first check of Table 5-3 that fails (R81, R82). -/
theorem headerCause_eq (s : State) (x : Setup) (h : Header) :
    let lit (c : Chan) : Bool := (s.chan c).state = .warming ∨ (s.chan c).state = .ready ∨ (s.chan c).state = .biased
    let checks : List (Bool × Cause) :=
      [(x.armed, .setupIdle),
        (h.format = (if x.config.format = .l10 then 1 else 2) ∧ h.srcWidth = x.config.srcWidth ∧ h.srcHeight = x.config.srcHeight,
          .shape),
        (¬ (s.profile x.config.profileId).any (fun p => p.state = .stale) ∨ x.config.stalePolicy = .expose, .stale),
        (s.transport.roll.any fun r => 1 ≤ r.remaining, .roll),
        (s.transport.xportFault = false ∧ s.transport.advance = none, .xport),
        (s.transport.safeOpen = false, .interlock),
        (lit .red && lit .grn && lit .blu, .channel)]
    headerCause s x h = (checks.find? fun k => !k.1).map Prod.snd := by
  have hshape : decide (h.format = (if x.config.format = .l10 then 1 else 2) ∧ h.srcWidth = x.config.srcWidth ∧
      h.srcHeight = x.config.srcHeight) = true ↔
      ¬(headerFormat h.format ≠ some x.config.format ∨ h.srcWidth ≠ x.config.srcWidth ∨ h.srcHeight ≠ x.config.srcHeight) := by
    rw [decide_eq_true_iff, ← headerFormat_eq_some]
    simp only [not_or, not_not]
  have hxport : decide (s.transport.xportFault = false ∧ s.transport.advance = none) = true ↔
      ¬((s.transport.xportFault || s.transport.advance.isSome) = true) := by simp
  have hchannel : ((s.chan .red).state.lit && (s.chan .grn).state.lit && (s.chan .blu).state.lit) = true ↔
      ¬((!(s.chans.all fun c => c.state.lit)) = true) := by
    simp [Rgb.all, State.chan, Rgb.get]
  rw [lit_iff (s.chan .red).state, lit_iff (s.chan .grn).state, lit_iff (s.chan .blu).state] at hchannel
  exact check_cons (by simp) (check_cons hshape (check_cons (by rw [decide_eq_true_iff]; exact stale_iff) (check_cons rollLeft_iff
    (check_cons hxport (check_cons (by simp) (check_cons hchannel rfl))))))

/-! ## A header's turn -/

section Turn

variable {s : State} {h : Header}

theorem exec_headerTaken (hwaiting : s.port.waiting = some h) (hflight : s.inFlight = false) (hgroup : s.groupBusy = false)
    (hfailures : s.frame.failures = []) : exec .headerTaken s = .next (takeHeader s h) := by
  have hfree : (s.free? && s.frame.failures.isEmpty) = true := by rw [(free?_iff s).2 ⟨hflight, hgroup⟩, hfailures]; rfl
  show execHeaderTaken s = _
  simp only [execHeaderTaken, hwaiting, hfree, if_true]

/-- Nothing is taken without a waiting header, in flight, with a STEP group, or before a held failure (R81, R107). -/
theorem exec_headerTaken_waits
    (h : s.port.waiting = none ∨ s.inFlight = true ∨ s.groupBusy = true ∨ s.frame.failures ≠ []) : exec .headerTaken s = .next s := by
  show execHeaderTaken s = _
  unfold execHeaderTaken
  split
  · rfl
  · next x hx =>
    refine congrArg _ (if_neg ?_)
    rw [Bool.and_eq_true, free?_iff, List.isEmpty_iff]
    rintro ⟨⟨hflight, hgroup⟩, hfailures⟩
    rcases h with h | h | h | h
    · rw [hx] at h; cases h
    · rw [hflight] at h; cases h
    · rw [hgroup] at h; cases h
    · exact h hfailures

/-- A header that fails check 1 is a port error, charged to no setup (R82). -/
theorem takeHeader_format (hbound : h.slot < 256) (hbad : 8 ≤ h.slot ∨ h.low ≠ 0) :
    takeHeader s h = refuseFormat (portError { s with port := s.port.refuse }) := by
  have hnone : (if h.low = 0 then slotOf (BitVec.ofNat 8 h.slot) else none) = none := by
    split
    · next hlow =>
      refine slotOf_none ?_
      rw [BitVec.toNat_ofNat, Nat.mod_eq_of_lt hbound]
      exact hbad.resolve_right (not_not.2 hlow)
    · rfl
  simp only [takeHeader, hnone]

/-- A header that fails a later check is charged to its setup (R82). -/
theorem takeHeader_refused {i : Fin 8} {cause : Cause} (hslot : h.slot = i) (hlow : h.low = 0)
    (hcause : headerCause s (s.setup i) h = some cause) : takeHeader s h = refuseIn { s with port := s.port.refuse } i h.tag cause := by
  simp only [takeHeader, hlow, if_true, hslot, slotOf_ofNat, hcause]

end Turn

/-! ## A held failure's turn -/

section Failure

variable {s : State}

/-- No failure is taken without one held, in flight, or with a STEP group (R107). -/
theorem exec_headerFailureTaken_waits (h : s.frame.failures = [] ∨ s.inFlight = true ∨ s.groupBusy = true) :
    exec .headerFailureTaken s = .next s := by
  show execHeaderFailureTaken s = _
  unfold execHeaderFailureTaken
  split
  · rfl
  · next ended rest hfailures =>
    refine congrArg _ (if_neg ?_)
    rw [free?_iff]
    rintro ⟨hflight, hgroup⟩
    rcases h with h | h | h
    · rw [hfailures] at h; cases h
    · rw [hflight] at h; cases h
    · rw [hgroup] at h; cases h

/-- The frame record once a failure has been taken, its FRAME_END seen or not (R82, R107). -/
def FrameCycle.failed (f : FrameCycle) (rest : List Bool) (state : FrameState) : FrameCycle :=
  { f with
    failures := rest, state := state, slot := none, tag := none, result := some .refused, cause := some .format, latched := none
    endSeen := false }

theorem exec_headerFailureTaken {ended : Bool} {rest : List Bool} (hfailures : s.frame.failures = ended :: rest) (hflight : s.inFlight = false)
    (hgroup : s.groupBusy = false) :
    exec .headerFailureTaken s = .next (deliver { s with frame := s.frame.failed rest (if ended then .idle else .draining) }) := by
  show execHeaderFailureTaken s = _
  simp only [execHeaderFailureTaken, hfailures, (free?_iff s).2 ⟨hflight, hgroup⟩, if_true]
  cases ended <;> rfl

/-- A header that waited behind the last failure is delivered as that is taken, and ends its drain (R83, R107). -/
theorem deliver_failed (ended : Bool) (rest : List Bool) :
    deliver { s with frame := s.frame.failed rest (if ended then .idle else .draining) } =
      { s with frame := s.frame.failed rest (if ended || (rest.isEmpty && s.port.waiting.isSome) then .idle else .draining) } := by
  cases ended with
  | true => exact deliver_waits (.inl nofun)
  | false =>
    cases rest with
    | cons b rest => exact deliver_waits (.inr nofun)
    | nil =>
      cases hwaiting : s.port.waiting with
      | none => simp [deliver, hwaiting]
      | some x => exact deliver_ends (x := x) hwaiting rfl rfl

end Failure

/-- Settles O26: the checks, a header's refusals, and a held failure. -/
theorem headersAreCheckedInTheirTurn : Obligations.HeadersAreCheckedInTheirTurn := by
  refine ⟨headerCause_eq, fun s h hwaiting hflight hgroup hfailures hbound => ⟨fun hbad => ?_, fun i cause hslot hlow hcause => ⟨?_, fun s =>
    ⟨exec_headerTaken_waits, exec_headerFailureTaken_waits, fun ended rest hfailures hflight hgroup => ?_⟩⟩⟩⟩
  · rw [exec_headerTaken hwaiting hflight hgroup hfailures, takeHeader_format hbound hbad]
    rfl
  · rw [exec_headerTaken hwaiting hflight hgroup hfailures, takeHeader_refused hslot hlow hcause]
    rfl
  · rw [exec_headerFailureTaken hfailures hflight hgroup, deliver_failed]
    rfl

end Sys2Proof.Machine
end

section
/-! Readings of the monitor (R127, R136): the channel that is read and its window, warming and zero readings (O49), and the drift filter (O50). -/

namespace Sys2Proof.Machine

-- one theorem after another, as in the tests: a checker's memory limit leaves no room for many threads at once
set_option Elab.async false

open Sys2Proof

/-! ## The delivery of a reading -/

/-- The state in which a reading is handled: the channel is no longer to be read, and its drive is off (R127, R136). -/
def State.delivered (s : State) (c : Chan) (k : Nat) (line : Bool) (rest : List Chan) : State :=
  { s with engine := { s.engine with window := .opened k line rest } }.setDrive c .off

section Delivery

variable {s : State} {c : Chan} {k : Nat} {line : Bool} {rest : List Chan}

theorem exec_monitorReading {reading : BitVec 12} (h : s.engine.window = .opened k line (c :: rest)) : exec (.monitorReading c reading) s =
    .next (closeRead (handleReading (s.delivered c k line rest) c reading.toNat)) := by
  show execMonitorReading c reading s = _
  simp only [execMonitorReading, h, if_true]
  rfl

/-- A reading that is not awaited is discarded (R127). -/
theorem exec_monitorReading_discarded {reading : BitVec 12} (h : ∀ k line rest, s.engine.window ≠ .opened k line (c :: rest)) :
    exec (.monitorReading c reading) s = .next s := by
  show execMonitorReading c reading s = _
  unfold execMonitorReading
  split
  · next k line first rest hw => exact congrArg _ (if_neg fun e => h k line rest (by rw [e]; exact hw))
  · rfl

/-- The window's end after a reading (R85, R127). -/
theorem closeRead_eq (h : s.engine.window = .opened k line rest) (hpending : s.pendingPositive) : closeRead s = afterReading line rest s := by
  cases rest with
  | cons d rest => simp only [closeRead, afterReading, h]; rfl
  | nil =>
    have hend : closeRead s = endWindow s := by simp only [closeRead, h]
    rw [hend, endWindow_eq (by rw [h]; nofun), h]
    have hdrop : dropWindow s = { s with engine := { s.engine with window := .none } } := by
      simp only [dropWindow, driveWithoutWindow, h, List.not_mem_nil, if_false]
      rfl
    rw [hdrop]
    cases line with
    | false => rfl
    | true =>
      have hpassed := windowPassed_positive (s := { s with engine := { s.engine with window := .none } }) hpending
      cases hgroup : s.frame.pendingGroup <;> simp [hpassed, Window.carriesLine, afterReading, hgroup]

end Delivery

/-! ## A channel's fault as a reading is handled -/

theorem closeRead_cases (s : State) : closeRead s = s ∨ closeRead s = endWindow s := by
  unfold closeRead
  split
  · exact .inr rfl
  · exact .inl rfl

theorem closeRead_rests (s : State) : Rests s (closeRead s) := by
  rcases closeRead_cases s with h | h
  · rw [h]; exact .refl s
  · rw [h]; exact endWindow_rests s

@[simp] theorem closeRead_chan (s : State) (c : Chan) : (closeRead s).chan c = s.chan c := by
  rcases closeRead_cases s with h | h <;> simp [h, State.chan]

theorem closeRead_drive {s : State} {c : Chan} (hoff : s.drives.get c = .off) : (closeRead s).drives.get c = .off := by
  rcases closeRead_cases s with h | h
  · rw [h, hoff]
  · rw [h]
    exact (endWindow_drive s c).elim (fun e => e.trans hoff) id

theorem closeRead_window {s : State} {k : Nat} {line : Bool} {rest : List Chan} (h : s.engine.window = .opened k line rest) :
    (closeRead s).engine.window = if rest = [] then .none else .opened k line rest := by
  cases rest with
  | nil => simp [closeRead, h]
  | cons c rest => simp [closeRead, h]

theorem enterFault_drive (s : State) (c : Chan) (x : FaultCause) : (enterFault s c x).drives.get c = .off := by
  let r := State.raise (dropSample (s.setChan c { (s.chan c).dropCapture with state := .fault, faultCause := some x }) c) .channelFault
  have hoff : r.drives.get c = .off := dropSample_drive_self _ c
  show (spoil r .channel).drives.get c = .off
  cases h : r.inFlight with
  | false => rw [spoil_of_idle h, hoff]
  | true => rw [spoil_drives .channel h]; cases c <;> rfl

/-- A channel that no reading is awaited of leaves the window as it is (R126). -/
theorem dropSample_window {s : State} {c : Chan} {k : Nat} {line : Bool} {rest : List Chan} (h : s.engine.window = .opened k line rest)
    (hc : c ∉ rest) : (dropSample s c).engine.window = .opened k line rest := by
  unfold dropSample
  simp only [State.setDrive_engine, h]
  rw [if_neg (by simpa using hc), State.setDrive_engine, h]

/-- What a fault leaves where no frame is in flight of the channel's window. -/
theorem enterFault_window {s : State} {c : Chan} {k : Nat} {line : Bool} {rest : List Chan} (x : FaultCause)
    (h : s.engine.window = .opened k line rest) (hc : c ∉ rest) (hflight : s.inFlight = false) :
    (enterFault s c x).engine.window = .opened k line rest := by
  let d := dropSample (s.setChan c { (s.chan c).dropCapture with state := .fault, faultCause := some x }) c
  have hwindow : d.engine.window = .opened k line rest := dropSample_window h hc
  have hidle : (d.raise .channelFault).inFlight = false := by
    show d.inFlight = false
    simp only [d, State.inFlight, dropSample_state]
    exact hflight
  show (spoil (d.raise .channelFault) .channel).engine.window = _
  rw [spoil_of_idle hidle]
  exact hwindow

/-- Not in the window after its own reading. -/
theorem WindowSound.not_mem {s : State} (hs : WindowSound s) {c : Chan} {k : Nat} {line : Bool} {rest : List Chan}
    (h : s.engine.window = .opened k line (c :: rest)) : c ∉ rest := by
  obtain ⟨-, hsub, -⟩ := hs.reads k line _ h
  exact (List.nodup_cons.1 (hsub.nodup (by decide))).1

theorem dropCapture_eq (x : Channel) :
    x.dropCapture = { x with capture := false, lastCapture := if x.capture then .dropped else x.lastCapture } := by
  unfold Channel.dropCapture
  split
  · simp
  · next h => cases x; simp_all

section Fault

variable {s : State} {c : Chan} {k : Nat} {line : Bool} {rest : List Chan}

/-- A fault that a reading brings, with the channel's record `y` as the reading left it (R127, R136, R140). -/
def readFault (s : State) (c : Chan) (k : Nat) (line : Bool) (rest : List Chan) (y : Channel) (x : FaultCause) : State :=
  closeRead (enterFault ((s.delivered c k line rest).setChan c y) c x)

theorem readFault_chan (y : Channel) (x : FaultCause) (d : Chan) : (readFault s c k line rest y x).chan d =
    if d = c then { y.dropCapture with state := .fault, faultCause := some x } else s.chan d := by
  rw [readFault, closeRead_chan, enterFault_chan, State.setChan_chan_self, State.setChan_chan]
  split
  · rfl
  · rfl

theorem readFault_flag (y : Channel) (x : FaultCause) : (readFault s c k line rest y x).events.flags.getLsbD Event.channelFault.bit = true :=
  (closeRead_rests _).flags _ (enterFault_flag _ c x)

theorem readFault_drive (y : Channel) (x : FaultCause) : (readFault s c k line rest y x).drives.get c = .off :=
  closeRead_drive (enterFault_drive _ c x)

theorem readFault_window (y : Channel) (x : FaultCause) (h : s.engine.window = .opened k line (c :: rest)) (hs : WindowSound s)
    (hflight : s.inFlight = false) : (readFault s c k line rest y x).engine.window = if rest = [] then .none else .opened k line rest :=
  closeRead_window (enterFault_window x rfl (hs.not_mem h) hflight)

theorem readFault_spoiled (y : Channel) (x : FaultCause) (h : s.engine.window = .opened k line (c :: rest)) (hs : RecordsSound s)
    (hstep : StepSound s) (hflight : s.inFlight = true) : Spoiled s (readFault s c k line rest y x) .channel false := by
  have hkept : FlightKept s ((s.delivered c k line rest).setChan c y) := .same (by simp only [State.flight, h]; rfl)
  exact (enterFault_spoiled hs hstep hflight hkept c x).rests (closeRead_rests _)

end Fault

/-! ## The last reading of a window -/

/-- The window with no reading awaited stays, or ends (R127). -/
def EmptyKept (s t : State) : Prop := ∀ k line, (s.engine.window = .opened k line [] ∨ s.engine.window = .none) →
  t.engine.window = .opened k line [] ∨ t.engine.window = .none

theorem EmptyKept.of_engine {s t : State} (h : t.engine.window = s.engine.window) : EmptyKept s t := fun k line hs => by rwa [h]

theorem EmptyKept.trans {s t u : State} (h : EmptyKept s t) (k : EmptyKept t u) : EmptyKept s u := fun n line hs => k n line (h n line hs)

theorem dropSample_emptyKept (s : State) (c : Chan) : EmptyKept s (dropSample s c) := fun k line hs => by
  rcases hs with h | h
  · exact .inl (dropSample_window h List.not_mem_nil)
  · rcases dropSample_cases s c with e | ⟨n, l, r, left, hw, -⟩
    · rw [e]; exact .inr h
    · rw [h] at hw; cases hw

theorem spoil_emptyKept (s : State) (x : Cause) : EmptyKept s (spoil s x) := fun k line hs => by
  cases h : s.inFlight with
  | false => rwa [spoil_of_idle h]
  | true => exact .inr (by rw [spoil_engine h])

theorem enterFault_emptyKept (s : State) (c : Chan) (x : FaultCause) : EmptyKept s (enterFault s c x) := by
  let marked := s.setChan c { (s.chan c).dropCapture with state := .fault, faultCause := some x }
  have hmarked : EmptyKept s marked := .of_engine rfl
  have hraised : EmptyKept (dropSample marked c) ((dropSample marked c).raise .channelFault) := .of_engine rfl
  exact ((hmarked.trans (dropSample_emptyKept marked c)).trans hraised).trans (spoil_emptyKept _ _)

theorem enterReady_emptyKept (s : State) (c : Chan) : EmptyKept s (enterReady s c) := .of_engine (by simp [enterReady])

theorem handleReading_emptyKept (s : State) (c : Chan) (m : Nat) : EmptyKept s (handleReading s c m) := by
  have hchan (y : Channel) : EmptyKept s (s.setChan c y) := .of_engine rfl
  unfold handleReading
  split
  · exact (hchan _).trans (enterFault_emptyKept _ c _)
  · unfold handleSample
    dsimp only
    split
    · split
      · exact (hchan _).trans (enterReady_emptyKept _ c)
      · exact hchan _
    · split
      · exact (hchan _).trans (enterFault_emptyKept _ c _)
      · exact hchan _
    · exact .of_engine rfl

theorem closeRead_empty {s : State} {k : Nat} {line : Bool} (h : s.engine.window = .opened k line [] ∨ s.engine.window = .none) :
    (closeRead s).engine.window = .none := by
  rcases h with h | h <;> simp [closeRead, h]

/-! ## A reading of a WARMING channel -/

theorem takeCapture_none {x : Channel} (m : Nat) (h : x.capture = false) : x.takeCapture m = x := by simp [Channel.takeCapture, h]

theorem stable_iff (x : Channel) (m : Nat) (raw : Int) : x.stable m raw = true ↔
    x.first = false ∧ m < 4095 ∧ ∃ last, x.lastRaw = some last ∧ (raw - last).natAbs ≤ x.config.settleBand := by
  unfold Channel.stable
  cases x.lastRaw <;> simp [and_assoc]

/-- The record of a WARMING channel after its reading (R137). -/
def Channel.warmed (x : Channel) (m : Nat) : Channel :=
  { ({ x with lastM := some m } : Channel).warmSample m (rawDrift x.ref m) with lastRaw := some (rawDrift x.ref m) }

theorem warmed_eq {x : Channel} {m run : Nat}
    (hrun : let raw := rawDrift x.ref m
      let stable := x.first = false ∧ m < 4095 ∧ ∃ last, x.lastRaw = some last ∧ (raw - last).natAbs ≤ x.config.settleBand
      (stable → run = min 64 (x.stableRun + 1)) ∧ (¬stable → run = 0)) :
    x.warmed m = { x with
      first := false, stableRun := run, lastM := some m, lastRaw := some (rawDrift x.ref m)
      drift := max (-(x.config.driftLimit : Int)) (min (x.config.driftLimit : Int) (rawDrift x.ref m)) } := by
  obtain ⟨hstable, hnot⟩ := hrun
  have hnext : (if ({ x with lastM := some m } : Channel).stable m (rawDrift x.ref m) then satAdd 64 x.stableRun 1 else 0) = run := by
    split
    · next h => exact (hstable ((stable_iff _ _ _).1 h)).symm
    · next h => exact (hnot fun k => h ((stable_iff _ _ _).2 k)).symm
  unfold Channel.warmed Channel.warmSample
  rw [hnext]
  rfl

theorem handleReading_warming {s : State} {c : Chan} {m : Nat} (hm : m ≠ 0) (hstate : (s.chan c).state = .warming)
    (hcapture : (s.chan c).capture = false) : handleReading s c m =
      if (s.chan c).target ≤ ((s.chan c).warmed m).stableRun then enterReady (s.setChan c ((s.chan c).warmed m)) c
      else s.setChan c ((s.chan c).warmed m) := by
  have hread : (s.chan c).read m = { s.chan c with lastM := some m } := by rw [Channel.read, takeCapture_none m hcapture]
  rw [handleReading, if_neg hm]
  unfold handleSample
  rw [hread]
  dsimp only
  split
  · rfl
  · next h => rw [hstate] at h; cases h
  · next h _ => exact absurd hstate h

section Ready

variable {s : State} {c : Chan} {k : Nat} {line : Bool} {rest : List Chan} {y : Channel}

/-- The channel is READY, before the frame cycle tests its readiness (R137, R140). -/
def readReady (s : State) (c : Chan) (k : Nat) (line : Bool) (rest : List Chan) (y : Channel) : State :=
  State.raise ((s.delivered c k line rest).setChan c { y with state := .ready, outRun := 0 }) .channelReady

theorem enterReady_delivered : enterReady ((s.delivered c k line rest).setChan c y) c = testReady (readReady s c k line rest y) := by
  have hset (z : Channel) : ((s.delivered c k line rest).setChan c y).setChan c z = (s.delivered c k line rest).setChan c z := by
    cases c <;> rfl
  rw [enterReady, State.setChan_chan_self, hset]
  rfl

theorem readReady_ready_iff : (∀ d, ((readReady s c k line rest y).chan d).state = .ready) ↔ ∀ d, d ≠ c → (s.chan d).state = .ready := by
  have hchan (d : Chan) : (readReady s c k line rest y).chan d = if d = c then { y with state := .ready, outRun := 0 } else s.chan d :=
    State.setChan_chan ..
  refine ⟨fun h d hd => ?_, fun h d => ?_⟩
  · rw [← h d, hchan, if_neg hd]
  · rw [hchan]
    split
    · rfl
    · next hd => exact h d hd

theorem testReady_readReady (h : s.frame.state = .readying ∧ s.engine.state = .locked ∧ ∀ d, d ≠ c → (s.chan d).state = .ready) :
    testReady (readReady s c k line rest y) = enterExposing (readReady s c k line rest y) :=
  testReady_ready (s := readReady s c k line rest y) h.1 (readReady_ready_iff.2 h.2.2) h.2.1

theorem testReady_readReady_not (h : ¬(s.frame.state = .readying ∧ s.engine.state = .locked ∧ ∀ d, d ≠ c → (s.chan d).state = .ready)) :
    testReady (readReady s c k line rest y) = readReady s c k line rest y :=
  testReady_unready fun ⟨hstate, hchans, hengine⟩ => h ⟨hstate, hengine, readReady_ready_iff.1 hchans⟩

end Ready

/-- Settles O49: a reading of a WARMING channel, one discarded, a reading of 0, and the last of a window. -/
theorem warmingAndZeroReadings : Obligations.WarmingAndZeroReadings := by
  refine ⟨?_, fun s c reading h => exec_monitorReading_discarded h, ?_, fun s c reading k line t hw ht => ?_⟩
  · intro s c reading k line rest hgroups hw hm hstate hcapture x raw stable limit run hrun hnot y read
    have hy : x.warmed reading.toNat = y := warmed_eq ⟨hrun, hnot⟩
    have hm0 : reading.toNat ≠ 0 := fun e => hm (BitVec.eq_of_toNat_eq e)
    have hhandle : handleReading (s.delivered c k line rest) c reading.toNat =
        if x.target ≤ run then enterReady ((s.delivered c k line rest).setChan c y) c else (s.delivered c k line rest).setChan c y := by
      have h := handleReading_warming (s := s.delivered c k line rest) hm0 hstate hcapture
      rw [show ((s.delivered c k line rest).chan c).warmed reading.toNat = y from hy] at h
      exact h
    have hexec (u : State) (hu : handleReading (s.delivered c k line rest) c reading.toNat = u)
        (hwindow : u.engine.window = .opened k line rest) (hpending : u.frame.pendingGroup = s.frame.pendingGroup) :
        exec (.monitorReading c reading) s = .next (afterReading line rest u) := by
      rw [exec_monitorReading hw, hu, closeRead_eq hwindow fun n hn => hgroups.pending n (hpending ▸ hn)]
    refine ⟨fun htarget => ?_, fun htarget => ?_⟩
    · exact hexec _ (hhandle.trans (if_neg (Nat.not_le.2 htarget))) rfl rfl
    · have hready := (hhandle.trans (if_pos htarget)).trans enterReady_delivered
      refine ⟨fun hnot => ?_, fun i hall hslot => ⟨fun hpulses => ?_, fun hpulses hadvance => ?_⟩⟩
      · exact hexec _ (hready.trans (testReady_readReady_not hnot)) rfl rfl
      · exact hexec _ ((hready.trans (testReady_readReady hall)).trans (enterExposing_group hslot hpulses)) rfl rfl
      · exact hexec _ ((hready.trans (testReady_readReady hall)).trans (enterExposing_noSteps hslot hpulses hadvance)) rfl rfl
  · intro s c k line rest hw x
    let y : Channel := { x with lastM := some 0 }
    refine ⟨readFault s c k line rest y .darkMonitor, exec_monitorReading hw, ?_, fun d hd => ?_, readFault_flag y _, readFault_drive y _,
      readFault_window y _ hw, readFault_spoiled y _ hw⟩
    · rw [readFault_chan, if_pos rfl, dropCapture_eq]
    · rw [readFault_chan, if_neg hd]
  · rw [exec_monitorReading hw] at ht
    cases ht
    exact closeRead_empty (handleReading_emptyKept _ c _ k line (.inl rfl))

/-! ## The drift filter -/

/-- The filter's step is rounded toward zero (R139). -/
theorem filterStep_eq {d : Int} {n : Nat} {step : Int} (hrise : 0 ≤ d → step = ⌊(d : ℚ) / n⌋)
    (hfall : d < 0 → step = ⌈(d : ℚ) / n⌉) :
    step = d.tdiv n := by
  rcases lt_or_ge d 0 with hd | hd
  · rw [hfall hd, Rat.ceil_intCast_div_natCast]
    obtain ⟨e, rfl⟩ : ∃ e, d = -e := ⟨-d, by omega⟩
    rw [Int.neg_tdiv, neg_neg, Int.tdiv_eq_ediv_of_nonneg (by omega)]
  · rw [hrise hd, Rat.floor_intCast_div_natCast, Int.tdiv_eq_ediv_of_nonneg hd]

theorem outOfLimit_iff (x : Channel) (m : Nat) (raw : Int) :
    x.outOfLimit m raw = true ↔ m = 4095 ∨ (x.config.driftLimit : Int) < |raw| := by
  rw [Int.abs_eq_natAbs, Nat.cast_lt]
  simp [Channel.outOfLimit]

section Filter

variable (x : Channel) (m : Nat)

/-- What a pending capture leaves of the channel's record (R145). -/
theorem takeCapture_kept : (x.takeCapture m).capture = false ∧ (x.takeCapture m).config = x.config ∧ (x.takeCapture m).drift = x.drift ∧
    (x.takeCapture m).outRun = x.outRun := by
  unfold Channel.takeCapture
  split
  · split <;> exact ⟨rfl, rfl, rfl, rfl⟩
  · next h => exact ⟨Bool.eq_false_iff.2 h, rfl, rfl, rfl⟩

/-- A captured reading is the reference, against which it has no drift (R145). -/
theorem rawDrift_captured (h : x.capture = true) (hm : m < 4095) : rawDrift (x.takeCapture m).ref m = 0 := by
  rw [Channel.takeCapture, if_pos h, if_neg hm.ne]
  exact sub_self _

/-- The record of a READY channel after its reading (R139, R145). -/
def Channel.filtered : Channel :=
  { (x.read m).driftSample m (rawDrift (x.read m).ref m) with lastRaw := some (rawDrift (x.read m).ref m) }

variable {x m}

theorem filtered_within (h : ¬(m = 4095 ∨ (x.config.driftLimit : Int) < |rawDrift (x.takeCapture m).ref m|)) : x.filtered m =
    { x.takeCapture m with
      lastM := some m, lastRaw := some (rawDrift (x.takeCapture m).ref m), outRun := 0
      drift := x.drift + (rawDrift (x.takeCapture m).ref m - x.drift).tdiv x.config.driftDivisor } := by
  obtain ⟨-, hconfig, hdrift, -⟩ := takeCapture_kept x m
  rw [← hconfig, ← outOfLimit_iff] at h
  have hin : ¬(x.read m).outOfLimit m (rawDrift (x.read m).ref m) = true := h
  rw [Channel.filtered, Channel.driftSample, if_neg hin, ← hdrift, ← hconfig]
  rfl

theorem filtered_beyond (h : m = 4095 ∨ (x.config.driftLimit : Int) < |rawDrift (x.takeCapture m).ref m|) (hrun : x.outRun ≤ 3) :
    x.filtered m = { x.takeCapture m with
      lastM := some m, lastRaw := some (rawDrift (x.takeCapture m).ref m), outRun := x.outRun + 1
      drift := if m = 4095 ∨ rawDrift (x.takeCapture m).ref m < 0 then -(x.config.driftLimit : Int) else x.config.driftLimit } := by
  obtain ⟨-, hconfig, -, houtRun⟩ := takeCapture_kept x m
  have hnext : satAdd 4 (x.takeCapture m).outRun 1 = x.outRun + 1 := by unfold satAdd; omega
  rw [← hconfig, ← outOfLimit_iff] at h
  have hout : (x.read m).outOfLimit m (rawDrift (x.read m).ref m) = true := h
  rw [Channel.filtered, Channel.driftSample, if_pos hout, ← hconfig, ← hnext]
  rfl

end Filter

theorem handleReading_ready {s : State} {c : Chan} {m : Nat} (hm : m ≠ 0) (hstate : (s.chan c).state = .ready) :
    handleReading s c m = if ((s.chan c).filtered m).outRun = 4 then enterFault (s.setChan c ((s.chan c).filtered m)) c .drift
      else s.setChan c ((s.chan c).filtered m) := by
  have hread : ((s.chan c).read m).state = .ready := (read_state _ _).trans hstate
  rw [handleReading, if_neg hm]
  unfold handleSample
  dsimp only
  split
  · next h => rw [hread] at h; cases h
  · rfl
  · next _ h => exact absurd hread h

section Sample

variable {s : State} {c : Chan} {reading : BitVec 12} {k : Nat} {line : Bool} {rest : List Chan}
  (hw : s.engine.window = .opened k line (c :: rest)) (hm : reading ≠ 0) (hstate : (s.chan c).state = .ready)
  {y : Channel} (hy : (s.chan c).filtered reading.toNat = y)

include hw hm hstate hy

/-- A reading of a READY channel that brings no fault. -/
theorem exec_monitorReading_kept (hgroups : GroupsPositive s) (hrun : y.outRun ≠ 4) : exec (.monitorReading c reading) s =
    .next (afterReading line rest ((s.delivered c k line rest).setChan c y)) := by
  have hm0 : reading.toNat ≠ 0 := fun e => hm (BitVec.eq_of_toNat_eq e)
  have hhandle := handleReading_ready (s := s.delivered c k line rest) hm0 hstate
  rw [show ((s.delivered c k line rest).chan c).filtered reading.toNat = y from hy, if_neg hrun] at hhandle
  rw [exec_monitorReading hw, hhandle]
  exact congrArg _ (closeRead_eq rfl hgroups.pending)

/-- The fourth reading out of limit in a row faults the channel (R139). -/
theorem exec_monitorReading_fault (hrun : y.outRun = 4) :
    exec (.monitorReading c reading) s = .next (readFault s c k line rest y .drift) := by
  have hm0 : reading.toNat ≠ 0 := fun e => hm (BitVec.eq_of_toNat_eq e)
  have hhandle := handleReading_ready (s := s.delivered c k line rest) hm0 hstate
  rw [show ((s.delivered c k line rest).chan c).filtered reading.toNat = y from hy, if_pos hrun] at hhandle
  rw [exec_monitorReading hw, hhandle]
  rfl

end Sample

/-- Settles O50: the capture, then the sample in and out of limit. -/
theorem driftSampleIsFiltered : Obligations.DriftSampleIsFiltered := by
  intro s c reading k line rest hgroups hw hm hstate hrun hdivisor x m taken raw limit out read
  refine ⟨rawDrift_captured x m, fun hin step hrise hfall => ?_, fun hout => ?_⟩
  · have hstep : step = (raw - x.drift).tdiv x.config.driftDivisor :=
      filterStep_eq (fun h => hrise (sub_nonneg.1 h)) fun h => hfall (sub_neg.1 h)
    rw [hstep]
    exact exec_monitorReading_kept hw hm hstate (filtered_within hin) hgroups (show 0 ≠ 4 by decide)
  intro held
  refine ⟨fun hlow => ?_, fun hfour => ?_⟩
  · exact exec_monitorReading_kept hw hm hstate (filtered_beyond hout hrun) hgroups (show x.outRun + 1 ≠ 4 by omega)
  · let y : Channel := { taken with lastM := some m, lastRaw := some raw, outRun := x.outRun + 1, drift := held }
    have hcapture : y.capture = false := (takeCapture_kept x m).1
    refine ⟨readFault s c k line rest y .drift,
      exec_monitorReading_fault hw hm hstate (filtered_beyond hout hrun) (show x.outRun + 1 = 4 by omega), ?_, readFault_flag y _,
      readFault_drive y _, readFault_window y _ hw, readFault_spoiled y _ hw⟩
    have hdrop : y.dropCapture = y := if_neg (Bool.eq_false_iff.1 hcapture)
    rw [readFault_chan, if_pos rfl, hdrop]
    simp only [y, hfour]

end Sys2Proof.Machine
end

section
/-! The millisecond tick (R129, O55): what falls before it, and a tick on which no limit is passed. -/

namespace Sys2Proof.Machine

-- one theorem after another, as in the tests: a checker's memory limit leaves no room for many threads at once
set_option Elab.async false

open Sys2Proof

/-! ## The periods before a tick -/

/-- The periods that a millisecond lacks, where fewer of them than it lacks have passed (R129). -/
theorem pass_toTick {n : Nat} : ∀ {s : State}, n < s.engine.toTick → (pass n s).engine.toTick = s.engine.toTick - n := by
  induction n using Nat.strongRecOn with
  | _ n ih =>
    intro s hn
    have hbound : n = 0 ∨ s.engine.msCount + n < s.engine.config.refclkPerMs := by
      simp only [Engine.toTick] at hn
      omega
    by_cases hshort : n < s.toEvent
    · rw [pass_short hshort]
      simp only [Engine.toTick, countPeriods_msCount, show (countPeriods s n).engine.config = s.engine.config from rfl]
      omega
    · have hpos := s.toEvent_pos
      let c := countPeriods s s.toEvent
      let u := openIfDue (completeIfDue c)
      have hkept : LimitsKept c u := (completeIfDue_limits c).trans (openIfDue_limits _)
      have hms : u.engine.msCount = s.engine.msCount + s.toEvent := hkept.engine.msCount
      have hconfig : u.engine.config = s.engine.config := hkept.engine.config
      have hevents : periodEvents c = u := if_neg (by show ¬u.engine.config.refclkPerMs ≤ u.engine.msCount; rw [hms, hconfig]; omega)
      have htick : u.engine.toTick = s.engine.toTick - s.toEvent := by
        simp only [Engine.toTick, hms, hconfig]
        omega
      rw [pass_event (Nat.le_of_not_lt hshort), hevents, ih (n - s.toEvent) (by omega) (by omega), htick]
      omega

/-- What falls before a tick comes first, and the tick after it (log entry 45). -/
theorem millisecondTick_after {s : State} {n : Nat} (h : n < s.engine.toTick) : exec .millisecondTick s = exec .millisecondTick (pass n s) := by
  show Host.Outcome.next (pass s.engine.toTick s) = .next (pass (pass n s).engine.toTick (pass n s))
  rw [pass_toTick h, ← pass_add, Nat.add_sub_cancel' (Nat.le_of_lt h)]

/-- The state on which a tick that nothing comes before is taken (R119, R129). -/
def State.ticked (s : State) : State :=
  { s with engine := { s.engine with msCount := 0, periodCount := (countPeriods s s.engine.toTick).engine.periodCount } }

section Still

variable {s : State} (h : Still s (toTick s))

include h

/-- No line ends on the tick's own period (R125). -/
theorem completeIfDue_still : completeIfDue (countPeriods s s.engine.toTick) = countPeriods s s.engine.toTick := by
  have hpos := s.engine.toTick_pos
  unfold completeIfDue
  split
  · next x hx =>
    have hline : s.engine.toTick < s.engine.periodsTo x.ends := h.1 x hx
    refine if_neg fun hreached => ?_
    have hcount := of_decide_eq_true hreached
    rw [countPeriods_periodCount] at hcount
    simp only [Engine.periodsTo] at hline
    omega
  · rfl

/-- No window opens on the tick's own period (R127). -/
theorem openIfDue_still : openIfDue (countPeriods s s.engine.toTick) = countPeriods s s.engine.toTick := by
  have hpos := s.engine.toTick_pos
  refine if_neg ?_
  rw [Bool.and_eq_true]
  rintro ⟨hwaits, hreached⟩
  unfold State.windowWaits at hwaits
  split at hwaits
  · next k line hw =>
    have hopens : s.engine.toTick < s.engine.periodsTo s.engine.config.scanSpan := h.2 k line hw
    have hcount : min Config.maxPeriod s.engine.config.scanSpan ≤ _ := of_decide_eq_true hreached
    rw [countPeriods_periodCount] at hcount
    simp only [Engine.periodsTo] at hopens
    omega
  · cases hwaits

/-- The tick is the first thing that falls (R129). -/
theorem toEvent_still : s.toEvent = s.engine.toTick := by
  have hpos := s.engine.toTick_pos
  have hquiet : s.engine.toTick - 1 < s.toEvent := by
    refine Quiet.lt_toEvent ⟨?_, fun x hx => Nat.lt_of_le_of_lt (Nat.sub_le ..) (h.1 x hx), fun k line hw =>
      Nat.lt_of_le_of_lt (Nat.sub_le ..) (h.2 k line hw)⟩
    show s.engine.toTick - 1 < s.engine.toTick
    omega
  have hle : s.toEvent ≤ s.engine.toTick := Nat.min_le_left ..
  omega

/-- A tick that no line's end and no window's opening comes before (R129). -/
theorem exec_millisecondTick_still : exec .millisecondTick s = .next (tick s.ticked) := by
  have hdue : (countPeriods s s.engine.toTick).engine.config.refclkPerMs ≤ (countPeriods s s.engine.toTick).engine.msCount := by
    rw [countPeriods_msCount]
    simp only [Engine.toTick]
    show s.engine.config.refclkPerMs ≤ _
    omega
  have hevents : periodEvents (countPeriods s s.engine.toTick) = tick s.ticked := by
    rw [periodEvents, completeIfDue_still h, openIfDue_still h]
    exact if_pos hdue
  have hcount : (tick s.ticked).engine.periodCount ≤ Config.maxPeriod := by
    rw [(tick_lineKept s.ticked).count]
    exact Nat.min_le_left ..
  show Host.Outcome.next (pass s.engine.toTick s) = _
  rw [pass_event (Nat.le_of_eq (toEvent_still h)), toEvent_still h, Nat.sub_self, hevents, pass_zero, countPeriods_zero hcount]

end Still

/-! ## A tick on which no limit is passed -/

/-- The idle timer after a tick that takes no auto bias (R146). -/
def State.idleNext (s : State) : IdleBias := if s.inFlight then s.idle else s.idle.advance

/-- The frame's timers after a tick that they do not pass their limits on (R87, R91). -/
def State.frameNext (s : State) : FrameCycle :=
  { s.frame with
    startTimer := if s.frame.state.starting then s.frame.startTimer + 1 else s.frame.startTimer
    lineWait := if s.lineWaits then s.frame.lineWait + 1 else s.frame.lineWait }

/-- The engine after a tick that the facet timer does not pass its limit on (R123). -/
def Engine.facetNext (e : Engine) : Engine := if e.state = .stopped then e else { e with facetTimer := e.facetTimer + 1 }

/-- A channel after a tick that its warm timer does not pass its limit on (R138). -/
def Channel.warmNext (x : Channel) : Channel := if x.state = .warming then { x with warmTimer := x.warmTimer + 1 } else x

/-- The transport after a tick that the pull timer does not pass its limit on (R160). -/
def Transport.pullNext (t : Transport) : Transport :=
  if (t.advance.any fun a => a.pull = .seating) then { t with pullTimer := t.pullTimer + 1 } else t

/-- The image memory after a tick that its operation timer does not pass its limit on (R180). -/
def Image.timerNext (m : Image) : Image := if m.save = none then m else { m with timer := m.timer + 1 }

section Advance

variable {s : State}

theorem idleTick_advances (h : s.inFlight = true ∨ s.idle.delay = 0 ∨ s.idleNext.seconds < s.idle.delay) :
    idleTick s = { s with idle := s.idleNext } := by
  cases hflight : s.inFlight with
  | true => simp [idleTick, State.idleRuns, State.idleNext, hflight]
  | false =>
    have hdelay : s.idle.advance.delay = s.idle.delay := by
      unfold IdleBias.advance
      split
      · rfl
      · split <;> rfl
    have hnext : s.idleNext = s.idle.advance := by simp [State.idleNext, hflight]
    have hnot : ¬(s.idle.advance.delay ≠ 0 ∧ s.idle.advance.delay ≤ s.idle.advance.seconds) := by
      rw [hnext, hflight] at h
      rw [hdelay]
      rcases h with h | h | h
      · cases h
      · exact fun k => k.1 h
      · exact fun k => absurd k.2 (Nat.not_le.2 h)
    rw [hnext, idleTick, if_pos ((idleRuns_iff s).2 hflight)]
    exact if_neg hnot

theorem frameTicks_advance (hstart : s.frame.state.starting = true → s.frame.startTimer < s.frame.startTimeout)
    (hwait : s.lineWaits = true → s.frame.lineWait < s.port.lineWaitLimit) :
    lineWaitTick (startTick s) = { s with frame := s.frameNext } := by
  have hexcl : s.frame.state.starting = true → s.lineWaits = false := fun h => by
    rcases (starting_iff _).1 h with e | e <;> simp [State.lineWaits, e]
  cases hstarting : s.frame.state.starting with
  | true =>
    have hnot : s.lineWaits = false := hexcl hstarting
    have htick : startTick s = { s with frame := { s.frame with startTimer := s.frame.startTimer + 1 } } := by
      rw [startTick, if_pos hstarting, if_neg (Nat.not_le.2 (hstart hstarting))]
    rw [htick]
    simp only [lineWaitTick, State.frameNext, hstarting, hnot]
    exact if_neg (Bool.eq_false_iff.1 hnot)
  | false =>
    have htick : startTick s = s := if_neg (Bool.eq_false_iff.1 hstarting)
    rw [htick, lineWaitTick]
    cases hwaits : s.lineWaits with
    | true => rw [if_pos rfl, if_neg (Nat.not_le.2 (hwait hwaits)), State.frameNext, hstarting, hwaits]; rfl
    | false => rw [State.frameNext, hstarting, hwaits]; rfl

theorem facetTick_advances (h : s.engine.state ≠ .stopped → s.engine.facetTimer < s.engine.config.facetTimeout) :
    facetTick s = { s with engine := s.engine.facetNext } := by
  unfold facetTick Engine.facetNext
  split
  · next hstopped => rw [if_pos hstopped]
  · next hrunning => rw [if_neg (Nat.not_le.2 (h hrunning)), if_neg hrunning]

theorem warmTick_advances {c : Chan} (h : (s.chan c).state = .warming → (s.chan c).warmTimer < (s.chan c).config.warmTimeout) :
    warmTick s c = s.setChan c (s.chan c).warmNext := by
  have hsame : s.setChan c (s.chan c) = s := by cases c <;> rfl
  unfold warmTick Channel.warmNext
  dsimp only
  split
  · next hwarming => exact if_neg (Nat.not_le.2 (h hwarming))
  · exact hsame.symm

/-- The three warm timers are told apart by their channels (R138). -/
theorem warmTicks_advance (h : ∀ c, (s.chan c).state = .warming → (s.chan c).warmTimer < (s.chan c).config.warmTimeout) :
    warmTick (warmTick (warmTick s .red) .grn) .blu = { s with chans := s.chans.map Channel.warmNext } := by
  let r := s.setChan .red (s.chan .red).warmNext
  let g := r.setChan .grn (s.chan .grn).warmNext
  calc warmTick (warmTick (warmTick s .red) .grn) .blu
      = warmTick (warmTick r .grn) .blu := by rw [warmTick_advances (h .red)]
    _ = warmTick g .blu := by rw [warmTick_advances (s := r) (c := .grn) (h .grn)]; rfl
    _ = g.setChan .blu (s.chan .blu).warmNext := warmTick_advances (s := g) (c := .blu) (h .blu)
    _ = _ := rfl

theorem pullTick_advances (h : ∀ n l, s.transport.advance = some ⟨n, .seating, l⟩ → s.transport.pullTimer < l) :
    pullTick s = { s with transport := s.transport.pullNext } := by
  unfold pullTick Transport.pullNext
  split
  · next n l ha =>
    have hany : (s.transport.advance.any fun a => a.pull = .seating) = true := by rw [ha]; rfl
    rw [if_neg (Nat.not_le.2 (h n l ha)), hany, if_pos rfl]
  · next hnot =>
    have hany : (s.transport.advance.any fun a => a.pull = .seating) = false := by
      rcases ha : s.transport.advance with _ | ⟨n, pull, l⟩
      · rfl
      · cases pull with
        | seating => exact absurd ha (hnot n l)
        | waitingGroup => rfl
    rw [hany]
    rfl

theorem imageTick_advances (h : s.image.save ≠ none → s.image.timer < 500) : imageTick s = { s with image := s.image.timerNext } := by
  unfold imageTick Image.timerNext
  by_cases hsave : s.image.save = none
  · rw [if_pos hsave, if_neg (by simp [hsave])]
  · have hlow : ¬Config.operationLimit ≤ s.image.timer := Nat.not_le.2 (h hsave)
    rw [if_neg hsave, if_pos (Option.isSome_iff_ne_none.2 hsave), if_neg hlow]
    rfl

end Advance

/-- No timer that runs is at its limit (R87, R91, R123, R138, R146, R160, R180). -/
structure NoLimit (s : State) : Prop where
  idle : s.inFlight = true ∨ s.idle.delay = 0 ∨ s.idleNext.seconds < s.idle.delay
  start : s.frame.state.starting = true → s.frame.startTimer < s.frame.startTimeout
  wait : s.lineWaits = true → s.frame.lineWait < s.port.lineWaitLimit
  facet : s.engine.state ≠ .stopped → s.engine.facetTimer < s.engine.config.facetTimeout
  warm : ∀ c, (s.chan c).state = .warming → (s.chan c).warmTimer < (s.chan c).config.warmTimeout
  pull : ∀ n l, s.transport.advance = some ⟨n, .seating, l⟩ → s.transport.pullTimer < l
  image : s.image.save ≠ none → s.image.timer < 500

/-- Each timer that runs advances by 1, and nothing else changes (R129). -/
theorem tick_advances {s : State} (h : NoLimit s) : tick s = { s with
    idle := s.idleNext, frame := s.frameNext, engine := s.engine.facetNext, chans := s.chans.map Channel.warmNext
    transport := s.transport.pullNext, image := s.image.timerNext } := by
  let i : State := { s with idle := s.idleNext }
  let f : State := { i with frame := s.frameNext }
  let e : State := { f with engine := s.engine.facetNext }
  let w : State := { e with chans := s.chans.map Channel.warmNext }
  let p : State := { w with transport := s.transport.pullNext }
  have hidle : idleTick s = i := idleTick_advances h.idle
  have hframe : lineWaitTick (startTick i) = f := frameTicks_advance h.start h.wait
  have hengine : facetTick f = e := facetTick_advances (s := f) h.facet
  have hwarm : warmTick (warmTick (warmTick e .red) .grn) .blu = w := warmTicks_advance (s := e) h.warm
  have hpull : pullTick w = p := pullTick_advances (s := w) h.pull
  have himage : imageTick p = { p with image := s.image.timerNext } := imageTick_advances (s := p) h.image
  show imageTick (pullTick (warmTick (warmTick (warmTick (facetTick (lineWaitTick (startTick (idleTick s)))) .red) .grn) .blu)) = _
  rw [hidle, hframe, hengine, hwarm, hpull, himage]

theorem facetNext_eq (e : Engine) :
    e.facetNext = { e with facetTimer := if e.state = .stopped then e.facetTimer else e.facetTimer + 1 } := by
  unfold Engine.facetNext
  split <;> rfl

theorem pullNext_eq (t : Transport) :
    t.pullNext = { t with pullTimer := if (t.advance.any fun a => a.pull = .seating) then t.pullTimer + 1 else t.pullTimer } := by
  unfold Transport.pullNext
  split <;> rfl

theorem timerNext_eq (m : Image) : m.timerNext = { m with timer := if m.save = none then m.timer else m.timer + 1 } := by
  unfold Image.timerNext
  split <;> rfl

/-- The first part of O55: what falls before the tick comes first (log entry 45). -/
theorem millisecondTick_after_moments (s t : State) :
    (∀ x, s.line = some x → toMoment s (x.start + x.width * x.slotLength) < toTick s → exec .lineComplete s = .next t →
      exec .millisecondTick s = exec .millisecondTick t) ∧
    ∀ k line, s.engine.window = .scheduled k line → s.engine.state = .locked → toMoment s s.engine.config.scanSpan < toTick s →
      exec .monitorWindowOpen s = .next t → exec .millisecondTick s = exec .millisecondTick t := by
  refine ⟨fun x hx htick ht => ?_, fun k line hw hlocked htick ht => ?_⟩
  · rw [execLineComplete_line hx] at ht
    cases ht
    exact millisecondTick_after htick
  · have hopen : exec .monitorWindowOpen s = .next (pass (s.engine.periodsTo s.engine.config.scanSpan) s) := by
      show execMonitorWindowOpen s = _
      simp only [execMonitorWindowOpen, hw, hlocked]
    rw [hopen] at ht
    cases ht
    exact millisecondTick_after htick

end Sys2Proof.Machine
end

section
/-! The passings of a tick (R129, log entry 7): what each timer's passing leaves of what the others read. -/

namespace Sys2Proof.Machine

-- one theorem after another, as in the tests: a checker's memory limit leaves no room for many threads at once
set_option Elab.async false

open Sys2Proof

/-- The warm timers, the pull timer and the operation timer on a tick, which come after the facet timer (log entry 7). -/
def warmTicks (s : State) : State := warmTick (warmTick (warmTick s .red) .grn) .blu

theorem tick_eq (s : State) : tick s = imageTick (pullTick (warmTicks (facetTick (lineWaitTick (startTick (idleTick s)))))) := rfl

/-! ## A spoiled frame over the ticks that follow -/

theorem lineWaitTick_rests (s : State) : Rests s (lineWaitTick s) := by
  refine .ite _ (fun h => ?_) fun _ => .refl s
  have hflight : s.inFlight = true := inFlight_of_exposing ((lineWaits_iff s).1 h).1
  exact .ite _ (fun _ => .ite _ (fun _ => spoil_rests s _) fun _ => .refl s) fun _ =>
    ⟨fun k => (by rw [hflight] at k; cases k), FlagsKept.refl _⟩

theorem facetTick_rests (s : State) : Rests s (facetTick s) := by
  unfold facetTick
  split
  · exact .refl s
  · exact .ite _ (fun _ => stallEngine_rests s) fun _ => .same

theorem warmTick_rests (s : State) (c : Chan) : Rests s (warmTick s c) :=
  .ite _ (fun _ => .ite _ (fun _ => .ite _ (fun _ => enterFault_rests s c _) fun _ => .refl s) fun _ => .same) fun _ => .refl s

theorem warmTicks_rests (s : State) : Rests s (warmTicks s) :=
  ((warmTick_rests s .red).trans (warmTick_rests _ .grn)).trans (warmTick_rests _ .blu)

theorem pullTick_rests (s : State) : Rests s (pullTick s) := by
  unfold pullTick
  split
  · refine .ite _ (fun _ => ?_) fun _ => .same
    unfold pullTimeoutPassed
    split
    · exact .same rfl (raise_flagsKept _ _)
    · exact .refl s
  · exact .refl s

theorem failSave_rests (s : State) : Rests s (failSave s) := by
  unfold failSave
  split
  · exact .refl s
  · next v _ =>
    rw [failFlash_eq]
    exact .same rfl (raise_flagsKept _ _)

theorem imageTick_rests (s : State) : Rests s (imageTick s) :=
  .ite _ (fun _ => .ite _ (fun _ => failSave_rests s) fun _ => .same) fun _ => .refl s

/-- After the warm timers come the pull timer and the operation timer. -/
theorem lastTicks_rests (s : State) : Rests s (imageTick (pullTick s)) := (pullTick_rests s).trans (imageTick_rests _)

theorem afterFacet_rests (s : State) : Rests s (imageTick (pullTick (warmTicks s))) := (warmTicks_rests s).trans (lastTicks_rests _)

theorem afterWait_rests (s : State) : Rests s (imageTick (pullTick (warmTicks (facetTick s)))) :=
  (facetTick_rests s).trans (afterFacet_rests _)

theorem afterStart_rests (s : State) : Rests s (imageTick (pullTick (warmTicks (facetTick (lineWaitTick s))))) :=
  (lineWaitTick_rests s).trans (afterWait_rests _)

/-! ## The engine and LOCK_LOST over the other ticks -/

/-- The engine but for its window stays as it was, no flag is cleared, and LOCK_LOST is not raised. -/
structure EngineRests (s t : State) : Prop where
  engine : t.engine = { s.engine with window := t.engine.window }
  rise : FlagsRise s t

theorem EngineRests.trans {s t u : State} (h : EngineRests s t) (k : EngineRests t u) : EngineRests s u where
  engine := by rw [k.engine, h.engine]
  rise := h.rise.trans k.rise

theorem EngineRests.fields {s t : State} (h : EngineRests s t) : t.engine.state = s.engine.state ∧
    t.engine.facetTimer = s.engine.facetTimer ∧ t.engine.config = s.engine.config := by
  rw [h.engine]
  exact ⟨rfl, rfl, rfl⟩

theorem EngineRests.same {s t : State} (engine : t.engine = s.engine := by rfl) (events : t.events = s.events := by rfl) : EngineRests s t :=
  ⟨by rw [engine], .same events⟩

theorem EngineRests.refl (s : State) : EngineRests s s := .same

theorem EngineRests.ite {s t u : State} (c : Prop) [Decidable c] (ht : c → EngineRests s t) (hu : ¬c → EngineRests s u) :
    EngineRests s (if c then t else u) := by
  split
  · exact ht ‹_›
  · exact hu ‹_›

theorem dropSample_engineRests (s : State) (c : Chan) : EngineRests s (dropSample s c) := ⟨dropSample_engine s c, dropSample_rise s c⟩

theorem spoil_engineRests (s : State) (c : Cause) : EngineRests s (spoil s c) := by
  cases h : s.inFlight with
  | false => rw [spoil_of_idle h]; exact .refl s
  | true => exact ⟨by rw [spoil_engine h], spoil_rise s c⟩

theorem raise_engineRests (s : State) {e : Event} (h : e ≠ .lockLost) : EngineRests s (s.raise e) := ⟨rfl, raise_rise s h⟩

theorem enterFault_engineRests (s : State) (c : Chan) (x : FaultCause) : EngineRests s (enterFault s c x) := by
  let d := dropSample (s.setChan c { (s.chan c).dropCapture with state := .fault, faultCause := some x }) c
  have hdrop : EngineRests s d := .trans .same (dropSample_engineRests _ c)
  exact (hdrop.trans (raise_engineRests d (e := .channelFault) (by decide))).trans (spoil_engineRests _ _)

theorem biasIfReady_engineRests (s : State) (c : Chan) : EngineRests s (biasIfReady s c) :=
  .ite _ (fun _ => .trans .same (dropSample_engineRests _ c)) fun _ => .refl s

theorem idleTick_engineRests (s : State) : EngineRests s (idleTick s) := by
  refine .ite _ (fun _ => .ite _ (fun _ => ?_) fun _ => .same) fun _ => .refl s
  exact .trans (.trans (.trans .same (biasIfReady_engineRests _ .red)) (biasIfReady_engineRests _ .grn)) (biasIfReady_engineRests _ .blu)

theorem startTick_engineRests (s : State) : EngineRests s (startTick s) :=
  .ite _ (fun _ => .ite _ (fun _ => .ite _ (fun _ => spoil_engineRests s _) fun _ => .refl s) fun _ => .same) fun _ => .refl s

theorem lineWaitTick_engineRests (s : State) : EngineRests s (lineWaitTick s) :=
  .ite _ (fun _ => .ite _ (fun _ => .ite _ (fun _ => spoil_engineRests s _) fun _ => .refl s) fun _ => .same) fun _ => .refl s

theorem warmTick_engineRests (s : State) (c : Chan) : EngineRests s (warmTick s c) :=
  .ite _ (fun _ => .ite _ (fun _ => .ite _ (fun _ => enterFault_engineRests s c _) fun _ => .refl s) fun _ => .same) fun _ => .refl s

theorem warmTicks_engineRests (s : State) : EngineRests s (warmTicks s) :=
  ((warmTick_engineRests s .red).trans (warmTick_engineRests _ .grn)).trans (warmTick_engineRests _ .blu)

theorem pullTick_engineRests (s : State) : EngineRests s (pullTick s) := by
  unfold pullTick
  split
  · refine .ite _ (fun _ => ?_) fun _ => .same
    unfold pullTimeoutPassed
    split
    · exact .trans .same (raise_engineRests (endAdvance s .timeout) (e := .xportTimeout) (by decide))
    · exact .refl s
  · exact .refl s

theorem failSave_engineRests (s : State) : EngineRests s (failSave s) := by
  unfold failSave
  split
  · exact .refl s
  · next v _ =>
    rw [failFlash_eq]
    exact .trans .same (raise_engineRests _ (e := .imageFault) (by decide))

theorem imageTick_engineRests (s : State) : EngineRests s (imageTick s) :=
  .ite _ (fun _ => .ite _ (fun _ => failSave_engineRests s) fun _ => .same) fun _ => .refl s

theorem beforeFacet_engineRests (s : State) : EngineRests s (lineWaitTick (startTick (idleTick s))) :=
  ((idleTick_engineRests s).trans (startTick_engineRests _)).trans (lineWaitTick_engineRests _)

theorem afterFacet_engineRests (s : State) : EngineRests s (imageTick (pullTick (warmTicks s))) :=
  ((warmTicks_engineRests s).trans (pullTick_engineRests _)).trans (imageTick_engineRests _)

/-! ## The channels -/

theorem enterFault_chan_other {s : State} {c d : Chan} (x : FaultCause) (h : d ≠ c) : (enterFault s c x).chan d = s.chan d := by
  rw [enterFault_chan, if_neg h]

/-- A warm timer has reached its limit (R138). -/
def Channel.warmPasses (x : Channel) : Prop := x.state = .warming ∧ x.config.warmTimeout ≤ x.warmTimer

theorem warmTick_passes {s : State} {c : Chan} (h : (s.chan c).warmPasses) : warmTick s c = enterFault s c .warmTimeout := by
  obtain ⟨hstate, hlimit⟩ := h
  simp only [warmTick, warmTimeoutPassed, hstate, hlimit, if_true]

/-- A warm timer's tick leaves the other channels, and its own where it is not WARMING (R138). -/
theorem warmTick_chan {s : State} {c d : Chan} (h : d ≠ c ∨ (s.chan d).state ≠ .warming) : (warmTick s c).chan d = s.chan d := by
  by_cases hwarming : (s.chan c).state = .warming
  · have hd : d ≠ c := by
      rcases h with h | h
      · exact h
      · rintro rfl
        exact h hwarming
    simp only [warmTick, warmTimeoutPassed, hwarming, if_true]
    split
    · exact enterFault_chan_other _ hd
    · rw [State.setChan_chan, if_neg hd]
  · simp only [warmTick, hwarming, if_false]

/-- The channel after its warm timer has passed its limit (R138, R140). -/
def Channel.timedOut (x : Channel) : Channel := { x.dropCapture with state := .fault, faultCause := some .warmTimeout }

theorem warmTick_timedOut {s : State} {c : Chan} (h : (s.chan c).warmPasses) : (warmTick s c).chan c = (s.chan c).timedOut := by
  rw [warmTick_passes h, enterFault_chan, if_pos rfl]
  rfl

/-- Each channel whose warm timer passes is in FAULT after the warm timers (R138). -/
theorem warmTicks_timedOut {s : State} {c : Chan} (h : (s.chan c).warmPasses) : (warmTicks s).chan c = (s.chan c).timedOut := by
  let r := warmTick s .red
  let g := warmTick r .grn
  cases c with
  | red =>
    have hr : r.chan .red = (s.chan .red).timedOut := warmTick_timedOut h
    exact ((warmTick_chan (s := g) (.inl (by decide))).trans (warmTick_chan (s := r) (.inl (by decide)))).trans hr
  | grn =>
    have hr : r.chan .grn = s.chan .grn := warmTick_chan (.inl (by decide))
    have hg : g.chan .grn = (s.chan .grn).timedOut := by rw [← hr]; exact warmTick_timedOut (by rw [hr]; exact h)
    exact (warmTick_chan (s := g) (.inl (by decide))).trans hg
  | blu =>
    have hr : r.chan .blu = s.chan .blu := warmTick_chan (.inl (by decide))
    have hg : g.chan .blu = s.chan .blu := (warmTick_chan (s := r) (.inl (by decide))).trans hr
    show (warmTick g .blu).chan .blu = _
    rw [← hg]
    exact warmTick_timedOut (by rw [hg]; exact h)

/-- CHANNEL_FAULT is raised with the passing of any warm timer (R140). -/
theorem warmTicks_flag {s : State} {c : Chan} (h : (s.chan c).warmPasses) :
    (warmTicks s).events.flags.getLsbD Event.channelFault.bit = true := by
  let r := warmTick s .red
  let g := warmTick r .grn
  have hflag {u : State} {d : Chan} (hu : (u.chan d).warmPasses) : (warmTick u d).events.flags.getLsbD Event.channelFault.bit = true := by
    rw [warmTick_passes hu]
    exact enterFault_flag u d _
  cases c with
  | red => exact (warmTick_rests g .blu).flags _ ((warmTick_rests r .grn).flags _ (hflag h))
  | grn =>
    have hr : r.chan .grn = s.chan .grn := warmTick_chan (.inl (by decide))
    exact (warmTick_rests g .blu).flags _ (hflag (u := r) (by rw [hr]; exact h))
  | blu =>
    have hr : r.chan .blu = s.chan .blu := warmTick_chan (.inl (by decide))
    have hg : g.chan .blu = s.chan .blu := (warmTick_chan (s := r) (.inl (by decide))).trans hr
    exact hflag (u := g) (by rw [hg]; exact h)

theorem startTick_chan (s : State) (c : Chan) : (startTick s).chan c = s.chan c := by
  unfold startTick startTimeoutPassed
  split
  · split
    · simp [State.chan]
    · rfl
  · rfl

theorem lineWaitTick_chan (s : State) (c : Chan) : (lineWaitTick s).chan c = s.chan c := by
  unfold lineWaitTick lineWaitPassed
  split
  · split
    · simp [State.chan]
    · rfl
  · rfl

theorem facetTick_chan (s : State) (c : Chan) : (facetTick s).chan c = s.chan c := by
  unfold facetTick stallEngine
  split
  · rfl
  · split
    · split <;> simp [State.chan]
    · rfl

theorem pullTick_chan (s : State) (c : Chan) : (pullTick s).chan c = s.chan c := by
  unfold pullTick pullTimeoutPassed
  split
  · split
    · split <;> rfl
    · rfl
  · rfl

theorem failSave_chan (s : State) (c : Chan) : (failSave s).chan c = s.chan c := by
  unfold failSave
  split
  · rfl
  · rw [failFlash_eq]; rfl

theorem imageTick_chan (s : State) (c : Chan) : (imageTick s).chan c = s.chan c := by
  unfold imageTick
  split
  · split
    · exact failSave_chan s c
    · rfl
  · rfl

theorem lastTicks_chan (s : State) (c : Chan) : (imageTick (pullTick s)).chan c = s.chan c := (imageTick_chan _ c).trans (pullTick_chan s c)

theorem frameTicks_chan (s : State) (c : Chan) : (facetTick (lineWaitTick (startTick s))).chan c = s.chan c :=
  ((facetTick_chan _ c).trans (lineWaitTick_chan _ c)).trans (startTick_chan s c)

/-! ## The idle timer -/

theorem biasIfReady_chan (s : State) (c d : Chan) : (biasIfReady s c).chan d =
    if d = c ∧ (s.chan c).state = .ready then { (s.chan c).dropCapture with state := .biased } else s.chan d := by
  by_cases h : (s.chan c).state = .ready
  · have hchans : (biasIfReady s c).chans = (s.setChan c { (s.chan c).dropCapture with state := .biased }).chans := by
      rw [biasIfReady, if_pos h, enterBiased, dropSample_chans]
    rw [State.chan, hchans, ← State.chan, State.setChan_chan]
    simp only [h, and_true]
  · rw [biasIfReady, if_neg h, if_neg fun k => h k.2]

theorem biasIfReady_drive_off {s : State} {c d : Chan} (h : s.drives.get d = .off ∨ d = c ∧ (s.chan c).state = .ready) :
    (biasIfReady s c).drives.get d = .off := by
  unfold biasIfReady
  split
  · next hready =>
    by_cases hd : d = c
    · rw [hd]
      exact dropSample_drive_self _ c
    · have hoff : s.drives.get d = .off := h.resolve_right fun k => hd k.1
      exact (dropSample_drive (s.setChan c { (s.chan c).dropCapture with state := .biased }) c d).elim (fun e => e.trans hoff) id
  · next hready => exact h.resolve_right fun k => hready k.2

theorem autoBias_chan (s : State) (c : Chan) : (autoBias s).chan c =
    if (s.chan c).state = .ready then { (s.chan c).dropCapture with state := .biased } else s.chan c := by
  have hidle (d : Chan) : State.chan { s with idle := { s.idle with seconds := 0, millis := 0 } } d = s.chan d := rfl
  cases c <;> simp [autoBias, biasIfReady_chan, hidle]

theorem autoBias_drive {s : State} {c : Chan} (h : (s.chan c).state = .ready) : (autoBias s).drives.get c = .off := by
  let i : State := { s with idle := { s.idle with seconds := 0, millis := 0 } }
  let r := biasIfReady i .red
  let g := biasIfReady r .grn
  show (biasIfReady g .blu).drives.get c = .off
  have hr (d : Chan) (hd : d ≠ .red) : r.chan d = s.chan d := by rw [biasIfReady_chan, if_neg fun k => hd k.1]; rfl
  have hg (d : Chan) (hd : d ≠ .grn) : g.chan d = r.chan d := by rw [biasIfReady_chan, if_neg fun k => hd k.1]
  cases c with
  | red => exact biasIfReady_drive_off (.inl (biasIfReady_drive_off (.inl (biasIfReady_drive_off (.inr ⟨rfl, h⟩)))))
  | grn => exact biasIfReady_drive_off (.inl (biasIfReady_drive_off (.inr ⟨rfl, by rw [hr .grn (by decide)]; exact h⟩)))
  | blu => exact biasIfReady_drive_off (.inr ⟨rfl, by rw [hg .blu (by decide), hr .blu (by decide)]; exact h⟩)

theorem biasIfReady_idle (s : State) (c : Chan) : (biasIfReady s c).idle = s.idle := by
  unfold biasIfReady
  split
  · simp
  · rfl

theorem autoBias_idle (s : State) : (autoBias s).idle = { s.idle with seconds := 0, millis := 0 } := by
  simp only [autoBias, biasIfReady_idle]

theorem autoBias_state (s : State) : (autoBias s).frame.state = s.frame.state := by simp only [autoBias, biasIfReady_state]

/-- With no frame in flight, what follows auto bias leaves the idle timer, a drive that is off, and a channel that is not WARMING (R146). -/
structure IdleRests (s t : State) : Prop where
  state : s.inFlight = false → t.frame.state = s.frame.state
  idle : s.inFlight = false → t.idle = s.idle
  dark : ∀ c, s.drives.get c = .off → t.drives.get c = .off
  chan : ∀ c, (s.chan c).state ≠ .warming → t.chan c = s.chan c

theorem IdleRests.trans {s t u : State} (h : IdleRests s t) (k : IdleRests t u) : IdleRests s u := by
  have hflight (hs : s.inFlight = false) : t.inFlight = false := by rw [State.inFlight, h.state hs]; exact hs
  exact ⟨fun hs => (k.state (hflight hs)).trans (h.state hs), fun hs => (k.idle (hflight hs)).trans (h.idle hs),
    fun c hc => k.dark c (h.dark c hc), fun c hc => (k.chan c (by rw [h.chan c hc]; exact hc)).trans (h.chan c hc)⟩

theorem IdleRests.same {s t : State} (state : t.frame.state = s.frame.state := by rfl) (idle : t.idle = s.idle := by rfl)
    (drives : t.drives = s.drives := by rfl) (chans : t.chans = s.chans := by rfl) : IdleRests s t :=
  ⟨fun _ => state, fun _ => idle, fun c h => by rwa [drives], fun c _ => by rw [State.chan, chans]; rfl⟩

theorem IdleRests.refl (s : State) : IdleRests s s := .same

theorem endWindow_idleRests (s : State) : IdleRests s (endWindow s) :=
  ⟨fun _ => endWindow_state s, fun _ => endWindow_idle s, fun c h => (endWindow_drive s c).elim (fun e => e.trans h) id,
    fun c _ => by rw [State.chan, endWindow_chans]; rfl⟩

theorem drivesOff_idleRests (s : State) : IdleRests s s.drivesOff :=
  ⟨fun _ => rfl, fun _ => rfl, fun c _ => by cases c <;> rfl, fun _ _ => rfl⟩

theorem spoil_idleRests (s : State) (c : Cause) : IdleRests s (spoil s c) :=
  ⟨fun h => by rw [spoil_of_idle h], fun h => by rw [spoil_of_idle h], fun d h => (spoil_drive s c d).elim (fun e => e.trans h) id,
    fun d _ => by rw [State.chan, spoil_chans]; rfl⟩

theorem enterFault_idleRests {s : State} {c : Chan} (x : FaultCause) (hwarming : (s.chan c).state = .warming) :
    IdleRests s (enterFault s c x) := by
  let m := s.setChan c { (s.chan c).dropCapture with state := .fault, faultCause := some x }
  let d := dropSample m c
  have hstate : d.frame.state = s.frame.state := dropSample_state m c
  have hr (h : s.inFlight = false) : (d.raise .channelFault).inFlight = false := by
    show d.frame.state.inFlight = false
    rw [hstate]
    exact h
  have hspoil (h : s.inFlight = false) : enterFault s c x = d.raise .channelFault := spoil_of_idle (hr h)
  refine ⟨fun h => by rw [hspoil h]; exact hstate, fun h => by rw [hspoil h]; exact dropSample_idle m c, fun e he => ?_, fun e he => ?_⟩
  · have hd : d.drives.get e = .off := (dropSample_drive m c e).elim (fun k => k.trans he) id
    exact (spoil_drive (d.raise .channelFault) .channel e).elim (fun k => k.trans hd) id
  · refine enterFault_chan_other x ?_
    rintro rfl
    exact he hwarming

theorem leaveLocked_idleRests (s : State) (next : EngineState) : IdleRests s (leaveLocked s next) := by
  let r := State.raise { s with engine := { s.engine with state := next, good := 0 } } .lockLost
  have hr : IdleRests s r := .same
  have hspoil : IdleRests r (if r.frame.state = .exposing then spoil r .sync else r) := by
    split
    · exact spoil_idleRests r _
    · exact .refl r
  exact (hr.trans hspoil).trans ((drivesOff_idleRests _).trans (endWindow_idleRests _))

theorem startTick_idleRests (s : State) : IdleRests s (startTick s) := by
  unfold startTick startTimeoutPassed
  split
  · split
    · exact spoil_idleRests s _
    · exact .same
  · exact .refl s

theorem lineWaitTick_idleRests (s : State) : IdleRests s (lineWaitTick s) := by
  unfold lineWaitTick lineWaitPassed
  split
  · split
    · exact spoil_idleRests s _
    · exact .same
  · exact .refl s

theorem facetTick_idleRests (s : State) : IdleRests s (facetTick s) := by
  unfold facetTick stallEngine
  split
  · exact .refl s
  · split
    · split
      · exact .refl s
      · exact .same
      · exact .trans .same (leaveLocked_idleRests { s with engine := s.engine.stalled } .stopped)
    · exact .same

theorem warmTick_idleRests (s : State) (c : Chan) : IdleRests s (warmTick s c) := by
  by_cases h : (s.chan c).state = .warming
  · simp only [warmTick, warmTimeoutPassed, h, if_true]
    split
    · exact enterFault_idleRests _ h
    · refine ⟨fun _ => rfl, fun _ => rfl, fun _ => id, fun d hd => ?_⟩
      rw [State.setChan_chan, if_neg]
      rintro rfl
      exact hd h
  · rw [warmTick, if_neg h]
    exact .refl s

theorem pullTick_idleRests (s : State) : IdleRests s (pullTick s) := by
  unfold pullTick pullTimeoutPassed
  split
  · split
    · exact .same
    · exact .same
  · exact .refl s

theorem imageTick_idleRests (s : State) : IdleRests s (imageTick s) := by
  unfold imageTick failSave
  split
  · split
    · split
      · exact .refl s
      · rw [failFlash_eq]
        exact .same
    · exact .same
  · exact .refl s

theorem afterIdle_idleRests (s : State) : IdleRests s (imageTick (pullTick (warmTicks (facetTick (lineWaitTick (startTick s)))))) :=
  ((startTick_idleRests s).trans (lineWaitTick_idleRests _)).trans <| (facetTick_idleRests _).trans <|
    ((warmTick_idleRests _ .red).trans (warmTick_idleRests _ .grn)).trans <| (warmTick_idleRests _ .blu).trans <|
      (pullTick_idleRests _).trans (imageTick_idleRests _)

end Sys2Proof.Machine
end

section
/-! The passings of a tick (R129, O55): the transport, the frame in flight, and the tick as a whole. -/

namespace Sys2Proof.Machine

-- one theorem after another, as in the tests: a checker's memory limit leaves no room for many threads at once
set_option Elab.async false

open Sys2Proof

/-! ## The transport and the image over the other ticks -/

/-- Where no advance waits for a group, the transport stays but for its group; the image memory stays. -/
structure PullRests (s t : State) : Prop where
  transport : (∀ a, s.transport.advance = some a → a.pull = .seating) → t.transport = { s.transport with group := t.transport.group }
  image : t.image = s.image

theorem PullRests.trans {s t u : State} (h : PullRests s t) (k : PullRests t u) : PullRests s u where
  transport ha := by
    have ht := h.transport ha
    have hadvance : t.transport.advance = s.transport.advance := by rw [ht]
    rw [k.transport fun a hta => ha a (hadvance ▸ hta), ht]
  image := k.image.trans h.image

theorem PullRests.fields {s t : State} (h : PullRests s t) (ha : ∀ a, s.transport.advance = some a → a.pull = .seating) :
    t.transport.advance = s.transport.advance ∧ t.transport.pullTimer = s.transport.pullTimer ∧ t.transport.roll = s.transport.roll := by
  rw [h.transport ha]
  exact ⟨rfl, rfl, rfl⟩

theorem PullRests.same {s t : State} (transport : t.transport = s.transport := by rfl) (image : t.image = s.image := by rfl) : PullRests s t :=
  ⟨fun _ => by rw [transport], image⟩

theorem PullRests.refl (s : State) : PullRests s s := .same

theorem PullRests.ite {s t u : State} (c : Prop) [Decidable c] (ht : c → PullRests s t) (hu : ¬c → PullRests s u) :
    PullRests s (if c then t else u) := by
  split
  · exact ht ‹_›
  · exact hu ‹_›

theorem beginGroup_pullRests (s : State) (k : GroupKind) (n : Nat) : PullRests s (beginGroup s k n) := by
  refine .ite _ (fun _ => ⟨fun ha => ?_, by simp⟩) fun _ => ⟨fun _ => rfl, rfl⟩
  rw [groupEnded_alone k ha]

theorem windowPassed_pullRests (s : State) : PullRests s (windowPassed s) := by
  unfold windowPassed
  split
  · exact .refl s
  · exact .trans .same (beginGroup_pullRests _ _ _)

theorem endWindow_pullRests (s : State) : PullRests s (endWindow s) := by
  by_cases h : s.engine.window = .none
  · rw [endWindow_of_none h]
    exact .refl s
  · rw [endWindow_eq h]
    exact .ite _ (fun _ => .trans .same (windowPassed_pullRests (dropWindow s))) fun _ => .same

theorem dropSample_pullRests (s : State) (c : Chan) : PullRests s (dropSample s c) := by
  rcases dropSample_cases s c with h | ⟨k, line, toRead, left, -, h | h⟩
  · rw [h]; exact .same
  · rw [h]; exact .same
  · rw [h]; exact .trans .same (endWindow_pullRests _)

theorem spoil_pullRests (s : State) (c : Cause) : PullRests s (spoil s c) := by
  cases h : s.inFlight with
  | false => rw [spoil_of_idle h]; exact .refl s
  | true =>
    have htransport : (spoil s c).transport = (endWindow s.lineCut).transport := by simp [spoil, h, State.lineCut]
    have hend : PullRests s (endWindow s.lineCut) := .trans .same (endWindow_pullRests s.lineCut)
    exact ⟨fun ha => by rw [htransport]; exact hend.transport ha, spoil_image s c⟩

theorem enterFault_pullRests (s : State) (c : Chan) (x : FaultCause) : PullRests s (enterFault s c x) := by
  let d := dropSample (s.setChan c { (s.chan c).dropCapture with state := .fault, faultCause := some x }) c
  have hdrop : PullRests s d := .trans .same (dropSample_pullRests _ c)
  have hraise : PullRests d (d.raise .channelFault) := .same
  exact (hdrop.trans hraise).trans (spoil_pullRests _ _)

theorem leaveLocked_pullRests (s : State) (next : EngineState) : PullRests s (leaveLocked s next) := by
  let r := State.raise { s with engine := { s.engine with state := next, good := 0 } } .lockLost
  have hr : PullRests s r := .same
  have hspoil : PullRests r (if r.frame.state = .exposing then spoil r .sync else r) :=
    .ite _ (fun _ => spoil_pullRests r _) fun _ => .refl r
  exact (hr.trans hspoil).trans (.trans .same (endWindow_pullRests _))

theorem biasIfReady_pullRests (s : State) (c : Chan) : PullRests s (biasIfReady s c) :=
  .ite _ (fun _ => .trans .same (dropSample_pullRests _ c)) fun _ => .refl s

theorem idleTick_pullRests (s : State) : PullRests s (idleTick s) := by
  refine .ite _ (fun _ => .ite _ (fun _ => ?_) fun _ => .same) fun _ => .refl s
  exact .trans (.trans (.trans .same (biasIfReady_pullRests _ .red)) (biasIfReady_pullRests _ .grn)) (biasIfReady_pullRests _ .blu)

theorem startTick_pullRests (s : State) : PullRests s (startTick s) :=
  .ite _ (fun _ => .ite _ (fun _ => .ite _ (fun _ => spoil_pullRests s _) fun _ => .refl s) fun _ => .same) fun _ => .refl s

theorem lineWaitTick_pullRests (s : State) : PullRests s (lineWaitTick s) :=
  .ite _ (fun _ => .ite _ (fun _ => .ite _ (fun _ => spoil_pullRests s _) fun _ => .refl s) fun _ => .same) fun _ => .refl s

theorem facetTick_pullRests (s : State) : PullRests s (facetTick s) := by
  unfold facetTick stallEngine
  split
  · exact .refl s
  · refine .ite _ (fun _ => ?_) fun _ => .same
    split
    · exact .refl s
    · exact .same
    · exact .trans .same (leaveLocked_pullRests { s with engine := s.engine.stalled } .stopped)

theorem warmTick_pullRests (s : State) (c : Chan) : PullRests s (warmTick s c) :=
  .ite _ (fun _ => .ite _ (fun _ => .ite _ (fun _ => enterFault_pullRests s c _) fun _ => .refl s) fun _ => .same) fun _ => .refl s

theorem beforePull_pullRests (s : State) : PullRests s (warmTicks (facetTick (lineWaitTick (startTick (idleTick s))))) :=
  ((idleTick_pullRests s).trans (startTick_pullRests _)).trans <| (lineWaitTick_pullRests _).trans <| (facetTick_pullRests _).trans <|
    ((warmTick_pullRests _ .red).trans (warmTick_pullRests _ .grn)).trans (warmTick_pullRests _ .blu)

theorem pullTick_image (s : State) : (pullTick s).image = s.image := by
  unfold pullTick pullTimeoutPassed
  split
  · split
    · split <;> rfl
    · rfl
  · rfl

theorem imageTick_transport (s : State) : (imageTick s).transport = s.transport := by
  unfold imageTick failSave
  split
  · split
    · split
      · rfl
      · rw [failFlash_eq]; rfl
    · rfl
  · rfl

/-- The pull timer passes its limit (R160). -/
theorem pullTick_passes {s : State} {n l : Nat} (h : s.transport.advance = some ⟨n, .seating, l⟩) (hlimit : l ≤ s.transport.pullTimer) :
    pullTick s = (endAdvance s .timeout).raise .xportTimeout := by
  simp only [pullTick, pullTimeoutPassed, h, hlimit, if_true]

/-- The operation timer passes its limit (R180). -/
theorem imageTick_passes {s : State} {v : Save} (h : s.image.save = some v) (hlimit : 500 ≤ s.image.timer) :
    (imageTick s).events.flags.getLsbD Event.imageFault.bit = true ∧
      (imageTick s).image = { s.image with state := .idle, last := .fault, failed := some v.step.failed, save := none } := by
  have htick : imageTick s = (State.modImage (failFlash s v)
      fun m => { m with state := .idle, last := .fault, failed := some v.step.failed, save := none }).raise .imageFault := by
    simp only [imageTick, failSave, h, Option.isSome_some, if_true]
    exact if_pos hlimit
  rw [htick]
  refine ⟨raise_flag_self _ _, ?_⟩
  rw [failFlash_eq]
  rfl

/-! ## The frame in flight -/

/-- A passing of no timer leaves the frame's flight as it was. -/
theorem warmTick_flight {s : State} {c : Chan} (h : ¬(s.chan c).warmPasses) : FlightKept s (warmTick s c) := by
  by_cases hwarming : (s.chan c).state = .warming
  · have hlow : ¬(s.chan c).config.warmTimeout ≤ (s.chan c).warmTimer := fun k => h ⟨hwarming, k⟩
    simp only [warmTick, hwarming, hlow, if_true, if_false]
    exact .same
  · rw [warmTick, if_neg hwarming]
    exact .refl s

section Frame

variable {s : State} (hs : RecordsSound s) (hstep : StepSound s)

include hs hstep

/-- A warm timer that passes spoils the frame in flight (R94, R138). -/
theorem warmTicks_spoiled {u : State} (hflight : s.inFlight = true) (h : FlightKept s u) {c : Chan} (hc : (u.chan c).warmPasses) :
    Spoiled s (warmTicks u) .channel false := by
  have hspoiled {w : State} {d : Chan} (hw : FlightKept s w) (hd : (w.chan d).warmPasses) : Spoiled s (warmTick w d) .channel false := by
    rw [warmTick_passes hd]
    exact enterFault_spoiled hs hstep hflight hw d _
  let r := warmTick u .red
  let g := warmTick r .grn
  by_cases hred : (u.chan .red).warmPasses
  · exact ((hspoiled h hred).rests (warmTick_rests r .grn)).rests (warmTick_rests g .blu)
  have hr : FlightKept s r := h.trans (warmTick_flight hred)
  have hrchan {d : Chan} (hd : d ≠ .red) : r.chan d = u.chan d := warmTick_chan (.inl hd)
  by_cases hgrn : (r.chan .grn).warmPasses
  · exact (hspoiled hr hgrn).rests (warmTick_rests g .blu)
  have hg : FlightKept s g := hr.trans (warmTick_flight hgrn)
  have hgchan {d : Chan} (hd : d ≠ .grn) : g.chan d = r.chan d := warmTick_chan (.inl hd)
  cases c with
  | red => exact absurd hc hred
  | grn => exact absurd (by rw [hrchan (by decide)]; exact hc) hgrn
  | blu => exact hspoiled hg (by rw [hgchan (by decide), hrchan (by decide)]; exact hc)

end Frame

/-- The facet timer's tick spoils no frame outside EXPOSING (R123). -/
theorem facetTick_flight {s : State} (h : s.frame.state ≠ .exposing) : FlightKept s (facetTick s) := by
  unfold facetTick stallEngine
  split
  · exact .refl s
  · split
    · split
      · exact .refl s
      · exact .same
      · have hleave : FlightKept { s with engine := s.engine.stalled } (leaveLocked { s with engine := s.engine.stalled } .stopped) := by
          unfold leaveLocked
          dsimp only
          rw [if_neg (by exact h)]
          exact (endWindow_flight _).after
        exact hleave.after
    · exact .same

theorem idleTick_inFlight {s : State} (h : s.inFlight = true) : idleTick s = s := by simp [idleTick, State.idleRuns, h]

theorem startTick_not {s : State} (h : s.frame.state.starting = false) : startTick s = s := if_neg (Bool.eq_false_iff.1 h)

theorem lineWaitTick_not {s : State} (h : s.lineWaits = false) : lineWaitTick s = s := if_neg (Bool.eq_false_iff.1 h)

theorem lineWaits_not {s : State} (h : s.frame.state ≠ .exposing) : s.lineWaits = false :=
  Bool.eq_false_iff.2 fun k => h ((lineWaits_iff s).1 k).1

theorem starting_inFlight {s : State} (h : s.frame.state.starting = true) : s.inFlight = true ∧ s.frame.state ≠ .exposing := by
  rcases (starting_iff _).1 h with e | e <;> simp [State.inFlight, e, FrameState.inFlight]

theorem exposing_not_starting {s : State} (h : s.frame.state = .exposing) : s.frame.state.starting = false := by rw [h]; rfl

theorem spoil_timers (s : State) (c : Cause) :
    (spoil s c).frame.startTimer = s.frame.startTimer ∧ (spoil s c).frame.lineWait = s.frame.lineWait := by
  cases h : s.inFlight with
  | false => rw [spoil_of_idle h]; exact ⟨rfl, rfl⟩
  | true =>
    have hkept := endWindow_kept (State.drivesOff { s with line := none })
    simp [spoil, h, leaveFlight, hkept.startTimer, hkept.lineWait]

/-- The frame's timers stay as the spoil left them. -/
theorem Spoiled.timers {s m t : State} {c : Cause} (h : Spoiled s m c false) (k : Rests m t) :
    t.frame.startTimer = m.frame.startTimer ∧ t.frame.lineWait = m.frame.lineWait := by
  have hflight : m.inFlight = false := by
    rw [State.inFlight, h.state]
    split <;> rfl
  have hland := k.landing hflight h.window h.drives
  exact ⟨congrArg Landing.startTimer hland, congrArg Landing.lineWait hland⟩

/-! ## The tick as a whole -/

section Tick

variable {s : State}

/-- The start timer passes its limit (R87, R94). -/
theorem tick_startPasses (hs : RecordsSound s) (hstep : StepSound s) (hstarting : s.frame.state.starting = true)
    (hlimit : s.frame.startTimeout ≤ s.frame.startTimer) :
    Spoiled s (tick s.ticked) .startTimeout false ∧ (tick s.ticked).frame.startTimer = s.frame.startTimer := by
  obtain ⟨hflight, -⟩ := starting_inFlight hstarting
  let u := spoil s.ticked .startTimeout
  have hstart : startTick (idleTick s.ticked) = u := by
    rw [idleTick_inFlight (s := s.ticked) hflight]
    exact (if_pos hstarting).trans ((if_pos hlimit).trans (if_pos hstarting))
  have hspoiled : Spoiled s u .startTimeout false := .of_flight hs hstep hflight .same _
  have hrests : Rests u (tick s.ticked) := by
    rw [tick_eq, hstart]
    exact afterStart_rests u
  exact ⟨hspoiled.rests hrests, (hspoiled.timers hrests).1.trans (spoil_timers s.ticked _).1⟩

/-- The line wait timer passes its limit (R91, R94). -/
theorem tick_waitPasses (hs : RecordsSound s) (hstep : StepSound s) (hwaits : s.lineWaits = true)
    (hlimit : s.port.lineWaitLimit ≤ s.frame.lineWait) :
    Spoiled s (tick s.ticked) .starve false ∧ (tick s.ticked).frame.lineWait = s.frame.lineWait := by
  have hexposing := ((lineWaits_iff s).1 hwaits).1
  have hflight := inFlight_of_exposing hexposing
  let u := spoil s.ticked .starve
  have hwait : lineWaitTick (startTick (idleTick s.ticked)) = u := by
    rw [idleTick_inFlight (s := s.ticked) hflight, startTick_not (s := s.ticked) (exposing_not_starting hexposing)]
    exact (if_pos hwaits).trans ((if_pos hlimit).trans (if_pos hwaits))
  have hspoiled : Spoiled s u .starve false := .of_flight hs hstep hflight .same _
  have hrests : Rests u (tick s.ticked) := by
    rw [tick_eq, hwait]
    exact afterWait_rests u
  exact ⟨hspoiled.rests hrests, (hspoiled.timers hrests).2.trans (spoil_timers s.ticked _).2⟩

/-- Before the facet timer, a frame in EXPOSING that the line wait timer does not spoil stands as it did. -/
theorem beforeFacet_exposing (hexposing : s.frame.state = .exposing)
    (hnot : ¬(s.lineWaits = true ∧ s.port.lineWaitLimit ≤ s.frame.lineWait)) :
    let u := lineWaitTick (startTick (idleTick s.ticked))
    FlightKept s u ∧ u.frame.state = s.frame.state := by
  intro u
  have hu : u = lineWaitTick s.ticked := by
    show lineWaitTick (startTick (idleTick s.ticked)) = _
    rw [idleTick_inFlight (s := s.ticked) (inFlight_of_exposing hexposing), startTick_not (s := s.ticked) (exposing_not_starting hexposing)]
  cases hwaits : s.lineWaits with
  | false =>
    rw [hu, lineWaitTick_not (s := s.ticked) hwaits]
    exact ⟨.same, rfl⟩
  | true =>
    have hlow : ¬s.port.lineWaitLimit ≤ s.frame.lineWait := fun k => hnot ⟨hwaits, k⟩
    have hnext : u = { s.ticked with frame := { s.frame with lineWait := s.frame.lineWait + 1 } } :=
      hu.trans ((if_pos hwaits).trans (if_neg hlow))
    rw [hnext]
    exact ⟨.same, rfl⟩

/-- What a stall leaves of the engine (R123). -/
theorem stallEngine_stalled {u : State} (h : u.engine.state ≠ .stopped) :
    (stallEngine u).engine = { u.engine.stalled with window := (stallEngine u).engine.window } ∧
      (stallEngine u).lockFlag = (u.lockFlag || decide (u.engine.state = .locked)) := by
  unfold stallEngine
  cases hstate : u.engine.state with
  | stopped => exact absurd hstate h
  | acquiring => exact ⟨rfl, (Bool.or_false _).symm⟩
  | locked =>
    refine ⟨?_, ?_⟩
    · show (leaveLocked { u with engine := u.engine.stalled } .stopped).engine = _
      rw [leaveLocked_engine]
      rfl
    · rw [decide_eq_true rfl, Bool.or_true]
      exact (leaveLocked_flags _ _).2

theorem facetTick_passes {u : State} (h : u.engine.state ≠ .stopped) (hlimit : u.engine.config.facetTimeout ≤ u.engine.facetTimer) :
    facetTick u = stallEngine u := by
  unfold facetTick
  split
  · next e => exact absurd e h
  · exact if_pos hlimit

/-- The facet timer passes its limit (R123). -/
theorem tick_facetPasses (h : s.engine.state ≠ .stopped) (hlimit : s.engine.config.facetTimeout ≤ s.engine.facetTimer) :
    (tick s.ticked).engine.state = .stopped ∧ (tick s.ticked).engine.facetTimer = s.engine.facetTimer ∧
      (tick s.ticked).engine.revCount = none ∧ (tick s.ticked).engine.facet = none ∧
      (tick s.ticked).lockFlag = (s.lockFlag || decide (s.engine.state = .locked)) := by
  let u := lineWaitTick (startTick (idleTick s.ticked))
  have hbefore : EngineRests s.ticked u := beforeFacet_engineRests _
  obtain ⟨hstate, htimer, hconfig⟩ := hbefore.fields
  have hfacet : facetTick u = stallEngine u := facetTick_passes (by rw [hstate]; exact h) (by rw [htimer, hconfig]; exact hlimit)
  obtain ⟨hengine, hlock⟩ := stallEngine_stalled (u := u) (by rw [hstate]; exact h)
  have hafter : EngineRests (stallEngine u) (tick s.ticked) := by
    rw [tick_eq, hfacet]
    exact afterFacet_engineRests _
  rw [hafter.engine, hafter.rise.lock, hlock, hbefore.rise.lock, hengine, hstate]
  exact ⟨rfl, htimer, rfl, rfl, rfl⟩

/-- The facet timer's passing in LOCKED spoils a frame in EXPOSING (R94, R123). -/
theorem facetTick_spoiled {u : State} (hs : RecordsSound s) (hstep : StepSound s) (hexposing : s.frame.state = .exposing)
    (hflight : FlightKept s u) (hframe : u.frame.state = s.frame.state) (hlocked : u.engine.state = .locked)
    (hlimit : u.engine.config.facetTimeout ≤ u.engine.facetTimer) : Spoiled s (facetTick u) .sync false := by
  have hstall : stallEngine u = leaveLocked { u with engine := u.engine.stalled } .stopped := by simp only [stallEngine, hlocked]
  rw [facetTick_passes (by rw [hlocked]; decide) hlimit, hstall]
  exact leaveLocked_spoiled hs hstep hexposing _ (hflight.trans .same) hframe

/-- The facet timer's passing spoils a frame in EXPOSING that the line wait timer has not spoiled (R94, R123). -/
theorem tick_facetSpoils (hs : RecordsSound s) (hstep : StepSound s) (hlocked : s.engine.state = .locked)
    (hlimit : s.engine.config.facetTimeout ≤ s.engine.facetTimer) (hexposing : s.frame.state = .exposing)
    (hnot : ¬(s.lineWaits = true ∧ s.port.lineWaitLimit ≤ s.frame.lineWait)) : Spoiled s (tick s.ticked) .sync false := by
  let u := lineWaitTick (startTick (idleTick s.ticked))
  obtain ⟨hflight, hframe⟩ := beforeFacet_exposing hexposing hnot
  have hbefore : EngineRests s.ticked u := beforeFacet_engineRests _
  obtain ⟨hstate, htimer, hconfig⟩ := hbefore.fields
  have hspoiled : Spoiled s (facetTick u) .sync false :=
    facetTick_spoiled hs hstep hexposing hflight hframe (hstate.trans hlocked) (by rw [hconfig, htimer]; exact hlimit)
  exact hspoiled.rests (afterFacet_rests (facetTick u))

/-- A channel in WARMING is not touched before the warm timers. -/
theorem beforeWarm_chan {c : Chan} (h : (s.chan c).state = .warming) :
    (facetTick (lineWaitTick (startTick (idleTick s.ticked)))).chan c = s.chan c := by
  rw [frameTicks_chan]
  show (idleTick s.ticked).chan c = s.ticked.chan c
  unfold idleTick
  split
  · dsimp only
    split
    · rw [autoBias_chan, if_neg]
      · rfl
      · intro hready
        exact absurd (h.symm.trans hready) (by decide)
    · rfl
  · rfl

/-- A warm timer passes its limit (R138). -/
theorem tick_warmPasses {c : Chan} (h : (s.chan c).warmPasses) : (tick s.ticked).chan c = (s.chan c).timedOut ∧
    (tick s.ticked).events.flags.getLsbD Event.channelFault.bit = true := by
  let u := facetTick (lineWaitTick (startTick (idleTick s.ticked)))
  have hchan : u.chan c = s.chan c := beforeWarm_chan h.1
  have hpasses : (u.chan c).warmPasses := by rw [hchan]; exact h
  refine ⟨?_, (lastTicks_rests _).flags _ (warmTicks_flag hpasses)⟩
  rw [tick_eq, lastTicks_chan, ← hchan]
  exact warmTicks_timedOut hpasses

/-- A warm timer's passing spoils a frame before EXPOSING that the start timer has not spoiled (R94, R138). -/
theorem tick_warmSpoils (hs : RecordsSound s) (hstep : StepSound s) {c : Chan} (h : (s.chan c).warmPasses)
    (hstarting : s.frame.state.starting = true) (hnot : ¬s.frame.startTimeout ≤ s.frame.startTimer) :
    Spoiled s (tick s.ticked) .channel false := by
  obtain ⟨hflight, hexposing⟩ := starting_inFlight hstarting
  let u : State := { s.ticked with frame := { s.frame with startTimer := s.frame.startTimer + 1 } }
  have hstart : startTick (idleTick s.ticked) = u := by
    rw [idleTick_inFlight (s := s.ticked) hflight]
    exact (if_pos hstarting).trans (if_neg hnot)
  have hwait : lineWaitTick (startTick (idleTick s.ticked)) = u := by
    rw [hstart]
    exact lineWaitTick_not (lineWaits_not (s := u) hexposing)
  have hkept : FlightKept s (facetTick u) := .after (facetTick_flight (s := u) hexposing)
  have hchan : (facetTick u).chan c = s.chan c := facetTick_chan u c
  rw [tick_eq, hwait]
  exact (warmTicks_spoiled hs hstep hflight hkept (by rw [hchan]; exact h)).rests (lastTicks_rests _)

/-- The idle timer reaches the delay (R146). -/
theorem tick_idlePasses (hflight : s.inFlight = false) (hdelay : s.idle.delay ≠ 0)
    (hlimit : s.idle.delay ≤ if s.idle.millis = 999 ∧ s.idle.seconds < 65535 then s.idle.seconds + 1 else s.idle.seconds) :
    (tick s.ticked).idle = ⟨s.idle.delay, 0, 0⟩ ∧
      ∀ c, (s.chan c).state = .ready → ((tick s.ticked).chan c).state = .biased ∧ (tick s.ticked).drives.get c = .off := by
  let i : State := { s.ticked with idle := s.idle.advance }
  have hadvance : s.idle.advance.delay = s.idle.delay ∧ s.idle.delay ≤ s.idle.advance.seconds := by
    unfold IdleBias.advance
    split at hlimit
    · next h =>
      have htop : s.idle.seconds < Config.max16 := h.2
      rw [if_neg (by omega), if_pos htop]
      exact ⟨rfl, hlimit⟩
    · split
      · exact ⟨rfl, hlimit⟩
      · split
        · exact ⟨rfl, Nat.le_succ_of_le hlimit⟩
        · exact ⟨rfl, hlimit⟩
  obtain ⟨hkept, hreached⟩ := hadvance
  have hbias : idleTick s.ticked = autoBias i := by
    refine (if_pos ((idleRuns_iff s.ticked).2 hflight)).trans (if_pos ?_)
    show s.idle.advance.delay ≠ 0 ∧ s.idle.advance.delay ≤ s.idle.advance.seconds
    rw [hkept]
    exact ⟨hdelay, hreached⟩
  have hrests : IdleRests (autoBias i) (tick s.ticked) := by
    rw [tick_eq, hbias]
    exact afterIdle_idleRests _
  have hidle : (autoBias i).inFlight = false := by
    rw [State.inFlight, autoBias_state]
    exact hflight
  refine ⟨?_, fun c hc => ?_⟩
  · rw [hrests.idle hidle, autoBias_idle]
    show (⟨s.idle.advance.delay, 0, 0⟩ : IdleBias) = _
    rw [hkept]
  · have hchan : ((autoBias i).chan c).state = .biased := by
      rw [autoBias_chan, if_pos (by exact hc)]
    rw [hrests.chan c (by rw [hchan]; decide)]
    exact ⟨hchan, hrests.dark c (autoBias_drive (s := i) hc)⟩

/-- The roll advance ends as its pull timer passes, and the operation timer's tick leaves it so (R160). -/
theorem lastTicks_pullPasses {u : State} {n l : Nat} (h : u.transport.advance = some ⟨n, .seating, l⟩) (hlimit : l ≤ u.transport.pullTimer) :
    (imageTick (pullTick u)).transport.advance = none ∧ (imageTick (pullTick u)).transport.last = .timeout ∧
      (imageTick (pullTick u)).transport.pullTimer = u.transport.pullTimer ∧ (imageTick (pullTick u)).transport.roll = u.transport.roll ∧
      (imageTick (pullTick u)).events.flags.getLsbD Event.xportTimeout.bit = true := by
  have hpull := pullTick_passes h hlimit
  have hflag : (imageTick (pullTick u)).events.flags.getLsbD Event.xportTimeout.bit = true :=
    (imageTick_rests _).flags _ (by rw [hpull]; exact raise_flag_self _ _)
  rw [imageTick_transport, hpull] at *
  exact ⟨rfl, rfl, rfl, rfl, hflag⟩

/-- The pull timer of an advance passes its limit (R160). -/
theorem tick_pullPasses {n l : Nat} (h : s.transport.advance = some ⟨n, .seating, l⟩) (hlimit : l ≤ s.transport.pullTimer) :
    (tick s.ticked).transport.advance = none ∧ (tick s.ticked).transport.last = .timeout ∧
      (tick s.ticked).transport.pullTimer = s.transport.pullTimer ∧ (tick s.ticked).transport.roll = s.transport.roll ∧
      (tick s.ticked).events.flags.getLsbD Event.xportTimeout.bit = true := by
  let u := warmTicks (facetTick (lineWaitTick (startTick (idleTick s.ticked))))
  have hseating : ∀ a, s.transport.advance = some a → a.pull = .seating := fun a ha => by
    rw [h] at ha
    cases ha
    rfl
  obtain ⟨hadvance, htimer, hroll⟩ := (beforePull_pullRests s.ticked).fields hseating
  obtain ⟨hnone, hlast, hkept, hfilm, hflag⟩ := lastTicks_pullPasses (hadvance.trans h) (by rw [htimer]; exact hlimit)
  exact ⟨hnone, hlast, hkept.trans htimer, hfilm.trans hroll, hflag⟩

/-- The operation timer of a save passes its limit (R180). -/
theorem tick_imagePasses {v : Save} (h : s.image.save = some v) (hlimit : 500 ≤ s.image.timer) :
    (tick s.ticked).events.flags.getLsbD Event.imageFault.bit = true ∧
      (tick s.ticked).image = { s.image with state := .idle, last := .fault, failed := some v.step.failed, save := none } := by
  let u := pullTick (warmTicks (facetTick (lineWaitTick (startTick (idleTick s.ticked)))))
  have himage : u.image = s.image := (pullTick_image _).trans (beforePull_pullRests s.ticked).image
  have hpasses := imageTick_passes (s := u) (v := v) (by rw [himage]; exact h) (by rw [himage]; exact hlimit)
  rw [himage] at hpasses
  exact hpasses

end Tick

/-! ## O55 -/

/-- The frame record after a tick on which its timers pass no limit, by the states in which they run (R87, R91). -/
theorem frameNext_eq (s : State) : s.frameNext = { s.frame with
    startTimer := if s.frame.state = .seating ∨ s.frame.state = .readying then s.frame.startTimer + 1 else s.frame.startTimer
    lineWait := @ite _ (s.frame.state = .exposing ∧ ∀ b ∈ [s.port.buf0, s.port.buf1], b.state = .empty ∨ b.state = .filling)
      (Classical.dec _) (s.frame.lineWait + 1) s.frame.lineWait } := by
  rw [State.frameNext, if_congr (starting_iff _) rfl rfl]
  congr 1
  exact @if_congr _ _ _ _ (Classical.dec _) _ _ _ _ (lineWaits_iff s) rfl rfl

/-- The engine after a tick on which the facet timer passes no limit (R119, R123, R129). -/
theorem ticked_facetNext (s : State) : s.ticked.engine.facetNext = { s.engine with
    msCount := 0
    periodCount := min (2 ^ 24 - 1) (s.engine.periodCount + max 1 (s.engine.config.refclkPerMs - s.engine.msCount))
    facetTimer := if s.engine.state = .stopped then s.engine.facetTimer else s.engine.facetTimer + 1 } := facetNext_eq _

theorem map_warmNext (s : State) (c : Chan) : (s.chans.map Channel.warmNext).get c =
    if (s.chan c).state = .warming then { s.chan c with warmTimer := (s.chan c).warmTimer + 1 } else s.chan c := by
  cases c <;> rfl

/-- Settles O55: the moments before a tick, a tick without a passing, and each passing in the log entry's order. -/
theorem tickAdvancesTheTimers : Obligations.TickAdvancesTheTimers := by
  refine ⟨millisecondTick_after_moments, ?_, fun s hs hstep hstill => ⟨tick s.ticked, exec_millisecondTick_still hstill, ?_⟩⟩
  · intro s hstill starting waiting idleNext hidle hstart hwait hfacet hwarm hpull himage
    have hnone : NoLimit s.ticked := ⟨hidle, fun h => hstart ((starting_iff _).1 h),
      fun h => hwait ((lineWaits_iff s).1 h), hfacet, hwarm, hpull, himage⟩
    refine ⟨_, (exec_millisecondTick_still hstill).trans (congrArg _ (tick_advances hnone)), rfl, frameNext_eq s, ticked_facetNext s,
      map_warmNext s, pullNext_eq _, timerNext_eq _, rfl⟩
  · intro starting startPasses waitPasses
    have hwaits : waitPasses ↔ s.lineWaits = true ∧ s.port.lineWaitLimit ≤ s.frame.lineWait := by
      rw [lineWaits_iff]
      exact and_assoc.symm
    refine ⟨fun ⟨hstarting, hlimit⟩ => tick_startPasses hs hstep ((starting_iff _).2 hstarting) hlimit,
      fun h => tick_waitPasses hs hstep (hwaits.1 h).1 (hwaits.1 h).2, fun hrunning hlimit => ?_, fun c hwarming hlimit => ?_,
      tick_idlePasses, fun n l => tick_pullPasses, fun v hsave hlimit => ?_⟩
    · obtain ⟨hstate, htimer, hcount, hnumber, hflag⟩ := tick_facetPasses hrunning hlimit
      exact ⟨hstate, htimer, hcount, hnumber, hflag, fun hlocked hexposing hnot =>
        tick_facetSpoils hs hstep hlocked hlimit hexposing fun h => hnot (hwaits.2 h)⟩
    · obtain ⟨hchan, hflag⟩ := tick_warmPasses (s := s) (c := c) ⟨hwarming, hlimit⟩
      have htimer : (s.chan c).timedOut.warmTimer = (s.chan c).warmTimer := by rw [Channel.timedOut, dropCapture_eq]
      rw [hchan]
      exact ⟨rfl, rfl, htimer, hflag, fun hstarting hnot =>
        tick_warmSpoils hs hstep ⟨hwarming, hlimit⟩ ((starting_iff _).2 hstarting) fun h => hnot ⟨hstarting, h⟩⟩
    · obtain ⟨hflag, himage⟩ := tick_imagePasses hsave hlimit
      refine ⟨hflag, himage.trans ?_⟩
      rfl

end Sys2Proof.Machine
end

section
/-! The lanes and the link below the commands (O37): bits shifted in one after another, the word that the periods of the lanes bring, the
bytes that a transaction brings, and the word under way over the commands of the port. -/

namespace Sys2Proof.Machine

-- one theorem after another, as in the tests: a checker's memory limit leaves no room for many threads at once
set_option Elab.async false

open Sys2Proof

/-! ## Bits shifted in -/

/-- A register into which the first `n` bits of `x` were shifted, the most significant first, holds the top `n` bits of `x`. -/
theorem foldl_shiftIn {width : Nat} (x : BitVec width) {n : Nat} (hn : n ≤ width) :
    ((List.range n).map x.getMsbD).foldl (fun (y : BitVec width) bit => y <<< 1 ||| BitVec.ofNat width bit.toNat) 0 =
      x >>> (width - n) := by
  induction n with
  | zero => exact (BitVec.ushiftRight_eq_zero (Nat.le_refl width)).symm
  | succ n ih =>
    rw [List.range_succ, List.map_append, List.foldl_append, ih (by omega)]
    have hnext : x.getMsbD n = x.getLsbD (width - (n + 1)) := by
      rw [BitVec.getMsbD, decide_eq_true (by omega : n < width), Bool.true_and, Nat.sub_sub, Nat.add_comm 1 n]
    refine BitVec.eq_of_getLsbD_eq fun k hk => ?_
    simp only [List.map_cons, List.map_nil, List.foldl_cons, List.foldl_nil, hnext, BitVec.getLsbD_or, BitVec.getLsbD_shiftLeft,
      BitVec.getLsbD_ushiftRight, hk, decide_true, Bool.true_and]
    cases k with
    | zero => cases x.getLsbD (width - (n + 1)) <;> simp [hk]
    | succ k =>
      have hindex : width - n + k = width - (n + 1) + (k + 1) := by omega
      cases x.getLsbD (width - (n + 1)) <;> simp [hindex]

/-- The 36 bits of a word, the earliest first, give the word (R100). -/
theorem wordOfBits_bits (w : BitVec 36) : wordOfBits ((List.range 36).map fun i => w.getLsbD (35 - i)) = w := by
  have hbits : ((List.range 36).map fun i => w.getLsbD (35 - i)) = (List.range 36).map w.getMsbD :=
    List.map_congr_left fun i hi => by rw [BitVec.getMsbD, decide_eq_true (List.mem_range.1 hi), Bool.true_and]
  rw [hbits]
  exact foldl_shiftIn w (Nat.le_refl 36)

/-- The eight bits of a byte in the order they cross the link give the byte (R163). -/
theorem byteOfBits_bitsOfByte (b : Byte) : byteOfBits (bitsOfByte b) = b := foldl_shiftIn b (Nat.le_refl 8)

/-! ## The word of the lanes -/

/-- The conditions on a word's tag, read as a number (R100). -/
theorem tag_toNat (tag : BitVec 4) :
    (tag = 8 ↔ tag.toNat = 8) ∧ (tag = 9 ↔ tag.toNat = 9) ∧ (tag = 10 ↔ tag.toNat = 10) ∧ (tag = 11 ↔ tag.toNat = 11) ∧
      (tag.extractLsb' 2 2 = 3 ↔ 12 ≤ tag.toNat) ∧ tag.extractLsb' 0 2 = BitVec.ofNat 2 tag.toNat := by
  revert tag
  decide

/-- The command of a word by its tag, the number that its top four bits are (R100). -/
theorem commandOfWord_eq (start : WordStart) (w : BitVec 36) :
    let tag := w.toNat / 2 ^ 32
    let payload := BitVec.ofNat 32 w.toNat
    commandOfWord start w =
      if tag < 8 then none else if tag = 8 then some (.dataWord start payload) else if tag = 9 then some (.frameStart start)
      else if tag = 10 then some (.lineStart start payload) else if tag = 11 then some (.frameEnd start)
      else some (.undefinedTagWord start (BitVec.ofNat 2 tag)) := by
  have hpayload : w.extractLsb' 0 32 = BitVec.ofNat 32 w.toNat := by rw [BitVec.extractLsb', Nat.shiftRight_zero]
  have htag : (w.extractLsb' 32 4).toNat = w.toNat / 2 ^ 32 := by
    rw [BitVec.extractLsb'_toNat, Nat.shiftRight_eq_div_pow, Nat.mod_eq_of_lt (by omega)]
  obtain ⟨h8, h9, h10, h11, hundefined, hlow⟩ := tag_toNat (w.extractLsb' 32 4)
  rw [htag] at h8 h9 h10 h11 hundefined hlow
  simp only [commandOfWord, h8, h9, h10, h11, hundefined, hlow, hpayload]
  obtain hno | htagged := Nat.lt_or_ge (w.toNat / 2 ^ 32) 8
  · simp (disch := omega) only [if_pos, if_neg]
  · rw [if_neg (Nat.not_lt.2 htagged)]
    exact ite_congr rfl (fun _ => rfl) fun hnot8 => ite_congr rfl (fun _ => rfl) fun hnot9 => ite_congr rfl (fun _ => rfl) fun hnot10 =>
      ite_congr rfl (fun _ => rfl) fun hnot11 => if_pos (by omega)

/-- The bits that the periods bring carry on a sequence of bits at their count of lanes, PX_LANE0's the earliest (R100). -/
theorem append_periodBits {f : Nat → Bool} {lanes : Nat} {periods : List (BitVec 4)} {n : Nat}
    (h : ∀ i j, i < periods.length → j < lanes → (periods.getD i 0).getLsbD j = f (n + (lanes * i + j))) :
    (List.range n).map f ++ periods.flatMap (periodBits lanes) = (List.range (n + lanes * periods.length)).map f := by
  induction periods generalizing n with
  | nil => simp
  | cons period periods ih =>
    have hfirst : periodBits lanes period = (List.range lanes).map fun j => f (n + j) :=
      List.map_congr_left fun j hj => by simpa using h 0 j (Nat.succ_pos _) (List.mem_range.1 hj)
    have hhead : (List.range n).map f ++ periodBits lanes period = (List.range (n + lanes)).map f := by
      rw [hfirst, List.range_add, List.map_append, List.map_map]
      rfl
    have hrest := ih (n := n + lanes) fun i j hi hj => by
      have hnext := h (i + 1) j (Nat.succ_lt_succ hi) hj
      rw [Nat.mul_succ, show n + (lanes * i + lanes + j) = n + lanes + (lanes * i + j) by omega] at hnext
      exact hnext
    rw [List.flatMap_cons, ← List.append_assoc, hhead, hrest, List.length_cons, Nat.mul_succ]
    congr 2
    omega

/-- The word under way with the bits of one more period (R100). -/
def WordUnderWay.carriedOn (u : WordUnderWay) (period : BitVec 4) : WordUnderWay :=
  { u with bits := u.bits ++ periodBits u.lanes period }

theorem WordUnderWay.carriedOn_length (u : WordUnderWay) (period : BitVec 4) :
    (u.carriedOn period).bits.length = u.bits.length + u.lanes := by
  simp [carriedOn, periodBits]

theorem WordUnderWay.carriedOn_bits (u : WordUnderWay) (period : BitVec 4) (periods : List (BitVec 4)) :
    (u.carriedOn period).bits ++ periods.flatMap (periodBits (u.carriedOn period).lanes) =
      u.bits ++ (period :: periods).flatMap (periodBits u.lanes) := by
  rw [List.flatMap_cons, ← List.append_assoc]
  rfl

/-- The state after a whole word: no word is under way, and the word's command, if it is one, is queued (R100, R117). -/
def State.wordTaken (s : State) (start : WordStart) (w : BitVec 36) : State :=
  { s with
    port := { s.port with underWay := none, awaitLow := start == .beforeReset }
    pending := s.pending ++ (commandOfWord start w).toList }

theorem takeBits_short {s : State} {u : WordUnderWay} {period : BitVec 4} (h : u.bits.length + u.lanes < 36) :
    takeBits s u period = { s with port := { s.port with underWay := some (u.carriedOn period) } } :=
  if_pos ((u.carriedOn_length period).trans_lt h)

theorem takeBits_whole {s : State} {u : WordUnderWay} {period : BitVec 4} (h : 36 ≤ u.bits.length + u.lanes) :
    takeBits s u period = s.wordTaken u.start (wordOfBits (u.bits ++ periodBits u.lanes period)) :=
  if_neg (Nat.not_lt.2 (h.trans_eq (u.carriedOn_length period).symm))

theorem State.pxPeriod_underWay {s : State} {u : WordUnderWay} (h : s.port.underWay = some u) (period : BitVec 4) :
    s.pxPeriod period = takeBits s u period := by
  rw [State.pxPeriod, h]

/-- The periods that complete the word under way bring its bits, whose word is then taken (R100). -/
theorem foldl_takeBits {s : State} {u : WordUnderWay} {period : BitVec 4} {periods : List (BitVec 4)} (hlanes : 0 < u.lanes)
    (hlength : u.bits.length + u.lanes * (periods.length + 1) = 36) :
    periods.foldl State.pxPeriod (takeBits s u period) =
      s.wordTaken u.start (wordOfBits (u.bits ++ (period :: periods).flatMap (periodBits u.lanes))) := by
  induction periods generalizing s u period with
  | nil =>
    rw [List.foldl_nil, takeBits_whole (by simp at hlength; omega), List.flatMap_singleton]
  | cons next periods ih =>
    rw [List.length_cons, Nat.mul_succ] at hlength
    have hmore : u.lanes ≤ u.lanes * (periods.length + 1) := Nat.le_mul_of_pos_right _ (Nat.succ_pos _)
    have hnext : (u.carriedOn period).bits.length + u.lanes * (periods.length + 1) = 36 := by
      rw [u.carriedOn_length]
      omega
    rw [List.foldl_cons, takeBits_short (by omega), State.pxPeriod_underWay (u := u.carriedOn period) rfl,
      ih (u := u.carriedOn period) hlanes hnext, WordUnderWay.carriedOn_bits]
    rfl

/-- A period between words with PX_LANE0 high, the lanes having been low, begins a word (R100, R113, R116). -/
theorem State.pxPeriod_begins {s : State} {period : BitVec 4} (h : s.port.underWay = none) (hlow : s.port.awaitLow = false)
    (h0 : period.getLsbD 0 = true) :
    s.pxPeriod period = takeBits s ⟨if s.ready then .ready else .notReady, s.port.lanes, []⟩ period := by
  simp only [State.pxPeriod, h, hlow, h0, Bool.false_eq_true, if_false, if_true]

/-- After a discarded word the port waits for a period with every lane in use low (R117). -/
theorem State.pxPeriod_awaits {s : State} {period : BitVec 4} (h : s.port.underWay = none) (hwaits : s.port.awaitLow = true) :
    s.pxPeriod period = if lanesLow s.port.lanes period then { s with port := { s.port with awaitLow := false } } else s := by
  simp only [State.pxPeriod, h, hwaits, if_true]

/-! ## The bytes of a transaction -/

theorem bitsOfByte_eq (b : Byte) : [7, 6, 5, 4, 3, 2, 1, 0].map b.getLsbD = bitsOfByte b := rfl

/-- Bits that make no whole byte are discarded (R166). -/
theorem wholeBytes_cut {cut : List Bool} (h : cut.length < 8) : wholeBytes cut = [] := by
  unfold wholeBytes
  split
  · simp only [List.length_cons] at h
    omega
  · rfl

/-- The bytes of a transaction are those whose bits crossed the link, without the cut bits of a last byte (R163, R166). -/
theorem wholeBytes_bits (bytes : List Byte) {cut : List Bool} (h : cut.length < 8) :
    wholeBytes (bytes.flatMap bitsOfByte ++ cut) = bytes := by
  induction bytes with
  | nil => exact wholeBytes_cut h
  | cons b bytes ih =>
    calc wholeBytes ((b :: bytes).flatMap bitsOfByte ++ cut)
      _ = wholeBytes (bitsOfByte b ++ (bytes.flatMap bitsOfByte ++ cut)) := by rw [List.flatMap_cons, List.append_assoc]
      _ = byteOfBits (bitsOfByte b) :: wholeBytes (bytes.flatMap bitsOfByte ++ cut) := rfl
      _ = b :: bytes := by rw [byteOfBits_bitsOfByte, ih]

/-- A transaction whose byte 0 is 0x00 is a read, and any other a request (R166, R168). -/
theorem transactionOf_eq {bits : List Bool} {bytes : List Byte} (h : wholeBytes bits = bytes) (began : Bool) :
    transactionOf began bits =
      if bytes.head? = some 0 then .readTransaction ⟨began, bytes.length⟩ else .requestTransaction bytes := by
  rw [transactionOf, h]
  cases bytes with
  | nil => rfl
  | cons code rest => simp only [List.head?_cons, Option.some.injEq, List.length_cons]

/-! ## The word under way over the commands -/

/-- A frame's spoil leaves the lanes as they are (R95). -/
theorem spoilPort_lanes (p : Port) : (spoilPort p).underWay = p.underWay ∧ (spoilPort p).awaitLow = p.awaitLow := by
  simp only [spoilPort, Port.flush]
  split <;> exact ⟨rfl, rfl⟩

/-- A soft reset marks the word under way, which it discards, and leaves the wait for low lanes as it is (R117). -/
theorem softReset_lanes (s : State) :
    (softReset s).port.underWay = s.port.underWay.map (fun u => { u with start := .beforeReset }) ∧
      (softReset s).port.awaitLow = s.port.awaitLow := by
  have hspoil : (softSpoiled s).port.underWay = s.port.underWay ∧ (softSpoiled s).port.awaitLow = s.port.awaitLow := by
    rw [softSpoiled_port]
    split
    · exact spoilPort_lanes s.port
    · exact ⟨rfl, rfl⟩
  rw [softReset_port]
  exact ⟨congrArg (Option.map _) hspoil.1, hspoil.2⟩

/-- PORT_CONFIGURE replaces the lane count and the line wait limit, or neither, and nothing else of the port (R116). -/
theorem portConfigure_port {s t : State} {lanes : Byte} {limit : BitVec 16} (h : exec (.portConfigure lanes limit) s = .next t) :
    t.port = s.port ∨ t.port = { s.port with lanes := lanes.toNat, lineWaitLimit := limit.toNat } := by
  by_cases hgood : lanes.toNat ∈ [1, 2, 4] ∧ limit ≠ 0
  · rw [exec_portConfigure hgood.1 hgood.2] at h
    cases hflight : s.inFlight <;> rw [hflight] at h <;> cases h
    · exact .inr rfl
    · exact .inl rfl
  · rw [exec_portConfigure_range (by rwa [not_and_or, not_not] at hgood)] at h
    cases h
    exact .inl rfl

/-! ## O37 -/

/-- The periods of a word on the lanes, whether it is under way or begins with the first of them (R100, R113, R116). -/
theorem foldl_pxPeriod_word {s : State} {periods : List (BitVec 4)} {w : BitVec 36} {u : WordUnderWay} {n : Nat} (hlanes : 0 < u.lanes)
    (hbits : u.bits = (List.range n).map fun i => w.getLsbD (35 - i))
    (hword : s.port.underWay = some u ∨
      s.port.underWay = none ∧ s.port.awaitLow = false ∧ n = 0 ∧ w.getLsbD 35 = true ∧ u.lanes = s.port.lanes ∧
        u.start = (if s.ready then .ready else .notReady))
    (hsome : periods ≠ []) (hcount : n + u.lanes * periods.length = 36)
    (hlevels : ∀ i j, i < periods.length → j < u.lanes →
      (periods.getD i 0).getLsbD j = w.getLsbD (35 - (n + u.lanes * i + j))) :
    periods.foldl State.pxPeriod s = s.wordTaken u.start w := by
  have hall : u.bits ++ periods.flatMap (periodBits u.lanes) = (List.range 36).map fun i => w.getLsbD (35 - i) := by
    rw [hbits, append_periodBits fun i j hi hj => by rw [hlevels i j hi hj, Nat.add_assoc], hcount]
  obtain ⟨period, rest, rfl⟩ := List.exists_cons_of_ne_nil hsome
  have hfirst : s.pxPeriod period = takeBits s u period := by
    obtain hunder | ⟨hnone, hlow, rfl, hmsb, hsame, hstart⟩ := hword
    · exact State.pxPeriod_underWay hunder period
    · have h0 : period.getLsbD 0 = true := (hlevels 0 0 (Nat.succ_pos _) hlanes).trans hmsb
      rw [State.pxPeriod_begins hnone hlow h0, ← hsame, ← hstart, ← show u.bits = [] from hbits]
  rw [List.foldl_cons, hfirst, foldl_takeBits hlanes (by simpa [hbits] using hcount), hall, wordOfBits_bits]

/-- Settles O37: the words of the lanes, the lanes between words and over a soft reset and a configuration, and the bytes of the link. -/
theorem lanesAndLinkCarryTheCommands : Obligations.LanesAndLinkCarryTheCommands := by
  refine ⟨commandOfWord_eq, fun s periods w u n hlanes hbits hword hsome hcount hlevels => ?_,
    fun s period hnone => ⟨fun hlow h0 => State.pxPeriod_low hnone hlow h0, fun hwaits hall => ?_, fun hwaits ⟨k, hk, hhigh⟩ => ?_⟩,
    fun s t ht => ?_, fun s t lanes limit ht => ?_, State.csFall_eq, fun s began bytes cut hbegun hcut => ?_⟩
  · have hpos : 0 < u.lanes := by
      simp only [List.mem_cons, List.not_mem_nil, or_false] at hlanes
      omega
    exact foldl_pxPeriod_word hpos hbits hword hsome hcount hlevels
  · rw [State.pxPeriod_awaits hnone hwaits, if_pos ((lanesLow_iff _ _).2 hall)]
  · have hnot : ¬ lanesLow s.port.lanes period = true := fun h => by
      rw [(lanesLow_iff _ _).1 h k hk] at hhigh
      cases hhigh
    rw [State.pxPeriod_awaits hnone hwaits, if_neg hnot]
  · cases ht
    obtain ⟨hunder, hlow⟩ := softReset_lanes s
    rw [State.answer_port, hunder]
    exact ⟨hlow, fun u hu => by rw [hu]; rfl, fun hnone => by rw [hnone]; rfl⟩
  · obtain hport | hport := portConfigure_port ht <;> rw [hport] <;> exact ⟨rfl, rfl⟩
  · simp only [bitsOfByte_eq]
    refine ⟨?_, fun hsdo => by rw [State.sdoBits, hsdo]⟩
    rw [State.csRise_eq, hbegun, Option.getD_some, transactionOf_eq (wholeBytes_bits bytes hcut)]

end Sys2Proof.Machine
end

section
/-! REFCLK periods passed (R119, R129): the rows that pass them, the two clocks over them, and the run of idle steps that they are (O2). -/

namespace Sys2Proof.Machine

-- one theorem after another, as in the tests: a checker's memory limit leaves no room for many threads at once
set_option Elab.async false

open Sys2Proof

/-! ## The rows that pass REFCLK periods -/

theorem exec_millisecondTick (s : State) : exec .millisecondTick s = .next (pass s.engine.toTick s) := rfl

theorem exec_facet (n : Nat) (s : State) : exec (.facet n) s = .next (takeFacet (pass n s)) := rfl

theorem exec_monitorWindowOpen_locked {s : State} {k : Nat} {line : Bool} (hw : s.engine.window = .scheduled k line)
    (hlocked : s.engine.state = .locked) :
    exec .monitorWindowOpen s = .next (pass (s.engine.periodsTo s.engine.config.scanSpan) s) := by
  show execMonitorWindowOpen s = _
  simp only [execMonitorWindowOpen, hw, hlocked]

/-- A FACET among whose periods a row's moment falls is the row and a FACET of the periods left (log entry 2). -/
theorem exec_facet_after {s t : State} {n periods : Nat} (h : n ≤ periods) (ht : (.next (pass n s) : Answer) = .next t) :
    exec (.facet periods) s = exec (.facet (periods - n)) t := by
  cases ht
  exact execFacet_pass h

/-! ## What passes by the queue and the link -/

/-- The queue and the link are as they were. -/
structure QueueKept (s t : State) : Prop where
  pending : t.pending = s.pending
  link : t.link = s.link

theorem QueueKept.trans {s t u : State} (h : QueueKept s t) (k : QueueKept t u) : QueueKept s u :=
  ⟨k.pending.trans h.pending, k.link.trans h.link⟩

theorem QueueKept.same {s t : State} (pending : t.pending = s.pending := by simp) (link : t.link = s.link := by simp) : QueueKept s t :=
  ⟨pending, link⟩

theorem QueueKept.refl (s : State) : QueueKept s s := .same rfl rfl

/-- A change that begins from the state with fields other than the queue and the link changed first. -/
theorem QueueKept.after {s m t : State} (h : QueueKept m t) (pending : m.pending = s.pending := by rfl) (link : m.link = s.link := by rfl) :
    QueueKept s t := .trans (.same pending link) h

theorem QueueKept.ite {s t u : State} (c : Prop) [Decidable c] (ht : c → QueueKept s t) (hu : ¬c → QueueKept s u) :
    QueueKept s (if c then t else u) := by
  split
  · exact ht ‹_›
  · exact hu ‹_›

theorem biasIfReady_queue (s : State) (c : Chan) : QueueKept s (biasIfReady s c) := .ite _ (fun _ => .same) fun _ => .refl s

theorem autoBias_queue (s : State) : QueueKept s (autoBias s) :=
  ((biasIfReady_queue _ .red).trans ((biasIfReady_queue _ .grn).trans (biasIfReady_queue _ .blu))).after

theorem idleTick_queue (s : State) : QueueKept s (idleTick s) :=
  .ite _ (fun _ => .ite _ (fun _ => (autoBias_queue _).after) fun _ => .same rfl rfl) fun _ => .refl s

theorem startTick_queue (s : State) : QueueKept s (startTick s) :=
  .ite _ (fun _ => .ite _ (fun _ => .ite _ (fun _ => .same) fun _ => .refl s) fun _ => .same rfl rfl) fun _ => .refl s

theorem lineWaitTick_queue (s : State) : QueueKept s (lineWaitTick s) :=
  .ite _ (fun _ => .ite _ (fun _ => .ite _ (fun _ => .same) fun _ => .refl s) fun _ => .same rfl rfl) fun _ => .refl s

theorem stallEngine_queue (s : State) : QueueKept s (stallEngine s) := by
  unfold stallEngine
  split
  · exact .refl s
  · exact .same rfl rfl
  · exact .same

theorem facetTick_queue (s : State) : QueueKept s (facetTick s) := by
  unfold facetTick
  split
  · exact .refl s
  · exact .ite _ (fun _ => stallEngine_queue s) fun _ => .same rfl rfl

theorem warmTick_queue (s : State) (c : Chan) : QueueKept s (warmTick s c) :=
  .ite _ (fun _ => .ite _ (fun _ => .ite _ (fun _ => .same) fun _ => .refl s) fun _ => .same rfl rfl) fun _ => .refl s

theorem pullTick_queue (s : State) : QueueKept s (pullTick s) := by
  unfold pullTick
  split
  · refine .ite _ (fun _ => ?_) fun _ => .same rfl rfl
    unfold pullTimeoutPassed
    split
    · exact .same rfl rfl
    · exact .refl s
  · exact .refl s

theorem imageTick_queue (s : State) : QueueKept s (imageTick s) := by
  refine .ite _ (fun _ => .ite _ (fun _ => ?_) fun _ => .same rfl rfl) fun _ => .refl s
  unfold failSave
  split
  · exact .refl s
  · rw [failFlash_eq]
    exact .same rfl rfl

theorem tick_queue (s : State) : QueueKept s (tick s) := by
  have hframe := (((idleTick_queue s).trans (startTick_queue _)).trans (lineWaitTick_queue _)).trans (facetTick_queue _)
  have hwarm := ((hframe.trans (warmTick_queue _ .red)).trans (warmTick_queue _ .grn)).trans (warmTick_queue _ .blu)
  exact (hwarm.trans (pullTick_queue _)).trans (imageTick_queue _)

theorem completeIfDue_queue (s : State) : QueueKept s (completeIfDue s) := by
  unfold completeIfDue
  split
  · next x _ =>
    have hsettled : QueueKept s (lineSettled s x) := .ite _ (fun _ => .same (settle_pending _) (settle_link _)) fun _ => .same rfl rfl
    exact .ite _ (fun _ => hsettled.trans (.ite _ (fun _ => .refl _) fun _ => .same (windowPassed_pending _) (windowPassed_link _)))
      fun _ => .refl s
  · exact .refl s

theorem openIfDue_queue (s : State) : QueueKept s (openIfDue s) := by
  refine .ite _ (fun _ => ?_) fun _ => .refl s
  unfold openScheduled
  split
  · exact .ite _ (fun _ => .same) fun _ => .same rfl rfl
  · exact .refl s

theorem periodEvents_queue (s : State) : QueueKept s (periodEvents s) :=
  ((completeIfDue_queue s).trans (openIfDue_queue _)).trans (.ite _ (fun _ => (tick_queue _).after) fun _ => .refl _)

/-! ## The period count and the engine's configuration -/

theorem completeIfDue_engine (s : State) : (completeIfDue s).engine = s.engine := by
  unfold completeIfDue
  split
  · next x _ =>
    split
    · show (if (lineSettled s x).engine.window.carriesLine then lineSettled s x else windowPassed (lineSettled s x)).engine = _
      split <;> simp [lineSettled_engine]
    · rfl
  · rfl

/-- What falls on a period counts none, and configures nothing. -/
theorem periodEvents_engine (s : State) :
    (periodEvents s).engine.periodCount = s.engine.periodCount ∧ (periodEvents s).engine.config = s.engine.config := by
  have hcount := ((openIfDue_lineKept (completeIfDue s)).trans (tickIfDue_lineKept _)).count
  have hopened : (openIfDue (completeIfDue s)).engine.config = (completeIfDue s).engine.config := (openIfDue_limits _).engine.config
  have hticked : (periodEvents s).engine.config = (openIfDue (completeIfDue s)).engine.config := by
    unfold periodEvents tickIfDue
    split
    · exact (tick_limits _).engine.config
    · rfl
  rw [completeIfDue_engine] at hcount hopened
  exact ⟨hcount, hticked.trans hopened⟩

/-- What periods that pass do to the period count, and what they leave as it was, whatever falls on them (R119). -/
structure Passed (n : Nat) (s t : State) : Prop where
  count : t.engine.periodCount = min Config.maxPeriod (s.engine.periodCount + n)
  config : t.engine.config = s.engine.config
  queue : QueueKept s t

theorem countPeriods_passed (n : Nat) (s : State) : Passed n s (countPeriods s n) := ⟨rfl, rfl, .same rfl rfl⟩

theorem pass_passed (n : Nat) (s : State) : Passed n s (pass n s) := by
  induction n using Nat.strongRecOn generalizing s with
  | _ n ih =>
    have hpos := s.toEvent_pos
    by_cases hshort : n < s.toEvent
    · rw [pass_short hshort]
      exact countPeriods_passed n s
    · obtain ⟨hcount, hconfig⟩ := periodEvents_engine (countPeriods s s.toEvent)
      have hrest := ih (n - s.toEvent) (by omega) (periodEvents (countPeriods s s.toEvent))
      rw [pass_event (Nat.le_of_not_lt hshort)]
      refine ⟨?_, hrest.config.trans hconfig, ((periodEvents_queue _).trans hrest.queue).after⟩
      rw [hrest.count, hcount, countPeriods_periodCount]
      omega

/-- The periods to a moment, after some that come before it have passed (log entry 45). -/
theorem pass_periodsTo {s : State} {n : Nat} (t : Nat) (h : n < s.engine.periodsTo t) :
    (pass n s).engine.periodsTo t = s.engine.periodsTo t - n := by
  simp only [Engine.periodsTo, (pass_passed n s).count] at *
  omega

/-! ## Idle steps -/

/-- No command waits and no request is in process: the next step is a REFCLK period (log entry 1). -/
structure Idle (s : State) : Prop where
  queue : s.pending = []
  link : s.link.processing = false

theorem Idle.kept {s t : State} (h : Idle s) (k : QueueKept s t) : Idle t := ⟨k.pending.trans h.queue, by rw [k.link]; exact h.link⟩

theorem step_idle {s : State} (h : Idle s) : step s = .next (pass 1 s) := by
  simp only [step, h.queue, State.linkCommand, h.link]
  rfl

/-- A run of idle steps is the passing of as many REFCLK periods. -/
theorem waits_idle (n : Nat) : ∀ {s : State}, Idle s → waits (n + 1) s = .next (pass (n + 1) s) := by
  induction n with
  | zero => exact fun h => by simp only [waits, step_idle h]
  | succ n ih =>
    intro s h
    have hrest := ih (h.kept (pass_passed 1 s).queue)
    rw [waits, step_idle h, Nat.add_comm (n + 1) 1, pass_add]
    exact hrest

/-- A moment that has come, or comes on the next period, is one period away (log entry 45). -/
theorem periodsTo_next {e : Engine} {t : Nat} (h : t ≤ e.periodCount + 1) : e.periodsTo t = 1 := by
  simp only [Engine.periodsTo]
  omega

theorem toTick_next {e : Engine} (h : e.config.refclkPerMs ≤ e.msCount + 1) : e.toTick = 1 := by
  simp only [Engine.toTick]
  omega

/-- The link carries out the request in process, and then takes its answer (R166). -/
theorem step_processing {s : State} (hqueue : s.pending = []) (hprocessing : s.link.processing = true) :
    (∀ c, s.link.request = some c → s.link.answer = none → step s = exec c s) ∧
      (s.link.answer ≠ none → step s = exec .requestAnswered s) := by
  refine ⟨fun c hc hnone => ?_, fun hsome => ?_⟩
  · simp only [step, hqueue, State.linkCommand, hprocessing, hnone, hc]
  · obtain ⟨a, ha⟩ := Option.ne_none_iff_exists'.1 hsome
    simp only [step, hqueue, State.linkCommand, hprocessing, ha]

/-- Settles O2: an idle step is `pass 1`, a run of them `pass n`, and the rows that carry periods pass as many. -/
theorem idleStepIsOneRefclkPeriod : Obligations.IdleStepIsOneRefclkPeriod := by
  refine fun s hqueue => ⟨step_processing hqueue, fun hlink => ?_⟩
  have hidle : Idle s := ⟨hqueue, hlink⟩
  intro locked
  refine ⟨fun hquiet => ?_, fun htick => ?_, fun x hx hend => ?_, fun k line ⟨hw, hstate⟩ hspan => ?_, fun n => ?_⟩
  · rw [step_idle hidle, pass_short hquiet.lt_toEvent]
    rfl
  · rw [step_idle hidle, exec_millisecondTick, toTick_next htick]
  · rw [step_idle hidle, execLineComplete_line hx, periodsTo_next (t := x.ends) hend]
  · rw [step_idle hidle, exec_monitorWindowOpen_locked hw hstate, periodsTo_next hspan]
  cases n with
  | zero =>
    have hpos (m : Nat) : 0 ≠ max 1 m := by omega
    refine ⟨s, rfl, fun m => by rw [Nat.zero_add], fun h => absurd h (hpos _), fun x _ h => absurd h (hpos _),
      fun k line _ h => absurd h (hpos _)⟩
  | succ n =>
    refine ⟨_, waits_idle n hidle, fun m => ?_, fun htick => ?_, fun x hx hend => ?_, fun k line ⟨hw, hstate⟩ hspan => ?_⟩
    · rw [exec_facet, exec_facet, pass_add]
    · rw [htick]; rfl
    · rw [execLineComplete_line hx, hend]; rfl
    · rw [exec_monitorWindowOpen_locked hw hstate, hspan]; rfl

end Sys2Proof.Machine
end

section
/-! A FACET in STOPPED and in ACQUIRING (O38), and one that loses lock (O39): the period judged, the facet numbered, the engine record that
is left. -/

namespace Sys2Proof.Machine

-- one theorem after another, as in the tests: a checker's memory limit leaves no room for many threads at once
set_option Elab.async false

open Sys2Proof

/-! ## The period judged -/

/-- A captured period within tolerance (R119). -/
theorem EngineConfig.within_iff (c : EngineConfig) (p : Nat) : c.within p = true ↔
    1 ≤ p ∧ p < 2 ^ 24 - 1 ∧ ((p : Int) - c.nominal).natAbs * 256 ≤ c.tolerance * c.nominal := by
  simp only [EngineConfig.within, Bool.and_eq_true, decide_eq_true_eq, and_assoc]
  rfl

/-! ## A FACET in STOPPED and in ACQUIRING -/

/-- The engine once the FACET's period is captured (R119, R124). -/
def Engine.captured (e : Engine) (periods : Nat) : Engine :=
  { e with
    msCount := e.msCount + periods, samplePhase := (e.samplePhase + 1) % 128
    lastPeriod := min (2 ^ 24 - 1) (e.periodCount + periods), periodCount := 0, facetTimer := 0 }

section Unlocked

variable {s : State} {periods : Nat} (hquiet : Quiet s periods) (hwindow : s.engine.window = .none)

include hquiet hwindow

/-- The first FACET in STOPPED (R120). -/
theorem exec_facet_stopped (h : s.engine.state = .stopped) :
    exec (.facet periods) s = .next { s with engine := (countPeriods s periods).engine.nextPhase.start } := by
  have hend : endWindow (countPeriods s periods) = countPeriods s periods := endWindow_of_none hwindow
  have hstate : (countPeriods s periods).engine.nextPhase.state = .stopped := h
  rw [exec_facet_quiet hquiet]
  simp only [takeFacet, hend, hstate]
  rfl

/-- A FACET in ACQUIRING is captured, and then judged and numbered (R121). -/
theorem exec_facet_acquiring (h : s.engine.state = .acquiring) : exec (.facet periods) s = .next { s with
    engine := (s.engine.captured periods).acquiringFacet (min (2 ^ 24 - 1) (s.engine.periodCount + periods)) s.optics.cur.facets } := by
  have hend : endWindow (countPeriods s periods) = countPeriods s periods := endWindow_of_none hwindow
  have hstate : (countPeriods s periods).engine.nextPhase.state = .acquiring := h
  rw [exec_facet_quiet hquiet]
  simp only [takeFacet, hend, hstate]
  rfl

end Unlocked

section Acquiring

variable {e : Engine} {p f m : Nat}

/-- Before the first INDEX a FACET is not numbered (R121). -/
theorem acquiringFacet_unknown (h : e.revCount = none) : e.acquiringFacet p f = e := by
  simp only [Engine.acquiringFacet, h]

theorem acquiringFacet_within (h : e.revCount = some m) (hwithin : e.config.within p = true) (hfacets : min 255 (m + 1) ≤ f) :
    e.acquiringFacet p f = e.number m f := by
  have hbelow : decide (f < satAdd 255 m 1) = false := decide_eq_false (Nat.not_lt.2 hfacets)
  simp only [Engine.acquiringFacet, h, hwithin, hbelow]
  rfl

/-- A period out of tolerance or a facet too many makes the revolution BAD (R121). -/
theorem acquiringFacet_bad (h : e.revCount = some m) (hbad : e.config.within p = false ∨ f < min 255 (m + 1)) :
    e.acquiringFacet p f = { e.number m f with mark := .bad, good := 0 } := by
  have hcond : (!e.config.within p || decide (f < satAdd 255 m 1)) = true := by
    rw [Bool.or_eq_true, Bool.not_eq_true', decide_eq_true_eq]
    exact hbad
  simp only [Engine.acquiringFacet, h, if_pos hcond]

end Acquiring

/-- Settles O38: the rows whose moments fall among the periods are passed first; then the FACET by the engine's state. -/
theorem facetBeforeLock : Obligations.FacetBeforeLock := by
  refine ⟨EngineConfig.within_iff, fun s t periods => ⟨fun hle ht => ?_, fun x hx => ?_, fun k line hw hlocked => ?_⟩,
    fun s periods hwindow hquiet => ?_⟩
  · exact exec_facet_after hle ht
  · intro n hle ht
    rw [execLineComplete_line hx] at ht
    exact exec_facet_after hle ht
  · intro n hle ht
    rw [exec_monitorWindowOpen_locked hw hlocked] at ht
    exact exec_facet_after hle ht
  intro e p f
  refine ⟨exec_facet_stopped hquiet hwindow, fun hacquiring => ?_⟩
  intro captured
  have hexec := exec_facet_acquiring hquiet hwindow hacquiring
  refine ⟨fun hunknown => ?_, fun m hcount => ?_⟩
  · rwa [acquiringFacet_unknown (e := s.engine.captured periods) hunknown] at hexec
  intro n numbered
  refine ⟨fun hwithin hfacets => ?_, fun hbad => ?_⟩
  · rwa [acquiringFacet_within (e := s.engine.captured periods) hcount hwithin hfacets] at hexec
  · rwa [acquiringFacet_bad (e := s.engine.captured periods) hcount hbad] at hexec

/-! ## A FACET that loses lock -/

/-- A frame that is not EXPOSING waits out a loss of lock (R123). -/
theorem leaveLocked_waits {s : State} (h : s.frame.state ≠ .exposing) (next : EngineState) : leaveLocked s next =
    endWindow (State.drivesOff (State.raise { s with engine := { s.engine with state := next, good := 0 } } .lockLost)) := by
  simp [leaveLocked, h]

/-- A FACET in LOCKED out of tolerance or beyond F (R122). -/
theorem lockedFacet_lost {s : State} {phase p m : Nat} (hcount : s.engine.revCount = some m)
    (hlost : s.engine.config.within p = false ∨ s.optics.cur.facets ≤ m) : lockedFacet s phase p =
      leaveLocked { s with engine := { s.engine.number m s.optics.cur.facets with mark := .bad } } .acquiring := by
  have hcond : (!s.engine.config.within p || decide (s.optics.cur.facets ≤ m)) = true := by
    rw [Bool.or_eq_true, Bool.not_eq_true', decide_eq_true_eq]
    exact hlost
  simp only [lockedFacet, hcount, Option.getD_some, if_pos hcond]

/-- A FACET in LOCKED, once the window in progress is abandoned (R122, R128). -/
theorem takeFacet_abandons {s : State} (h : s.engine.state = .locked) : takeFacet s = lockedFacet
    { endWindow s with engine := Engine.capture (Engine.nextPhase { s.engine with window := .none }) s.engine.periodCount }
    s.engine.samplePhase s.engine.periodCount := by
  have hstate : (Engine.nextPhase { s.engine with window := .none }).state = .locked := h
  simp only [takeFacet, endWindow_engine, hstate]

/-- The engine as a FACET that loses lock is numbered (R122). -/
def Engine.facetLost (e : Engine) (periods m f : Nat) : Engine :=
  { (Engine.captured { e with window := .none } periods).number m f with mark := .bad }

/-- The state as a FACET that loses lock is numbered, with the window in progress abandoned (R122, R128). -/
def State.facetLost (s : State) (periods m : Nat) : State :=
  { endWindow (countPeriods s periods) with engine := s.engine.facetLost periods m s.optics.cur.facets }

theorem exec_facet_lost {s : State} {periods m : Nat} (hquiet : Quiet s periods) (hlocked : s.engine.state = .locked)
    (hcount : s.engine.revCount = some m)
    (hlost : s.engine.config.within (min (2 ^ 24 - 1) (s.engine.periodCount + periods)) = false ∨ s.optics.cur.facets ≤ m) :
    exec (.facet periods) s = .next (leaveLocked (s.facetLost periods m) .acquiring) := by
  let u : State := { endWindow (countPeriods s periods) with engine := Engine.captured { s.engine with window := .none } periods }
  have hfacets : u.optics.cur.facets = s.optics.cur.facets := congrArg (fun o => o.cur.facets) (endWindow_optics _)
  have htake : takeFacet (countPeriods s periods) =
      lockedFacet u s.engine.samplePhase (min (2 ^ 24 - 1) (s.engine.periodCount + periods)) :=
    takeFacet_abandons (s := countPeriods s periods) hlocked
  have hleave := lockedFacet_lost (s := u) (phase := s.engine.samplePhase) hcount (by rw [hfacets]; exact hlost)
  rw [hfacets] at hleave
  rw [exec_facet_quiet hquiet, htake, hleave]
  rfl

/-- Up to the loss of lock the frame in flight stands as it did (R95). -/
theorem facetLost_flight (s : State) (periods m : Nat) : FlightKept s (s.facetLost periods m) := by
  let c := countPeriods s periods
  have hwindow : (endWindow c).engine.window = .none := by rw [endWindow_engine]
  have hnumbered : FlightKept (endWindow c) (s.facetLost periods m) := .same (by simp only [State.flight, hwindow]; rfl)
  exact ((endWindow_flight c).trans hnumbered).after

/-- Settles O39: the facet is numbered past the window's end, and the engine leaves LOCKED. -/
theorem lockedFacetLosesLock : Obligations.LockedFacetLosesLock := by
  intro s periods m hs hstep hlocked hcount p n hquiet hlost
  have hframe : (s.facetLost periods m).frame.state = s.frame.state := endWindow_state _
  refine ⟨_, exec_facet_lost hquiet hlocked hcount hlost, leaveLocked_engine _ _, (leaveLocked_flags _ _).2, endWindow_drivesOff_drives _, ?_,
    fun hexposing => leaveLocked_spoiled hs hstep hexposing _ (facetLost_flight s periods m) hframe, fun hother => ?_⟩
  · rw [leaveLocked_chans]
    exact endWindow_chans _
  · rw [leaveLocked_waits (by rw [hframe]; exact hother), endWindow_state, endWindow_setups, endWindow_profiles, endWindow_port]
    exact ⟨hframe, endWindow_setups _, endWindow_profiles _, endWindow_port _⟩

end Sys2Proof.Machine
end

section
/-! The opening of a monitor window (O43): what comes before it, the channels that it samples, and a window with none. -/

namespace Sys2Proof.Machine

-- one theorem after another, as in the tests: a checker's memory limit leaves no room for many threads at once
set_option Elab.async false

open Sys2Proof

/-! ## What comes before a window's opening -/

/-- What falls before a window's opening comes first, and the opening after it where the window still waits (log entry 45). -/
theorem monitorWindowOpen_after {s t : State} {k n : Nat} {line : Bool} (hw : s.engine.window = .scheduled k line)
    (hlocked : s.engine.state = .locked) (hn : n < s.engine.periodsTo s.engine.config.scanSpan) (ht : (.next (pass n s) : Answer) = .next t)
    (hkept : t.engine.window = s.engine.window) (hstate : t.engine.state = .locked) :
    exec .monitorWindowOpen s = exec .monitorWindowOpen t := by
  cases ht
  rw [exec_monitorWindowOpen_locked hw hlocked, exec_monitorWindowOpen_locked (hkept.trans hw) hstate, (pass_passed n s).config,
    pass_periodsTo _ hn, ← pass_add, Nat.add_sub_cancel' hn.le]

/-! ## The opening -/

section Opening

variable {s : State} {k : Nat} {line : Bool} (hw : s.engine.window = .scheduled k line) (hlocked : s.engine.state = .locked)
  (hline : s.line = none)

include hw hlocked hline

theorem windowWaits_scheduled : s.windowWaits = true := by
  simp only [State.windowWaits, hw, hlocked, hline]
  rfl

/-- With no line being exposed, the window's opening comes first where no tick does. -/
theorem toEvent_window (htick : s.engine.periodsTo s.engine.config.scanSpan < s.engine.toTick) :
    s.toEvent = s.engine.periodsTo s.engine.config.scanSpan := by
  have htoLine : s.toLineEnd = none := by rw [State.toLineEnd, hline]; rfl
  have htoWindow : s.toWindow = some (s.engine.periodsTo s.engine.config.scanSpan) := if_pos (windowWaits_scheduled hw hlocked hline)
  simp only [State.toEvent, htoLine, htoWindow, Option.getD_none, Option.getD_some]
  omega

theorem openIfDue_reached (h : s.engine.reached s.engine.config.scanSpan = true) : openIfDue s = openWindow s k line := by
  have hdue : (s.windowWaits && s.engine.reached s.engine.config.scanSpan) = true :=
    Bool.and_eq_true_iff.2 ⟨windowWaits_scheduled hw hlocked hline, h⟩
  simp only [openIfDue, if_pos hdue, openScheduled, hw]

/-- What falls on the period of a window's opening that is no tick's (R127). -/
theorem periodEvents_window (hreached : s.engine.reached s.engine.config.scanSpan = true) (hms : s.engine.msCount < s.engine.config.refclkPerMs) :
    periodEvents s = openWindow s k line := by
  have hcomplete : completeIfDue s = s := by simp only [completeIfDue, hline]
  have hlimits := (openWindow_limits s k line).engine
  rw [periodEvents, hcomplete, openIfDue_reached hw hlocked hline hreached]
  refine if_neg ?_
  rw [hlimits.config, hlimits.msCount]
  exact Nat.not_le.2 hms

/-- A window's opening that no tick comes before: the periods are counted and the window opens (R127). -/
theorem exec_monitorWindowOpen_opens (htick : toMoment s s.engine.config.scanSpan < toTick s) : exec .monitorWindowOpen s =
    .next (openWindow { s with engine := s.engine.later (toMoment s s.engine.config.scanSpan) } k line) := by
  have hevent : s.toEvent = toMoment s s.engine.config.scanSpan := toEvent_window hw hlocked hline htick
  have hexec : exec .monitorWindowOpen s = .next (pass (toMoment s s.engine.config.scanSpan) s) := exec_monitorWindowOpen_locked hw hlocked
  rw [hexec, pass_event (Nat.le_of_eq hevent), hevent, Nat.sub_self, pass_zero]
  let c := countPeriods s (toMoment s s.engine.config.scanSpan)
  have hreached : c.engine.reached c.engine.config.scanSpan = true := by
    refine decide_eq_true ?_
    show min Config.maxPeriod s.engine.config.scanSpan ≤ min Config.maxPeriod (s.engine.periodCount + toMoment s s.engine.config.scanSpan)
    simp only [toMoment]
    omega
  have hms : c.engine.msCount < c.engine.config.refclkPerMs := by
    show s.engine.msCount + toMoment s s.engine.config.scanSpan < s.engine.config.refclkPerMs
    simp only [toMoment, toTick] at htick ⊢
    omega
  have hcount : (periodEvents c).engine.periodCount ≤ Config.maxPeriod := by
    rw [(periodEvents_engine c).1]
    exact Nat.min_le_left ..
  rw [countPeriods_zero hcount, periodEvents_window (s := c) hw hlocked hline hreached hms]
  rfl

end Opening

/-! ## The channels that a window samples -/

theorem warm_eq (x : ChannelState) : x.warm = decide (x = .warming ∨ x = .ready) := by cases x <;> rfl

/-- A channel that is WARMING or READY may drive its modulator, for SAFE is closed (R126, R148). -/
theorem LaserSafe.mayDrive_eq {s : State} (h : LaserSafe s) (c : Chan) : s.mayDrive c = (s.chan c).state.warm := by
  cases hopen : s.transport.safeOpen with
  | false => simp [State.mayDrive, hopen]
  | true =>
    have hdark := h.dark hopen c
    have hcold : (s.chan c).state.warm = false := by
      revert hdark
      cases (s.chan c).state <;> decide
    simp [State.mayDrive, hcold]

/-- What drives a channel while a window is open (R127). -/
def windowDrive (s : State) (c : Chan) : Drive := if (s.chan c).state.warm then .reference else .off

theorem LaserSafe.windowDrives {s : State} (h : LaserSafe s) : s.drivesOf (fun c => (s.chan c).state.warm) .reference =
    ⟨windowDrive s .red, windowDrive s .grn, windowDrive s .blu⟩ := by
  simp only [State.drivesOf, h.mayDrive_eq, Bool.and_self]
  rfl

/-- A window with a channel to sample opens (R127). -/
theorem openWindow_sampled {s : State} (h : LaserSafe s) (k : Nat) (line : Bool) {c : Chan} (hc : (s.chan c).state.warm = true) :
    openWindow s k line = { s with
      engine := { s.engine with window := .opened k line s.sampled }
      drives := ⟨windowDrive s .red, windowDrive s .grn, windowDrive s .blu⟩ } := by
  have hmem : c ∈ s.sampled := List.mem_filter.2 ⟨by cases c <;> decide, hc⟩
  have hne : ¬s.sampled.isEmpty = true := fun he => by
    rw [List.isEmpty_iff.1 he] at hmem
    cases hmem
  rw [openWindow, if_neg hne, h.windowDrives]

/-- A window with no channel to sample ends at its opening (R127). -/
theorem openWindow_empty {s : State} (k : Nat) (line : Bool) (h : ∀ c, (s.chan c).state.warm = false) : openWindow s k line = endWindow s := by
  refine if_pos (List.isEmpty_iff.2 (List.filter_eq_nil_iff.2 fun c _ => ?_))
  rw [h c]
  decide

/-- A window that has not opened drives no channel (R128). -/
theorem dropWindow_scheduled {s : State} {k : Nat} {line : Bool} (hw : s.engine.window = .scheduled k line) :
    dropWindow s = { s with engine := { s.engine with window := .none } } := by
  simp only [dropWindow, driveWithoutWindow, hw]
  rfl

/-- Settles O43: the opening is `openWindow` on the state with the periods counted; a tick or a line's end that falls before comes first. -/
theorem monitorWindowOpens : Obligations.MonitorWindowOpens := by
  refine ⟨fun s t k line hw hlocked => ?_, fun s hsafe => ?_⟩
  · intro n
    refine ⟨fun htick => ?_, fun htick ht => monitorWindowOpen_after hw hlocked htick ht, fun x hx hend ht => ?_⟩
    · rw [exec_monitorWindowOpen_locked hw hlocked, exec_millisecondTick]
      exact congrArg (fun n => Host.Outcome.next (pass n s)) htick.symm
    · rw [execLineComplete_line hx] at ht
      exact monitorWindowOpen_after hw hlocked hend ht
  intro n e warm drive
  let c : State := { s with engine := e }
  have hsafe' : LaserSafe c := ⟨hsafe.dark, hsafe.guarded, hsafe.exposing⟩
  have hwarm : warm = fun c => (s.chan c).state.warm := funext fun c => (warm_eq _).symm
  have hdrive : drive = windowDrive s := by simp only [drive, hwarm]; rfl
  refine ⟨fun k line hw hlocked hline htick ⟨x, hx⟩ => ?_, fun k hw hlocked hline htick hcold => ?_,
    fun k g hw hlocked hline htick hcold hgroup hg => ?_, fun hnot => ?_⟩
  · rw [exec_monitorWindowOpen_opens hw hlocked hline htick,
      openWindow_sampled (s := c) hsafe' k line (c := x) (by rw [hwarm] at hx; exact hx), hdrive, hwarm]
    rfl
  · have hscheduled : c.engine.window = _ := hw
    rw [exec_monitorWindowOpen_opens hw hlocked hline htick, openWindow_empty (s := c) k false (by rw [hwarm] at hcold; exact hcold),
      endWindow_untold (s := c) (by rw [hscheduled]; nofun) (.inl (by rw [hscheduled]; rfl)), dropWindow_scheduled hscheduled]
  · have hscheduled : c.engine.window = _ := hw
    rw [exec_monitorWindowOpen_opens hw hlocked hline htick, openWindow_empty (s := c) k true (by rw [hwarm] at hcold; exact hcold),
      endWindow_told (s := c) (by rw [hscheduled]; nofun) (by rw [hscheduled]; rfl) hgroup hg, dropWindow_scheduled hscheduled]
  · show execMonitorWindowOpen s = _
    unfold execMonitorWindowOpen
    split
    · next hw _ => exact absurd hw (hnot _ _)
    · rfl

end Sys2Proof.Machine
end

section
/-! ENGINE_CONFIGURE (O44): its checks in order, and how a change of the nominal period or of the tolerance reaches the engine. -/

namespace Sys2Proof.Machine

-- one theorem after another, as in the tests: a checker's memory limit leaves no room for many threads at once
set_option Elab.async false

open Sys2Proof

/-! ## The checks -/

/-- The ranges of Table 7-3, with the scan span within a facet's shortest period (R130, checks 1). -/
theorem engineConfigOf_eq (f : EngineFields) : engineConfigOf f =
    if 1 ≤ f.nominal.toNat ∧ f.nominal.toNat ≤ 2 ^ 24 - 1 ∧ 1 ≤ f.tolerance.toNat ∧ f.tolerance.toNat ≤ 64 ∧
        1 ≤ f.scanSpan.toNat ∧ f.scanSpan.toNat ≤ 2 ^ 24 - 1 ∧ 1 ≤ f.facetTimeout.toNat ∧ f.facetTimeout.toNat ≤ 1000 ∧
        f.sampleExp.toNat ≤ 7 ∧ 1000 ≤ f.refclkPerMs.toNat ∧ f.refclkPerMs.toNat ≤ 200000 ∧
        f.scanSpan.toNat * 256 < f.nominal.toNat * (256 - f.tolerance.toNat)
    then some ⟨f.nominal.toNat, f.tolerance.toNat, f.scanLead.toNat, f.scanSpan.toNat, f.facetTimeout.toNat, f.sampleExp.toNat,
      f.refclkPerMs.toNat⟩ else none := by
  refine if_congr ?_ rfl rfl
  simp only [Bool.and_eq_true, decide_eq_true_eq, and_assoc]
  rfl

/-- Check 3 of R130 finds an ARMED setup that would miss the scan. -/
theorem anyUnfit_of_unfit {s : State} {c : EngineConfig} {i : Fin 8} (harmed : (s.setup i).armed = true)
    (hunfit : fitsScan (s.setup i).config c.scanLead c.scanSpan = false) : anyUnfit s c = true :=
  List.any_eq_true.2 ⟨s.setup i, by simp [State.setup], by rw [harmed, hunfit]; rfl⟩

theorem anyUnfit_of_fits {s : State} {c : EngineConfig}
    (h : ∀ i, (s.setup i).armed = true → fitsScan (s.setup i).config c.scanLead c.scanSpan = true) : anyUnfit s c = false := by
  refine List.any_eq_false.2 fun x hx => ?_
  obtain ⟨i, hi, rfl⟩ := Vector.mem_iff_getElem.1 (Vector.mem_toList_iff.1 hx)
  have hfits := h ⟨i, hi⟩
  rw [State.setup] at hfits
  simpa using hfits

/-! ## The configuration that is set -/

/-- The state with the engine's new configuration, before the engine is told of it (R130). -/
def State.configured (s : State) (c : EngineConfig) : State := { s with engine := { s.engine with config := c } }

/-- The state once the engine is told of a new nominal period or tolerance (R123, R130). -/
def State.configuredTold (s : State) (c : EngineConfig) : State :=
  if c.nominal ≠ s.engine.config.nominal ∨ c.tolerance ≠ s.engine.config.tolerance then periodFiguresChanged (s.configured c)
  else s.configured c

/-- The nominal period and the tolerance stay as they are. -/
def EngineConfig.samePeriod (c d : EngineConfig) : Prop := c.nominal = d.nominal ∧ c.tolerance = d.tolerance

section Configure

variable {s : State} {f : EngineFields} {c : EngineConfig}

theorem exec_engineConfigure_range (h : engineConfigOf f = none) :
    exec (.engineConfigure f) s = .next (s.answer (.engineConfigure f) .range) := by
  show execEngineConfigure f s = _
  unfold execEngineConfigure
  rw [h]
  rfl

variable (hc : engineConfigOf f = some c)

include hc

/-- ENGINE_CONFIGURE with its fields in range: the other checks in order, and the configuration set (R130). -/
theorem exec_engineConfigure_some : exec (.engineConfigure f) s =
    if s.inFlight then reply (.engineConfigure f) s .busy
    else if anyUnfit s c then reply (.engineConfigure f) s .window
    else reply (.engineConfigure f) (tickIfDue (s.configuredTold c)) .ok := by
  show execEngineConfigure f s = _
  unfold execEngineConfigure
  rw [hc]
  rfl

theorem exec_engineConfigure_busy (hflight : s.inFlight = true) :
    exec (.engineConfigure f) s = .next (s.answer (.engineConfigure f) .busy) :=
  (exec_engineConfigure_some hc).trans (if_pos hflight)

variable (hidle : s.inFlight = false)

include hidle

theorem exec_engineConfigure_window (hunfit : anyUnfit s c = true) :
    exec (.engineConfigure f) s = .next (s.answer (.engineConfigure f) .window) := by
  rw [exec_engineConfigure_some hc, if_neg (Bool.eq_false_iff.1 hidle), if_pos hunfit]
  rfl

variable (hfits : anyUnfit s c = false) (hms : s.engine.msCount < c.refclkPerMs)

include hfits hms

/-- ENGINE_CONFIGURE past its checks, where the millisecond in progress is not yet over under the new setting (R130). -/
theorem exec_engineConfigure_taken : exec (.engineConfigure f) s = .next ((s.configuredTold c).answer (.engineConfigure f) .ok) := by
  have hlimits : LimitsKept (s.configured c) (s.configuredTold c) := .ite _ (fun _ => periodFiguresChanged_limits _) fun _ => .refl _
  have hnotDue : tickIfDue (s.configuredTold c) = s.configuredTold c := by
    refine if_neg ?_
    rw [hlimits.engine.config, hlimits.engine.msCount]
    exact Nat.not_le.2 hms
  rw [exec_engineConfigure_some hc, if_neg (Bool.eq_false_iff.1 hidle), if_neg (Bool.eq_false_iff.1 hfits), hnotDue]
  rfl

end Configure

/-! ## The engine is told -/

section Told

variable {s : State} {c : EngineConfig}

theorem configuredTold_same (h : c.samePeriod s.engine.config) : s.configuredTold c = s.configured c :=
  if_neg (not_or.2 ⟨not_not.2 h.1, not_not.2 h.2⟩)

theorem configuredTold_changed (h : ¬c.samePeriod s.engine.config) : s.configuredTold c = periodFiguresChanged (s.configured c) :=
  if_pos (not_and_or.1 h)

theorem periodFiguresChanged_stopped (h : s.engine.state = .stopped) : periodFiguresChanged s = s := by simp only [periodFiguresChanged, h]

theorem periodFiguresChanged_acquiring (h : s.engine.state = .acquiring) :
    periodFiguresChanged s = { s with engine := { s.engine with good := 0 } } := by simp only [periodFiguresChanged, h]

theorem periodFiguresChanged_locked (h : s.engine.state = .locked) : periodFiguresChanged s = leaveLocked s .acquiring := by
  simp only [periodFiguresChanged, h]

/-- An engine that is STOPPED, or whose nominal period and tolerance stay, is only configured (R130). -/
theorem configuredTold_configured (h : c.samePeriod s.engine.config ∨ s.engine.state = .stopped) : s.configuredTold c = s.configured c := by
  by_cases hsame : c.samePeriod s.engine.config
  · exact configuredTold_same hsame
  · rw [configuredTold_changed hsame, periodFiguresChanged_stopped (s := s.configured c) (h.resolve_left hsame)]

end Told

/-- Settles O44: the checks in their order, then the configuration set and the engine told of it. -/
theorem engineIsConfigured : Obligations.EngineIsConfigured := by
  refine ⟨engineConfigOf_eq, fun s f => ⟨exec_engineConfigure_range, fun c hc => ⟨exec_engineConfigure_busy hc,
    fun hidle ⟨i, harmed, hunfit⟩ => exec_engineConfigure_window hc hidle (anyUnfit_of_unfit harmed hunfit), fun hidle hall hms => ?_⟩⟩⟩
  have hexec := exec_engineConfigure_taken hc hidle (anyUnfit_of_fits hall) hms
  intro same
  refine ⟨fun h => ?_, fun hne hacquiring => ?_, fun hne hlocked => ?_⟩
  · rw [hexec, configuredTold_configured h]
    rfl
  · rw [hexec, configuredTold_changed hne, periodFiguresChanged_acquiring (s := s.configured c) hacquiring]
    rfl
  · rw [configuredTold_changed hne, periodFiguresChanged_locked (s := s.configured c) hlocked] at hexec
    refine ⟨_, hexec, leaveLocked_engine _ _, (leaveLocked_flags _ _).2, endWindow_drivesOff_drives _, leaveLocked_chans _ _, ?_⟩
    rw [leaveLocked_idle (s := s.configured c) hidle, endWindow_profiles, endWindow_setups]
    exact ⟨rfl, rfl⟩

end Sys2Proof.Machine
end

section
/-! The passing of each timer by itself (O56): what it does where its timer runs, and that it does nothing elsewhere (log entry 8). -/

namespace Sys2Proof.Machine

-- one theorem after another, as in the tests: a checker's memory limit leaves no room for many threads at once
set_option Elab.async false

open Sys2Proof

/-! ## The facet timer -/

section Stall

variable {s : State}

theorem exec_stall_stopped (h : s.engine.state = .stopped) : exec .stall s = .next s := by
  show execStall s = _
  simp only [execStall, stallEngine, h]

theorem exec_stall_acquiring (h : s.engine.state = .acquiring) : exec .stall s = .next { s with engine := s.engine.stalled } := by
  show execStall s = _
  simp only [execStall, stallEngine, h]

/-- A stall in LOCKED without a frame in EXPOSING and without a window (R123). -/
theorem exec_stall_locked (h : s.engine.state = .locked) (hstate : s.frame.state ≠ .exposing) (hwindow : s.engine.window = .none) :
    exec .stall s = .next { s with engine := s.engine.stalled, events := (s.raise .lockLost).events, drives := ⟨.off, .off, .off⟩ } := by
  show execStall s = _
  simp only [execStall, stallEngine, h]
  rw [leaveLocked_waits (s := { s with engine := s.engine.stalled }) hstate, endWindow_of_none (by exact hwindow)]
  rfl

end Stall

/-! ## A warm timer -/

/-- A channel leaves WARMING and READY with no window open: its drive goes off, and no more (R126). -/
theorem dropSample_unopened {s : State} (c : Chan) (h : s.engine.window.isOpen = false) : dropSample s c = s.setDrive c .off := by
  rcases dropSample_cases s c with hdrop | ⟨k, line, toRead, left, hw, -⟩
  · exact hdrop
  · rw [hw] at h
    cases h

/-- A channel's fault without a frame in flight and with no window open (R140). -/
theorem enterFault_alone {s : State} (c : Chan) (x : FaultCause) (hidle : s.inFlight = false) (hwindow : s.engine.window.isOpen = false) :
    enterFault s c x = State.raise ((s.setChan c { (s.chan c).dropCapture with state := .fault, faultCause := some x }).setDrive c .off)
      .channelFault := by
  rw [enterFault, dropSample_unopened c (by exact hwindow)]
  exact spoil_of_idle hidle

/-! ## Auto bias -/

theorem exec_autoBias_runs {s : State} (hidle : s.inFlight = false) (hdelay : s.idle.delay ≠ 0) : exec .autoBias s = .next (autoBias s) := by
  refine congrArg Host.Outcome.next (if_pos ?_)
  rw [(idleRuns_iff s).2 hidle, bne_iff_ne.2 hdelay]
  rfl

theorem exec_autoBias_none {s : State} (h : s.inFlight = true ∨ s.idle.delay = 0) : exec .autoBias s = .next s := by
  refine congrArg Host.Outcome.next (if_neg fun hrun => ?_)
  obtain ⟨hruns, hdelay⟩ := Bool.and_eq_true_iff.1 hrun
  rcases h with hflight | hzero
  · rw [(idleRuns_iff s).1 hruns] at hflight
    cases hflight
  · exact bne_iff_ne.1 hdelay hzero

/-- Auto bias clears no flag (R146). -/
theorem autoBias_flagsKept (s : State) : FlagsKept s.events (autoBias s).events :=
  let i : State := { s with idle := { s.idle with seconds := 0, millis := 0 } }
  (((biasIfReady_engineRests i .red).trans (biasIfReady_engineRests _ .grn)).trans (biasIfReady_engineRests _ .blu)).rise.kept

theorem biasIfReady_setups (s : State) (c : Chan) : (biasIfReady s c).setups = s.setups := by
  unfold biasIfReady
  split
  · exact enterBiased_setups s c
  · rfl

theorem autoBias_setups (s : State) : (autoBias s).setups = s.setups := by simp only [autoBias, biasIfReady_setups]

/-- No flag that was set is missing from the flags afterwards. -/
theorem FlagsKept.or_eq {v w : Events} (h : FlagsKept v w) : w.flags = v.flags ||| w.flags := by
  refine BitVec.eq_of_getLsbD_eq fun k _ => ?_
  rw [BitVec.getLsbD_or]
  cases hv : v.flags.getLsbD k with
  | false => rfl
  | true => rw [h k hv]; rfl

/-- Settles O56: each timer's passing in the states in which it runs, and in the others. -/
theorem timersPassTheirLimits : Obligations.TimersPassTheirLimits := by
  refine fun s => ⟨exec_stall_stopped, exec_stall_acquiring, exec_stall_locked, fun c hnot => congrArg _ (if_neg hnot),
    fun c hwarming hidle hwindow => ?_, exec_autoBias_none, fun hidle hdelay => ?_, fun n limit hadvance => ?_, fun hwaits => ?_,
    fun hseating hreadying => ?_, fun hexposing => ?_⟩
  · intro x
    rw [execWarmTimeout_warming hwarming, enterFault_alone c _ hidle hwindow, dropCapture_eq]
  · refine ⟨_, exec_autoBias_runs hidle hdelay, autoBias_idle s, (autoBias_flagsKept s).or_eq, fun c hready => ?_, fun c hnot => ?_,
      autoBias_state s, autoBias_setups s⟩
    · rw [autoBias_chan, if_pos hready, dropCapture_eq]
      exact ⟨rfl, rfl, rfl, autoBias_drive hready⟩
    · rw [autoBias_chan, if_neg hnot]
  · show execAdvancePullTimeout s = _
    simp only [execAdvancePullTimeout, pullTimeoutPassed, hadvance]
    rfl
  · show execAdvancePullTimeout s = _
    refine congrArg Host.Outcome.next ?_
    unfold pullTimeoutPassed
    split
    · next ha => cases hwaits _ ha
    · rfl
  · refine congrArg Host.Outcome.next (if_neg fun hstarting => ?_)
    exact ((starting_iff _).1 hstarting).elim hseating hreadying
  · exact congrArg Host.Outcome.next (if_neg fun hwaits => hexposing ((lineWaits_iff s).1 hwaits).1)

end Sys2Proof.Machine
end

section
/-! The log of a monitor reading and the raw drift (O48): the mantissa of a reading within its octave, and one octave after another. -/

namespace Sys2Proof.Machine

-- one theorem after another, as in the tests: a checker's memory limit leaves no room for many threads at once
set_option Elab.async false

open Sys2Proof

/-- The place in the log table of a reading `v` whose highest set bit is `n` (R135). -/
def logIndex (n v : Nat) : Nat := if 8 ≤ n then v / 2 ^ (n - 8) - 256 else v * 2 ^ (8 - n) - 256

/-- Within one octave the index does not fall as the reading rises. -/
theorem logIndex_mono (n : Nat) {v w : Nat} (h : v ≤ w) : logIndex n v ≤ logIndex n w := by
  unfold logIndex
  split
  · exact Nat.sub_le_sub_right (Nat.div_le_div_right h) _
  · exact Nat.sub_le_sub_right (Nat.mul_le_mul_right _ h) _

section Octave

variable {n v : Nat} (hlow : 2 ^ n ≤ v) (hhigh : v < 2 ^ (n + 1))

include hhigh in
/-- The index of a reading stays within the log table. -/
theorem logIndex_le : logIndex n v ≤ 255 := by
  unfold logIndex
  split
  · next hn =>
    have hsplit : 2 ^ (n + 1) = 512 * 2 ^ (n - 8) := by
      rw [show n + 1 = 9 + (n - 8) by omega, pow_add]
      rfl
    have hquot : v / 2 ^ (n - 8) < 512 := (Nat.div_lt_iff_lt_mul (Nat.two_pow_pos _)).2 (hsplit ▸ hhigh)
    omega
  · next hn =>
    have hscaled : v * 2 ^ (8 - n) < 2 ^ (n + 1) * 2 ^ (8 - n) := Nat.mul_lt_mul_of_pos_right hhigh (Nat.two_pow_pos _)
    rw [← pow_add, show n + 1 + (8 - n) = 9 by omega] at hscaled
    omega

include hlow hhigh

/-- The log of a reading, by its highest set bit (R135). -/
theorem logOf_eq : logOf v = 256 * n + logEntry (logIndex n v) := by
  have hv : v ≠ 0 := (Nat.lt_of_lt_of_le (Nat.two_pow_pos n) hlow).ne'
  have hbit : Nat.log2 v = n := (Nat.log2_eq_iff hv).2 ⟨hlow, hhigh⟩
  simp only [logOf, hbit, logIndex]

/-- The logs of an octave lie below those of the next. -/
theorem logOf_octave : 256 * n ≤ logOf v ∧ logOf v < 256 * (n + 1) := by
  have hentry : logEntry (logIndex n v) ≤ logEntry 255 := logEntry_le (logIndex_le hhigh) le_rfl
  have hlast : logEntry 255 = 255 := rfl
  rw [logOf_eq hlow hhigh]
  omega

end Octave

/-- The log does not fall as the reading rises: within an octave by the table, from one octave to a later by their bounds. -/
theorem logOf_mono {v w : Nat} (hv : 1 ≤ v) (h : v ≤ w) : logOf v ≤ logOf w := by
  have hlowv : 2 ^ Nat.log2 v ≤ v := Nat.log2_self_le (by omega)
  have hloww : 2 ^ Nat.log2 w ≤ w := Nat.log2_self_le (by omega)
  have hhighv : v < 2 ^ (Nat.log2 v + 1) := Nat.lt_log2_self
  have hhighw : w < 2 ^ (Nat.log2 w + 1) := Nat.lt_log2_self
  have hbits : Nat.log2 v ≤ Nat.log2 w := (Nat.le_log2 (by omega)).2 (hlowv.trans h)
  rcases hbits.eq_or_lt with hsame | hless
  · rw [← hsame] at hloww hhighw
    rw [logOf_eq hlowv hhighv, logOf_eq hloww hhighw]
    exact Nat.add_le_add_left (logEntry_le (logIndex_mono _ h) (logIndex_le hhighw)) _
  · have hbelow := (logOf_octave hlowv hhighv).2
    have habove := (logOf_octave hloww hhighw).1
    omega

theorem logOf_last : logOf 4095 = 3071 := (logOf_eq (n := 11) (by decide) (by decide)).trans rfl

theorem logOf_le {v : Nat} (hv : 1 ≤ v) (h : v ≤ 4095) : logOf v ≤ 3071 := logOf_last ▸ logOf_mono hv h

/-- Settles O48: the log octave by octave, its ends, and the difference of two logs. -/
theorem readingsAreTakenToStopUnits : Obligations.ReadingsAreTakenToStopUnits := by
  refine ⟨fun v n hlow hhigh _ => ⟨fun hn => ?_, fun hn => ?_⟩, fun v w hv h _ => logOf_mono hv h, ?_, logOf_last,
    fun r m hr hr' hm hm' => ⟨rfl, ?_⟩⟩
  · have hindex : logIndex n v = v / 2 ^ (n - 8) - 256 := if_pos hn
    exact hindex ▸ ⟨logOf_eq hlow hhigh, logIndex_le hhigh⟩
  · have hindex : logIndex n v = v * 2 ^ (8 - n) - 256 := if_neg (Nat.not_le.2 hn)
    exact hindex ▸ ⟨logOf_eq hlow hhigh, logIndex_le hhigh⟩
  · exact (logOf_eq (n := 0) (by decide) (by decide)).trans rfl
  · have hrle := logOf_le hr hr'
    have hmle := logOf_le hm hm'
    unfold rawDrift
    omega

end Sys2Proof.Machine
end

section
/-! The requests on the laser channels: CHANNEL_ON, BIAS, OFF and CLEAR by state (O46), and the settings and the reference replaced (O47). -/

namespace Sys2Proof.Machine

-- one theorem after another, as in the tests: a checker's memory limit leaves no room for many threads at once
set_option Elab.async false

open Sys2Proof

section Channel

variable {s : State} {chan : Byte} {c : Chan}

/-! ## The channel that a request names -/

theorem withChan_range (req : Instr) (own : Chan → Answer) (h : 3 ≤ chan.toNat) : withChan req s chan own = .next (s.answer req .range) := by
  rw [withChan, (chanOf_eq_none chan).2 h]
  rfl

theorem withChan_some (req : Instr) (own : Chan → Answer) (hc : chanOf chan = some c) : withChan req s chan own = own c := by
  rw [withChan, hc]

/-! ## A channel goes DARK or BIASED -/

/-- A channel goes DARK without a frame in flight and with no window open: the drive goes off, and no more (R140). -/
theorem enterDark_alone (c : Chan) (hidle : s.inFlight = false) (hwindow : s.engine.window.isOpen = false) :
    enterDark s c = (s.setChan c { (s.chan c).dropCapture with state := .dark, drift := 0, faultCause := none }).setDrive c .off := by
  rw [enterDark, darken, dropSample_unopened c (by exact hwindow)]
  exact spoil_of_idle hidle

/-- A channel goes BIASED with no window open (R142). -/
theorem enterBiased_alone (c : Chan) (hwindow : s.engine.window.isOpen = false) :
    enterBiased s c = (s.setChan c { (s.chan c).dropCapture with state := .biased }).setDrive c .off :=
  dropSample_unopened c (by exact hwindow)

/-! ## CHANNEL_ON, CHANNEL_BIAS, CHANNEL_OFF and CHANNEL_CLEAR -/

section Requests

variable (hc : chanOf chan = some c)

include hc

theorem exec_channelOn_fault (h : (s.chan c).state = .fault) : exec (.channelOn chan) s = .next (s.answer (.channelOn chan) .state) :=
  (withChan_some _ _ hc).trans (if_pos h)

theorem exec_channelOn_interlock (h : (s.chan c).state ≠ .fault) (hsafe : s.transport.safeOpen = true) :
    exec (.channelOn chan) s = .next (s.answer (.channelOn chan) .interlock) :=
  (withChan_some _ _ hc).trans ((if_neg h).trans (if_pos hsafe))

/-- A channel that is DARK or BIASED enters WARMING, each with a target of its own (R137, R141). -/
theorem exec_channelOn_warms (h : (s.chan c).state = .dark ∨ (s.chan c).state = .biased) (hsafe : s.transport.safeOpen = false) :
    exec (.channelOn chan) s = .next ((s.setChan c ((s.chan c).warm
      (if (s.chan c).state = .dark then (s.chan c).config.settleCount else (s.chan c).config.rewakeCount))).answer (.channelOn chan) .ok) := by
  refine (withChan_some _ _ hc).trans ?_
  rcases h with hdark | hbiased
  · simp [hdark, hsafe, reply]
  · simp [hbiased, hsafe, reply]

/-- A channel that is on already stays as it is (R141). -/
theorem exec_channelOn_warm (h : (s.chan c).state = .warming ∨ (s.chan c).state = .ready) (hsafe : s.transport.safeOpen = false) :
    exec (.channelOn chan) s = .next (s.answer (.channelOn chan) .ok) := by
  refine (withChan_some _ _ hc).trans ?_
  rcases h with hwarming | hready
  · simp [hwarming, hsafe, reply]
  · simp [hready, hsafe, reply]

theorem exec_channelBias_busy (h : s.frame.state = .readying ∨ s.frame.state = .exposing) :
    exec (.channelBias chan) s = .next (s.answer (.channelBias chan) .busy) :=
  (withChan_some _ _ hc).trans (if_pos h)

section Free

variable (hfree : ¬(s.frame.state = .readying ∨ s.frame.state = .exposing))

include hfree

theorem exec_channelBias_state (h : (s.chan c).state = .dark ∨ (s.chan c).state = .fault) :
    exec (.channelBias chan) s = .next (s.answer (.channelBias chan) .state) := by
  refine (withChan_some _ _ hc).trans ((if_neg hfree).trans ?_)
  rcases h with hdark | hfault
  · rw [hdark]; rfl
  · rw [hfault]; rfl

theorem exec_channelBias_biased (h : (s.chan c).state = .biased) :
    exec (.channelBias chan) s = .next (s.answer (.channelBias chan) .ok) := by
  refine (withChan_some _ _ hc).trans ((if_neg hfree).trans ?_)
  rw [h]
  rfl

theorem exec_channelBias_warm (h : (s.chan c).state = .warming ∨ (s.chan c).state = .ready) :
    exec (.channelBias chan) s = .next ((enterBiased s c).answer (.channelBias chan) .ok) := by
  refine (withChan_some _ _ hc).trans ((if_neg hfree).trans ?_)
  rcases h with hwarming | hready
  · rw [hwarming]; rfl
  · rw [hready]; rfl

end Free

theorem exec_channelOff_fault (h : (s.chan c).state = .fault) :
    exec (.channelOff chan) s = .next (s.answer (.channelOff chan) .state) := by
  refine (withChan_some _ _ hc).trans ?_
  rw [h]
  rfl

theorem exec_channelOff_dark (h : (s.chan c).state = .dark) :
    exec (.channelOff chan) s = .next (s.answer (.channelOff chan) .ok) := by
  refine (withChan_some _ _ hc).trans ?_
  rw [h]
  rfl

theorem exec_channelClear_state (h : (s.chan c).state ≠ .fault) :
    exec (.channelClear chan) s = .next (s.answer (.channelClear chan) .state) :=
  (withChan_some _ _ hc).trans (if_neg h)

theorem exec_channelClear_fault (h : (s.chan c).state = .fault) :
    exec (.channelClear chan) s = .next ((enterDark s c).answer (.channelClear chan) .ok) :=
  (withChan_some _ _ hc).trans (if_pos h)

end Requests

/-- A channel that is neither DARK nor FAULT is lit (check 8 of R81). -/
theorem lit_of_ne {x : ChannelState} (hdark : x ≠ .dark) (hfault : x ≠ .fault) : x.lit = true := by
  cases x with
  | dark => exact absurd rfl hdark
  | fault => exact absurd rfl hfault
  | _ => rfl

/-! ## CHANNEL_CONFIGURE, CHANNEL_SET_REFERENCE and CHANNEL_CAPTURE_REFERENCE -/

/-- The ranges of Table 8-2. -/
theorem channelConfigOf_eq (f : ChannelFields) : channelConfigOf f =
    if 1 ≤ f.settleBand.toNat ∧ f.settleBand.toNat ≤ 31 ∧ 4 ≤ f.settleCount.toNat ∧ f.settleCount.toNat ≤ 64 ∧
        1 ≤ f.rewakeCount.toNat ∧ f.rewakeCount.toNat ≤ 16 ∧ f.warmTimeout ≠ 0 ∧ 16 ≤ f.driftLimit.toNat ∧
        f.driftDivisor.toNat ∈ [1, 2, 4, 8]
    then some ⟨f.settleBand.toNat, f.settleCount.toNat, f.rewakeCount.toNat, f.warmTimeout.toNat, f.driftLimit.toNat,
      f.driftDivisor.toNat⟩ else none := by
  have hwarm : 1 ≤ f.warmTimeout.toNat ↔ f.warmTimeout ≠ 0 :=
    Nat.one_le_iff_ne_zero.trans (not_congr (BitVec.toNat_inj (y := 0)))
  refine if_congr ?_ rfl rfl
  simp only [Bool.and_eq_true, decide_eq_true_eq, and_assoc, List.contains_iff_mem, hwarm]

theorem refInRange_iff (n : Nat) : refInRange n = true ↔ 1 ≤ n ∧ n ≤ 4095 := by
  simp only [refInRange, Bool.and_eq_true, decide_eq_true_eq]

section Settings

variable {f : ChannelFields} {g : ChannelConfig} {delay value : BitVec 16} (hc : chanOf chan = some c)

include hc

theorem exec_channelConfigure_range (h : channelConfigOf f = none) :
    exec (.channelConfigure chan f delay) s = .next (s.answer (.channelConfigure chan f delay) .range) := by
  refine (withChan_some _ _ hc).trans ?_
  rw [h]
  rfl

/-- CHANNEL_CONFIGURE with its settings in range (R134). -/
theorem exec_channelConfigure_some (h : channelConfigOf f = some g) : exec (.channelConfigure chan f delay) s =
    if s.inFlight then .next (s.answer (.channelConfigure chan f delay) .busy)
    else .next (State.answer { s.setChan c ((s.chan c).configure g) with idle := { s.idle with delay := delay.toNat } }
      (.channelConfigure chan f delay) .ok) := by
  refine (withChan_some _ _ hc).trans ?_
  rw [h]
  rfl

theorem exec_channelSetReference_range (h : ¬(1 ≤ value.toNat ∧ value.toNat ≤ 4095)) :
    exec (.channelSetReference chan value) s = .next (s.answer (.channelSetReference chan value) .range) := by
  have hbad : refInRange value.toNat = false := Bool.eq_false_iff.2 ((refInRange_iff _).not.2 h)
  exact (withChan_some _ _ hc).trans (if_pos (by rw [hbad]; rfl))

/-- CHANNEL_SET_REFERENCE with its value in range (R144). -/
theorem exec_channelSetReference_some (h : 1 ≤ value.toNat ∧ value.toNat ≤ 4095) : exec (.channelSetReference chan value) s =
    if s.inFlight then .next (s.answer (.channelSetReference chan value) .busy)
    else .next ((s.setChan c ((s.chan c).setReference value.toNat)).answer (.channelSetReference chan value) .ok) := by
  have hgood : refInRange value.toNat = true := (refInRange_iff _).2 h
  exact (withChan_some _ _ hc).trans (if_neg (by rw [hgood]; decide))

/-- CHANNEL_CAPTURE_REFERENCE (R145). -/
theorem exec_channelCaptureReference : exec (.channelCaptureReference chan) s =
    if s.inFlight then .next (s.answer (.channelCaptureReference chan) .busy)
    else if (s.chan c).state ≠ .ready then .next (s.answer (.channelCaptureReference chan) .state)
    else .next ((s.setChan c { s.chan c with capture := true }).answer (.channelCaptureReference chan) .ok) :=
  withChan_some _ _ hc

end Settings

end Channel

/-- Settles O46: each request in each state, the channel that goes DARK or BIASED alone. -/
theorem channelRequestsByState : Obligations.ChannelRequestsByState := by
  refine fun s chan => ⟨fun h => ⟨withChan_range _ _ h, withChan_range _ _ h, withChan_range _ _ h, withChan_range _ _ h⟩, fun c hc => ?_⟩
  refine ⟨fun hfault => ⟨exec_channelOn_fault hc hfault, exec_channelOff_fault hc hfault⟩, exec_channelOn_interlock hc,
    fun hsafe => ⟨fun h => exec_channelOn_warms hc h hsafe, fun h => exec_channelOn_warm hc h hsafe⟩, exec_channelBias_busy hc,
    fun hreadying hexposing => ?_, exec_channelOff_dark hc, fun hdark hfault hidle hwindow => ?_, exec_channelClear_state hc,
    fun hfault hidle hwindow => ?_⟩
  · have hfree := not_or.2 ⟨hreadying, hexposing⟩
    refine ⟨exec_channelBias_state hc hfree, exec_channelBias_biased hc hfree, fun hwarm hwindow => ?_⟩
    rw [exec_channelBias_warm hc hfree hwarm, enterBiased_alone c hwindow]
    rfl
  · rw [exec_channelOff hc (lit_of_ne hdark hfault), enterDark_alone c hidle hwindow]
    rfl
  · rw [exec_channelClear_fault hc hfault, enterDark_alone c hidle hwindow]
    rfl

/-- Settles O47: each request's refusals in order, then the record replaced. -/
theorem channelSettingsAreReplaced : Obligations.ChannelSettingsAreReplaced := by
  refine ⟨channelConfigOf_eq, fun s chan => ⟨fun h => ⟨fun f d => withChan_range _ _ h, fun v => withChan_range _ _ h, withChan_range _ _ h⟩,
    fun c hc => ⟨fun f d => exec_channelConfigure_range hc, fun v hv => exec_channelSetReference_range hc (by omega), fun hflight => ?_,
      fun hidle => ?_⟩⟩⟩
  · exact ⟨(exec_channelCaptureReference hc).trans (if_pos hflight),
      fun f d g hg => (exec_channelConfigure_some hc hg).trans (if_pos hflight),
      fun v hv hv' => (exec_channelSetReference_some hc ⟨hv, hv'⟩).trans (if_pos hflight)⟩
  · have hno : ¬s.inFlight = true := Bool.eq_false_iff.1 hidle
    refine ⟨fun f d g hg => (exec_channelConfigure_some hc hg).trans (if_neg hno), fun v hv hv' => ?_,
      fun hstate => (exec_channelCaptureReference hc).trans ((if_neg hno).trans (if_pos hstate)),
      fun hready => (exec_channelCaptureReference hc).trans ((if_neg hno).trans (if_neg (not_not.2 hready)))⟩
    rw [exec_channelSetReference_some hc ⟨hv, hv'⟩, if_neg hno, setReference_eq]

end Sys2Proof.Machine
end

section
/-! The requests on the film roll (O53): ROLL_LOAD, ROLL_UNLOAD and ROLL_ADVANCE, and how an accepted advance starts. -/

namespace Sys2Proof.Machine

-- one theorem after another, as in the tests: a checker's memory limit leaves no room for many threads at once
set_option Elab.async false

open Sys2Proof

section Roll

variable {s : State} {r : Roll} {n : BitVec 16}

/-! ## ROLL_LOAD -/

theorem exec_rollLoad_range {tag : Word32} {cap low : BitVec 16} (h : cap = 0 ∨ cap.toNat ≤ low.toNat) :
    exec (.rollLoad tag cap low) s = .next (s.answer (.rollLoad tag cap low) .range) :=
  if_pos h

/-- ROLL_LOAD with its capacity and low mark in range (R157). -/
theorem exec_rollLoad {tag : Word32} {cap low : BitVec 16} (hcap : cap ≠ 0) (hlow : low.toNat < cap.toNat) :
    exec (.rollLoad tag cap low) s =
      if s.transport.roll.isSome then .next (s.answer (.rollLoad tag cap low) .state)
      else .next (State.answer { s with transport := { s.transport with roll := some ⟨tag, cap.toNat, cap.toNat, low.toNat, 0⟩ } }
        (.rollLoad tag cap low) .ok) :=
  if_neg (not_or.2 ⟨hcap, Nat.not_le.2 hlow⟩)

/-! ## The film in use -/

/-- The film of a loaded roll is in use: a frame is in flight, or a roll advance is in progress (R158). -/
theorem filmInUse_iff (s : State) :
    (s.inFlight || s.transport.advance.isSome) = true ↔ s.inFlight = true ∨ s.transport.advance ≠ none := by
  rw [Bool.or_eq_true, Option.isSome_iff_ne_none]

/-! ## ROLL_UNLOAD -/

theorem exec_rollUnload_state (h : s.transport.roll = none) : exec .rollUnload s = .next (s.answer .rollUnload .state) := by
  show execRollUnload s = _
  rw [execRollUnload, h]
  rfl

/-- ROLL_UNLOAD with a roll loaded (R158). -/
theorem exec_rollUnload (h : s.transport.roll = some r) : exec .rollUnload s =
    if s.inFlight || s.transport.advance.isSome then .next (s.answer .rollUnload .busy)
    else .next (State.answer { s with transport := { s.transport with roll := none } } .rollUnload .ok
      (be32 r.tag ++ u16 r.capacity ++ u16 r.remaining ++ u16 r.pulls)) := by
  show execRollUnload s = _
  rw [execRollUnload, h]
  rfl

/-! ## ROLL_ADVANCE -/

theorem exec_rollAdvance_range (h : n = 0) : exec (.rollAdvance n) s = .next (s.answer (.rollAdvance n) .range) :=
  if_pos h

theorem exec_rollAdvance_state (hn : n ≠ 0) (h : s.transport.roll = none ∨ s.transport.xportFault = true) :
    exec (.rollAdvance n) s = .next (s.answer (.rollAdvance n) .state) := by
  refine (if_neg hn).trans ?_
  cases hr : s.transport.roll with
  | none => rfl
  | some r => exact if_pos (h.resolve_left (by simp [hr]))

/-- ROLL_ADVANCE with a roll loaded and XPORT_FAULT deasserted (R158, R159). -/
theorem exec_rollAdvance (hn : n ≠ 0) (hr : s.transport.roll = some r) (hfault : s.transport.xportFault = false) :
    exec (.rollAdvance n) s =
      if s.inFlight || s.transport.advance.isSome then .next (s.answer (.rollAdvance n) .busy)
      else if r.remaining < n.toNat then .next (s.answer (.rollAdvance n) .roll)
      else .next ((startAdvance s n.toNat).answer (.rollAdvance n) .ok) := by
  refine (if_neg hn).trans ?_
  rw [hr]
  exact if_neg (Bool.eq_false_iff.1 hfault)

/-! ## The start of an advance -/

/-- The advance of `n` pulls before its first (R159). -/
def State.advanceWaits (s : State) (n : Nat) : State :=
  { s with transport := { s.transport with advance := some ⟨n, .waitingGroup, s.frame.startTimeout⟩ } }

theorem startAdvance_busy (h : s.groupBusy = true) (n : Nat) : startAdvance s n = s.advanceWaits n := if_pos h

theorem startAdvance_free (h : s.groupBusy = false) (n : Nat) : startAdvance s n = advancePull (s.advanceWaits n) :=
  if_neg (Bool.eq_false_iff.1 h)

theorem advancePull_flags {a : Advance} (ha : s.transport.advance = some a) (hr : s.transport.roll = some r) (b : Nat) :
    (advancePull s).events.flags.getLsbD b = (s.events.flags.getLsbD b || (decide (b = 10) && decide (r.remaining - 1 = r.lowMark)) ||
      (decide (b = 11) && decide (r.remaining - 1 = 0))) := by
  rw [advancePull, ha]
  exact issuePull_flags hr b

end Roll

/-- Settles O53: the branches of each request in order; an advance with no STEP group to wait for pulls as `advancePull` does. -/
theorem rollRequests : Obligations.RollRequests := by
  refine fun s => ⟨fun tag cap low => ⟨exec_rollLoad_range, fun hcap hlow => ?_⟩, exec_rollAdvance_range rfl, exec_rollUnload_state,
    fun n => exec_rollAdvance_state, fun r hr => ⟨fun hbusy => ?_, fun hidle hadvance => ?_⟩⟩
  · rw [exec_rollLoad hcap hlow]
    exact ⟨fun hroll => if_pos (Option.isSome_iff_ne_none.2 hroll), fun hroll => if_neg (by simp [hroll])⟩
  · have huse := (filmInUse_iff s).2 hbusy
    exact ⟨(exec_rollUnload hr).trans (if_pos huse), fun n hn hfault => (exec_rollAdvance hn hr hfault).trans (if_pos huse)⟩
  · have hfree : ¬(s.inFlight || s.transport.advance.isSome) = true := by simp [hidle, hadvance]
    refine ⟨(exec_rollUnload hr).trans (if_neg hfree), fun n hn hfault => ?_⟩
    rw [exec_rollAdvance hn hr hfault, if_neg hfree]
    refine ⟨fun hshort => if_pos hshort, fun hfilm hgroup => ?_, fun hfilm hgroup => ?_⟩
    · rw [if_neg (Nat.not_lt.2 hfilm), startAdvance_busy hgroup]
      rfl
    · let u := s.advanceWaits n.toNat
      have hwaits : u.transport.advance = some ⟨n.toNat, .waitingGroup, s.frame.startTimeout⟩ := rfl
      rw [if_neg (Nat.not_lt.2 hfilm), startAdvance_free hgroup]
      exact ⟨advancePull u, rfl, advancePull_transport (s := u) hwaits hr, advancePull_outputs (s := u) hwaits hr,
        advancePull_flags (s := u) hwaits hr, advancePull_eq u⟩

end Sys2Proof.Machine
end

section
/-! Raising, reading, clearing and enabling events (R171, R172), and the ATTN line. -/

namespace Sys2Proof.Machine

-- one theorem after another, as in the tests: a checker's memory limit leaves no room for many threads at once
set_option Elab.async false

open Sys2Proof

/-! ## The bits after a raise and after a clear -/

theorem Event.mask_getLsbD (e : Event) (k : Nat) : e.mask.getLsbD k = decide (k = e.bit) := by
  have hflags := raise_flag ⟨0, 0, 0⟩ e k
  simpa [Events.raise] using hflags

/-- An event raised clears its own seen mark and leaves the others (R171). -/
theorem raise_seen (v : Events) (e : Event) (k : Nat) :
    (v.raise e).seen.getLsbD k = (v.seen.getLsbD k && !decide (k = e.bit)) := by
  by_cases hk : k < 15
  · rw [Events.raise, BitVec.getLsbD_and, BitVec.getLsbD_not, Event.mask_getLsbD, decide_eq_true hk, Bool.true_and]
  · simp [BitVec.getLsbD_of_ge _ k (Nat.not_lt.1 hk)]

/-- A flag is cleared where its bit is named and its event is seen (R172). -/
theorem clear_flag (v : Events) (m : BitVec 15) (k : Nat) :
    (v.clear m).flags.getLsbD k = (v.flags.getLsbD k && !(m.getLsbD k && v.seen.getLsbD k)) := by
  by_cases hk : k < 15
  · simp only [Events.clear, BitVec.getLsbD_and, BitVec.getLsbD_not, hk, decide_true, Bool.true_and]
    cases v.flags.getLsbD k <;> simp
  · simp [BitVec.getLsbD_of_ge _ k (Nat.not_lt.1 hk)]

/-- A seen mark is cleared with its flag (R172). -/
theorem clear_seen (v : Events) (m : BitVec 15) (k : Nat) :
    (v.clear m).seen.getLsbD k = (v.seen.getLsbD k && !(m.getLsbD k && v.flags.getLsbD k)) := by
  by_cases hk : k < 15
  · simp only [Events.clear, BitVec.getLsbD_and, BitVec.getLsbD_not, hk, decide_true, Bool.true_and]
    cases v.seen.getLsbD k <;> simp
  · simp [BitVec.getLsbD_of_ge _ k (Nat.not_lt.1 hk)]

/-! ## ATTN -/

/-- ATTN is asserted where one event has its flag and its enable set (R171). -/
theorem attn_iff (s : State) : s.attn = true ↔ ∃ k, s.events.flags.getLsbD k = true ∧ s.events.enables.getLsbD k = true := by
  rw [State.attn, bne_iff_ne, ne_eq, BitVec.eq_of_getLsbD_eq_iff]
  constructor
  · intro h
    push Not at h
    obtain ⟨k, -, hk⟩ := h
    exact ⟨k, by simpa using hk⟩
  · rintro ⟨k, hflag, henable⟩ h
    have hk := h k (BitVec.lt_of_getLsbD hflag)
    simp [hflag, henable] at hk

/-! ## The requests -/

/-- A mask that does not name bit 15 is in range. -/
theorem msb_clear {mask : BitVec 16} (h : mask.getLsbD 15 = false) : ¬mask.msb = true :=
  Bool.eq_false_iff.1 ((BitVec.msb_eq_getLsbD_last mask).trans h)

/-- The named bits of a mask that does not name bit 15. -/
theorem named_getLsbD {mask : BitVec 16} (h : mask.getLsbD 15 = false) (k : Nat) :
    (mask.setWidth 15).getLsbD k = mask.getLsbD k := by
  rw [BitVec.getLsbD_setWidth]
  rcases Nat.lt_or_ge k 15 with hk | hk
  · simp [hk]
  · rcases hk.eq_or_lt with rfl | hk
    · rw [h, Bool.and_false]
    · simp [BitVec.getLsbD_of_ge mask k hk]

/-- The reply of EVENTS_ENABLE carries the mask as it was sent. -/
theorem maskBytes_setWidth {mask : BitVec 16} (h : mask.getLsbD 15 = false) : maskBytes (mask.setWidth 15) = be16 mask := by
  have hmask : (mask.setWidth 15).setWidth 16 = mask := BitVec.eq_of_getLsbD_eq fun k hk => by
    rw [BitVec.getLsbD_setWidth, named_getLsbD h]
    simp [hk]
  rw [maskBytes, hmask]

section Masks

variable {mask : BitVec 16} (s : State)

/-- Bit 15 names no event: both requests refuse a mask that has it set (R172). -/
theorem exec_events_range (h : mask.getLsbD 15 = true) :
    exec (.eventsClear mask) s = .next (s.answer (.eventsClear mask) .range) ∧
      exec (.eventsEnable mask) s = .next (s.answer (.eventsEnable mask) .range) :=
  have hmsb : mask.msb = true := (BitVec.msb_eq_getLsbD_last mask).trans h
  ⟨if_pos hmsb, if_pos hmsb⟩

theorem exec_eventsClear (h : mask.getLsbD 15 = false) : exec (.eventsClear mask) s =
    .next (State.answer { s with events := s.events.clear (mask.setWidth 15) } (.eventsClear mask) .ok
      (maskBytes (s.events.clear (mask.setWidth 15)).flags)) :=
  if_neg (msb_clear h)

theorem exec_eventsEnable (h : mask.getLsbD 15 = false) : exec (.eventsEnable mask) s =
    .next (State.answer { s with events := s.events.enable (mask.setWidth 15) } (.eventsEnable mask) .ok (be16 mask)) := by
  rw [← maskBytes_setWidth h]
  exact if_neg (msb_clear h)

end Masks

/-- Settles O6: each bit after a raise and after a clear, and the three requests; a clear after the event finds no seen mark. -/
theorem eventsAreRaisedReadAndCleared : Obligations.EventsAreRaisedReadAndCleared := by
  refine ⟨fun s e => ⟨raise_flag_self s.events e, ?_, fun k hk => ⟨?_, ?_⟩, rfl, rfl, attn_iff s⟩, fun s => rfl,
    fun s mask h => exec_events_range s h, fun s mask h => ⟨⟨_, exec_eventsClear s h, rfl, fun k => ⟨?_, ?_⟩⟩, exec_eventsEnable s h⟩,
    fun v e m hflag hseen hm => ⟨raise_flag_self _ e, ?_, ?_, ?_⟩⟩
  · simp [raise_seen]
  · simp [raise_flag, hk]
  · simp [raise_seen, hk]
  · rw [clear_flag, named_getLsbD h]
  · rw [clear_seen, named_getLsbD h]
  · simp [raise_seen]
  · simp [clear_flag, raise_flag, raise_seen]
  · simp [clear_seen, raise_seen]

end Sys2Proof.Machine
end

section
/-! The transactions of the control link (O8): a request transaction's checks, the bytes a read shifts out, and the owner's answer. -/

namespace Sys2Proof.Machine

-- one theorem after another, as in the tests: a checker's memory limit leaves no room for many threads at once
set_option Elab.async false

open Sys2Proof

/-! ## The checks of a request message (R166) -/

theorem whole_eq_none {α : Type} {o : Option (α × List Byte)} (h : ∀ x, o ≠ some (x, [])) : whole o = none := by
  unfold whole
  split
  · next x => exact absurd rfl (h x)
  · rfl

section Message

variable {code len : Byte} {body : List Byte}

theorem parseRequest_length (h : 250 < len.toNat ∨ body.length ≠ len.toNat) :
    parseRequest (code :: len :: body) = .error .malformed :=
  if_pos (by simpa [Config.maxBody] using h)

/-- A message whose length byte is right is read by its code (R166, checks 2 and 3). -/
theorem parseRequest_counted (hmax : len.toNat ≤ 250) (hlen : body.length = len.toNat) :
    parseRequest (code :: len :: body) =
      if code.toNat ∈ requestCodes then (whole (rdRequest code.toNat body)).elim (.error .malformed) .ok
      else .error .unknownRequest := by
  have hcount : ¬(decide (len.toNat > Config.maxBody) || body.length != len.toNat) = true := by simp [Config.maxBody, hmax, hlen]
  refine (if_neg hcount).trans ?_
  by_cases hcode : code.toNat ∈ requestCodes
  · rw [if_pos hcode, if_neg (by simpa using hcode)]
    cases whole (rdRequest code.toNat body) <;> rfl
  · rw [if_neg hcode, if_pos (by simpa using hcode)]

end Message

/-! ## A request transaction (R166, R167) -/

section Taken

variable {l : Link} {bytes : List Byte}

theorem takeRequest_dropped (h : l.processing = true) : takeRequest l bytes = { l with dropped := true } := if_pos h

theorem takeRequest_error {st : Status} (h : l.processing = false) (hparse : parseRequest bytes = .error st) :
    takeRequest l bytes = { l with held := some ⟨st, []⟩, dropped := false, answer := none } := by
  simp only [takeRequest, h, hparse, Bool.false_eq_true, if_false]

theorem takeRequest_ok {c : Instr} (h : l.processing = false) (hparse : parseRequest bytes = .ok c) :
    takeRequest l bytes =
      { l with processing := true, request := some c, held := none, dropped := false, answer := none } := by
  simp only [takeRequest, h, hparse, Bool.false_eq_true, if_false]

end Taken

section Transactions

variable {s : State}

theorem exec_requestTransaction_straddling (h : s.link.straddles = true) (bytes : List Byte) :
    exec (.requestTransaction bytes) s = .next { s with link := { s.link with straddles := false } } := by
  cases bytes with
  | nil => exact congrArg Host.Outcome.next (if_pos h)
  | cons code rest => exact congrArg Host.Outcome.next (if_pos h)

theorem exec_requestTransaction_nil (h : s.link.straddles = false) : exec (.requestTransaction []) s = .next s :=
  congrArg Host.Outcome.next (if_neg (Bool.eq_false_iff.1 h))

/-- A transaction whose byte 0 is not 0x00 goes to the link record, and zeros are shifted out beside it. -/
theorem exec_requestTransaction {code : Byte} (hcode : code ≠ 0) (h : s.link.straddles = false) (rest : List Byte) :
    exec (.requestTransaction (code :: rest)) s =
      .next (State.shiftOut { s with link := takeRequest s.link (code :: rest) } (List.replicate (rest.length + 1) 0)) :=
  congrArg Host.Outcome.next ((if_neg (Bool.eq_false_iff.1 h)).trans (if_neg hcode))

/-- A message that fails a check leaves its status as the held reply (R166). -/
theorem exec_requestTransaction_error {code : Byte} {rest : List Byte} {st : Status} (hcode : code ≠ 0)
    (h : s.link.straddles = false) (hidle : s.link.processing = false) (hparse : parseRequest (code :: rest) = .error st) :
    exec (.requestTransaction (code :: rest)) s =
      .next (State.shiftOut { s with link := { s.link with held := some ⟨st, []⟩, dropped := false, answer := none } }
        (List.replicate (rest.length + 1) 0)) := by
  rw [exec_requestTransaction hcode h, takeRequest_error hidle hparse]

/-! ## A read transaction (R168) -/

theorem exec_requestTransaction_read (rest : List Byte) :
    exec (.requestTransaction (0 :: rest)) s = exec (.readTransaction ⟨false, rest.length + 1⟩) s := by
  cases h : s.link.straddles with
  | true =>
    have hread : exec (.readTransaction ⟨false, rest.length + 1⟩) s = .next (skipStraddling s) := congrArg Host.Outcome.next (if_pos h)
    exact (exec_requestTransaction_straddling h _).trans hread.symm
  | false => exact congrArg Host.Outcome.next (if_neg (Bool.eq_false_iff.1 h))

theorem exec_readTransaction (h : s.link.straddles = false) (read : ReadTransfer) :
    exec (.readTransaction read) s = .next (s.shiftOut (readBytes s.link read)) :=
  congrArg Host.Outcome.next (if_neg (Bool.eq_false_iff.1 h))

end Transactions

/-- The reply that a read transaction carries (R168). -/
def readReply (l : Link) (notDone : Bool) : Reply :=
  if notDone = true ∨ l.processing = true then ⟨.notDone, []⟩ else l.held.getD ⟨.ok, []⟩

theorem readBytes_eq (l : Link) (read : ReadTransfer) :
    let r := readReply l read.notDone
    readBytes l read = ((0 :: statusByte r.status l.dropped :: BitVec.ofNat 8 r.body.length :: r.body) ++
      List.replicate read.bytes 0).take read.bytes := by
  simp only [readBytes, readReply, Bool.or_eq_true]

theorem length_readBytes (l : Link) (read : ReadTransfer) : (readBytes l read).length = read.bytes := by
  rw [readBytes_eq, List.length_take_of_le]
  simp only [List.length_append, List.length_replicate]
  exact Nat.le_add_left _ _

/-- Byte `k` of a message followed by as many zeros as are read: 0x00 beyond the message (R168). -/
theorem getElem?_padded {message : List Byte} {n k : Nat} (h : k < n) :
    ((message ++ List.replicate n 0).take n)[k]? = some (message[k]?.getD 0) := by
  rw [List.getElem?_take_of_lt h]
  rcases Nat.lt_or_ge k message.length with hk | hk
  · simp [List.getElem?_append_left hk, hk]
  · rw [List.getElem?_append_right hk, List.getElem?_eq_none hk, List.getElem?_replicate, if_pos (by omega)]
    rfl

/-- The bytes after byte 0: the status with the dropped mark, the body's length and the body, then zeros (Table 10-1). -/
theorem getElem?_readBytes (l : Link) (read : ReadTransfer) {k : Nat} (h : k + 1 < read.bytes) :
    let r := readReply l read.notDone
    (readBytes l read)[k + 1]? = some (((statusByte r.status l.dropped :: BitVec.ofNat 8 r.body.length :: r.body)[k]?).getD 0) := by
  rw [readBytes_eq]
  exact getElem?_padded h

/-! ## The owner's answer (R166) -/

theorem awaits_iff (l : Link) (c : Instr) : l.awaits c = true ↔ l.processing = true ∧ l.request = some c ∧ l.answer = none := by
  simp [Link.awaits, and_assoc]

theorem exec_requestAnswered {s : State} {r : Reply} (hproc : s.link.processing = true) (hans : s.link.answer = some r) :
    exec .requestAnswered s =
      .next { s with link := { s.link with processing := false, request := none, answer := none, held := some r } } := by
  show execRequestAnswered s = _
  simp only [execRequestAnswered, hproc, hans]

theorem exec_requestAnswered_early {s : State} (h : s.link.processing = false ∨ s.link.answer = none) :
    exec .requestAnswered s = .next s := by
  show execRequestAnswered s = _
  unfold execRequestAnswered
  split
  · next hproc hans => simp [hproc, hans] at h
  · rfl

/-- Settles O8: the checks of a message in their order, the bytes of a read, and the answer that the link awaits. -/
theorem linkTransactions : Obligations.LinkTransactions := by
  refine ⟨fun s => exec_requestTransaction_nil, fun s bytes h => exec_requestTransaction_straddling h bytes,
    fun s code rest hcode hstr hproc => ?_, fun s code rest hcode hstr hidle => ?_, fun s notDone n r hstr hr => ?_,
    fun s rest => exec_requestTransaction_read rest, fun s c r st body => ⟨fun hproc hreq hans => ⟨?_, fun hne => ?_⟩, fun h => ?_⟩,
    fun s r => exec_requestAnswered, fun s => exec_requestAnswered_early⟩
  · rw [exec_requestTransaction hcode hstr, takeRequest_dropped hproc]
  · intro held
    have hfails {st : Status} : parseRequest (code :: rest) = .error st → exec (.requestTransaction (code :: rest)) s = held st :=
      exec_requestTransaction_error hcode hstr hidle
    refine ⟨fun hrest => hfails (by rw [hrest]; rfl), ?_⟩
    rintro len body rfl
    refine ⟨fun hlen => hfails (parseRequest_length hlen), fun hmax hlen hunknown => hfails ?_, fun hmax hlen hknown hread => hfails ?_⟩
    · rw [parseRequest_counted hmax hlen, if_neg hunknown]
    · rw [parseRequest_counted hmax hlen, if_pos hknown, whole_eq_none hread]
      rfl
  · subst hr
    exact ⟨_, exec_readTransaction hstr _, length_readBytes _ _, fun k hk => getElem?_readBytes s.link ⟨notDone, n⟩ hk⟩
  · exact State.answer_awaited ((awaits_iff _ _).2 ⟨hproc, hreq, hans⟩) st body
  · refine State.answer_unasked (Bool.eq_false_iff.2 fun h => hne ?_) st body
    obtain ⟨-, hc, -⟩ := (awaits_iff _ _).1 h
    exact Option.some.inj (hc.symm.trans hreq)
  · refine State.answer_unasked (Bool.eq_false_iff.2 fun hawaits => ?_) st body
    obtain ⟨hproc, -, hans⟩ := (awaits_iff _ _).1 hawaits
    simp [hproc, hans] at h

end Sys2Proof.Machine
end

section
/-! Decode of encode for the requests (O7): each field read back from its bytes, each body, and the message in process. -/

namespace Sys2Proof.Machine

-- one theorem after another, as in the tests: a checker's memory limit leaves no room for many threads at once
set_option Elab.async false

open Sys2Proof

/-! ## A field read back from its bytes, and the reading of what follows it -/

section Fields

variable {α : Type} (t : List Byte)

/-- What a reader gives is handed on to the reading that follows it. -/
theorem read_bind {β : Type} {o : Option (β × List Byte)} {x : β} (h : o = some (x, t)) (f : β × List Byte → Option α) :
    (o >>= f) = f (x, t) :=
  congrArg (· >>= f) h

theorem rd8_bind (x : Byte) (f : Byte × List Byte → Option α) : (rd8 (x :: t) >>= f) = f (x, t) := rfl

theorem rd16_be16 (x : BitVec 16) : rd16 (be16 x ++ t) = some (x, t) := by
  have hjoin : x.extractLsb' 8 8 ++ x.extractLsb' 0 8 = x := BitVec.extractLsb'_append_extractLsb'
  exact congrArg (fun y => some (y, t)) hjoin

theorem rd16_bind (x : BitVec 16) (f : BitVec 16 × List Byte → Option α) : (rd16 (be16 x ++ t) >>= f) = f (x, t) :=
  read_bind t (rd16_be16 t x) f

theorem rd32_be32 (x : BitVec 32) : rd32 (be32 x ++ t) = some (x, t) := by
  have htop : x.extractLsb' 24 8 ++ x.extractLsb' 16 8 = x.extractLsb' 16 16 := BitVec.extractLsb'_append_extractLsb'_eq_extractLsb' rfl
  have hmid : x.extractLsb' 16 16 ++ x.extractLsb' 8 8 = x.extractLsb' 8 24 := BitVec.extractLsb'_append_extractLsb'_eq_extractLsb' rfl
  have hlow : x.extractLsb' 8 24 ++ x.extractLsb' 0 8 = x := BitVec.extractLsb'_append_extractLsb'
  have hjoin : (x.extractLsb' 24 8 ++ x.extractLsb' 16 8 ++ x.extractLsb' 8 8 ++ x.extractLsb' 0 8).setWidth 32 = x := by
    rw [htop]
    exact (congrArg (fun y => y ++ x.extractLsb' 0 8) hmid).trans hlow
  exact congrArg (fun y => some (y, t)) hjoin

theorem rd32_bind (x : BitVec 32) (f : BitVec 32 × List Byte → Option α) : (rd32 (be32 x ++ t) >>= f) = f (x, t) :=
  read_bind t (rd32_be32 t x) f

theorem rdN_append {n : Nat} {x : List Byte} (h : x.length = n) : rdN n (x ++ t) = some (x, t) := by
  subst h
  simp [rdN]

/-- A count that a byte can hold is read from it as it is. -/
theorem toNat_count {n : Nat} (h : n < 256) : (BitVec.ofNat 8 n).toNat = n := Nat.mod_eq_of_lt h

theorem rdLabel_labelBytes {label : List Byte} (h : label.length < 256) : rdLabel (labelBytes label ++ t) = some (label, t) :=
  rdN_append t (toNat_count h).symm

theorem rdKnots_bytes (knots : List (BitVec 16 × BitVec 16)) :
    rdKnots knots.length ((knots.flatMap fun k => be16 k.1 ++ be16 k.2) ++ t) = some (knots, t) := by
  induction knots with
  | nil => rfl
  | cons k knots ih =>
    simp only [List.length_cons, List.flatMap_cons, List.append_assoc, rdKnots, ↓rd16_bind, ih]
    rfl

theorem rdRgb16_bytes (x : Rgb (BitVec 16)) : rdRgb16 (rgb16Bytes x ++ t) = some (x, t) := by
  simp only [rgb16Bytes, List.append_assoc, rdRgb16, ↓rd16_bind]

theorem rdRgb16_bind (x : Rgb (BitVec 16)) (f : Rgb (BitVec 16) × List Byte → Option α) :
    (rdRgb16 (rgb16Bytes x ++ t) >>= f) = f (x, t) :=
  read_bind t (rdRgb16_bytes t x) f

theorem rdSetup_bytes (f : SetupFields) : rdSetup (setupBytes f ++ t) = some (f, t) := by
  simp only [setupBytes, List.append_assoc, List.cons_append, List.nil_append, rdSetup, ↓rd16_bind, ↓rd8_bind]

theorem rdEngine_bytes (f : EngineFields) : rdEngine (engineBytes f ++ t) = some (f, t) := by
  simp only [engineBytes, List.append_assoc, List.cons_append, List.nil_append, rdEngine, ↓rd32_bind, ↓rd16_bind, ↓rd8_bind]

theorem rdChannel_bytes (f : ChannelFields) : rdChannel (channelBytes f ++ t) = some (f, t) := by
  simp only [channelBytes, List.append_assoc, List.cons_append, List.nil_append, rdChannel, ↓rd16_bind, ↓rd8_bind]

/-! ## The bodies that hold a list or a record -/

theorem rdRequest_profileCreate (id : BitVec 16) {label : List Byte} (h : label.length < 256) :
    rdRequest 0x10 (be16 id ++ labelBytes label ++ t) = some (.profileCreate id label, t) := by
  simp only [List.append_assoc, rdRequest, ↓rd16_bind, ↓read_bind t (rdLabel_labelBytes t h)]

theorem rdRequest_profilePutTerms (id life : BitVec 16) (trims darks : Rgb (BitVec 16)) {label : List Byte} (h : label.length < 256) :
    rdRequest 0x13 (be16 id ++ rgb16Bytes trims ++ rgb16Bytes darks ++ be16 life ++ labelBytes label ++ t) =
      some (.profilePutTerms id trims darks life label, t) := by
  simp only [List.append_assoc, rdRequest, ↓rd16_bind, ↓rdRgb16_bind, ↓read_bind t (rdLabel_labelBytes t h)]

theorem rdRequest_profilePutCurve (id : BitVec 16) (chan : Byte) {knots : List (BitVec 16 × BitVec 16)} (h : knots.length < 256) :
    rdRequest 0x12 (be16 id ++ [chan] ++ u8 knots.length ++ (knots.flatMap fun k => be16 k.1 ++ be16 k.2) ++ t) =
      some (.profilePutCurve id chan knots, t) := by
  simp only [List.append_assoc, List.cons_append, List.nil_append, u8, rdRequest, ↓rd16_bind, ↓rd8_bind, toNat_count h,
    ↓read_bind t (rdKnots_bytes t knots)]

theorem rdRequest_opticsPutFacets {facets : List (Byte × Byte)} (h : facets.length < 256) :
    rdRequest 0x21 (u8 facets.length ++ facets.map Prod.fst ++ facets.map Prod.snd ++ t) = some (.opticsPutFacets facets, t) := by
  have hgains := rdN_append (facets.map Prod.snd ++ t) (List.length_map (as := facets) Prod.fst)
  have hdelays := rdN_append t (List.length_map (as := facets) Prod.snd)
  have hzip : (facets.map Prod.fst).zip (facets.map Prod.snd) = facets := (List.zip_of_prod rfl rfl).symm
  simp only [List.append_assoc, List.cons_append, List.nil_append, u8, rdRequest, ↓rd8_bind, toNat_count h, ↓read_bind _ hgains,
    ↓read_bind t hdelays, hzip]

theorem rdRequest_opticsPutShading (chan : Byte) (knots : Vector Byte 65) :
    rdRequest 0x22 ([chan] ++ knots.toList ++ t) = some (.opticsPutShading chan knots, t) := by
  simp only [List.cons_append, List.nil_append, rdRequest, ↓rd8_bind, ↓read_bind t (rdN_append t knots.length_toList)]
  exact dif_pos knots.length_toList

end Fields

/-! ## Every request's body and its message -/

/-- The body of a well-formed request is read back as the request, with what follows it left (R165). -/
theorem rdRequest_encode {c : Instr} {code : Nat} {body : List Byte} (hwf : c.wf = true) (h : encodeRequest c = some (code, body))
    (t : List Byte) : rdRequest code (body ++ t) = some (c, t) := by
  cases c <;> cases h
  case eventsClear | eventsEnable | profileCommit | profileDiscard | profileRetire | profileQuery | frameConfigure | rollAdvance =>
    exact rd16_bind t _ _
  case profileStage | profileReadCurve | profileEvaluate | portConfigure | channelSetReference | rollLoad =>
    simp only [List.append_assoc, List.cons_append, List.nil_append, rdRequest, ↓rd32_bind, ↓rd16_bind, ↓rd8_bind]
  case profileCreate id label =>
    have hfits : 2 + 1 + label.length ≤ 250 := of_decide_eq_true hwf
    exact rdRequest_profileCreate t id (by omega)
  case profilePutTerms id trims darks life label =>
    have hfits : 16 + 1 + label.length ≤ 250 := of_decide_eq_true hwf
    exact rdRequest_profilePutTerms t id life trims darks (by omega)
  case profilePutCurve id chan knots =>
    have hfits : 4 + 4 * knots.length ≤ 250 := of_decide_eq_true hwf
    exact rdRequest_profilePutCurve t id chan (by omega)
  case opticsPutFacets facets =>
    have hfits : 1 + 2 * facets.length ≤ 250 := of_decide_eq_true hwf
    exact rdRequest_opticsPutFacets t (by omega)
  case opticsPutShading chan knots => exact rdRequest_opticsPutShading t chan knots
  case setupWrite slot fields =>
    simp only [List.cons_append, List.nil_append, rdRequest, ↓rd8_bind, ↓read_bind t (rdSetup_bytes t fields)]
  case engineConfigure fields => exact read_bind t (rdEngine_bytes t fields) _
  case channelConfigure chan fields delay =>
    simp only [List.append_assoc, List.cons_append, List.nil_append, rdRequest, ↓rd8_bind, ↓read_bind _ (rdChannel_bytes _ fields),
      ↓rd16_bind]
  all_goals rfl

/-- Every request has a code of Table 10-3. -/
theorem encodeRequest_code {c : Instr} {code : Nat} {body : List Byte} (h : encodeRequest c = some (code, body)) :
    code ∈ requestCodes := by
  cases c <;> cases h <;> decide

/-- A request's code is one byte, and not the 0x00 of a read (R168). -/
theorem requestCode_byte : ∀ code ∈ requestCodes, BitVec.ofNat 8 code ≠ 0 ∧ code < 256 := by decide

theorem length_be16 (x : BitVec 16) : (be16 x).length = 2 := rfl

theorem length_labelBytes (label : List Byte) : (labelBytes label).length = 1 + label.length := Nat.add_comm _ _

theorem length_flatMap_knots (knots : List (BitVec 16 × BitVec 16)) :
    (knots.flatMap fun k => be16 k.1 ++ be16 k.2).length = 4 * knots.length := by
  simp [be16, Nat.mul_comm]

/-- The body of a well-formed request fits a message (R164). -/
theorem encodeRequest_length {c : Instr} {code : Nat} {body : List Byte} (hwf : c.wf = true) (h : encodeRequest c = some (code, body)) :
    body.length ≤ 250 := by
  cases c <;> cases h
  case profileCreate id label =>
    have hfits : 2 + 1 + label.length ≤ 250 := of_decide_eq_true hwf
    simp only [List.length_append, length_be16, length_labelBytes]
    omega
  case profilePutTerms id trims darks life label =>
    have hfits : 16 + 1 + label.length ≤ 250 := of_decide_eq_true hwf
    simp only [List.length_append, length_be16, rgb16Bytes, length_labelBytes]
    omega
  case profilePutCurve id chan knots =>
    have hfits : 4 + 4 * knots.length ≤ 250 := of_decide_eq_true hwf
    simp only [List.length_append, length_be16, u8, List.length_singleton, length_flatMap_knots]
    omega
  case opticsPutFacets facets =>
    have hfits : 1 + 2 * facets.length ≤ 250 := of_decide_eq_true hwf
    simp only [List.length_append, u8, List.length_singleton, List.length_map]
    omega
  case opticsPutShading chan knots => simp
  all_goals exact Nat.le_of_ble_eq_true rfl

/-- A request's message passes the link's checks and is read as the request (R166, R169). -/
theorem parseRequest_encode {c : Instr} {code : Nat} {body : List Byte} (hwf : c.wf = true) (h : encodeRequest c = some (code, body)) :
    parseRequest (BitVec.ofNat 8 code :: BitVec.ofNat 8 body.length :: body) = .ok c := by
  have hcode := encodeRequest_code h
  have hbyte : (BitVec.ofNat 8 code).toNat = code := toNat_count (requestCode_byte code hcode).2
  have hmax := encodeRequest_length hwf h
  have hlen : (BitVec.ofNat 8 body.length).toNat = body.length := toNat_count (by omega)
  have hread : rdRequest code body = some (c, []) := by simpa using rdRequest_encode hwf h []
  rw [parseRequest_counted (by omega) hlen.symm, hbyte, if_pos hcode, hread]
  rfl

/-- Settles O7: the code is no read's 0x00, and the message decodes to the request it was formed of. -/
theorem requestMessagesAreTaken : Obligations.RequestMessagesAreTaken := by
  intro s c bytes hwf hmessage hidle hstr
  obtain ⟨⟨code, body⟩, hencode, rfl⟩ := Option.map_eq_some_iff.1 hmessage
  have hcode := (requestCode_byte code (encodeRequest_code hencode)).1
  show exec (.requestTransaction (BitVec.ofNat 8 code :: BitVec.ofNat 8 body.length :: body)) s = _
  rw [exec_requestTransaction hcode hstr, takeRequest_ok hidle (parseRequest_encode hwf hencode), hstr]
  rfl

end Sys2Proof.Machine
end

section
/-! The save (O57): the operations of a record, the record formed next, and the two ends of an operation. -/

namespace Sys2Proof.Machine

-- one theorem after another, as in the tests: a checker's memory limit leaves no room for many threads at once
set_option Elab.async false

open Sys2Proof

/-! ## A record issued -/

theorem withCrc_ne_nil (bytes : List Byte) : withCrc bytes ≠ [] := by simp [withCrc, be16]

theorem programsOf_ne_nil (a : Nat) {bytes : List Byte} (h : bytes ≠ []) : programsOf a bytes ≠ [] := by
  cases bytes with
  | nil => exact absurd rfl h
  | cons b rest => exact List.cons_ne_nil _ _

/-- A record that ends before the next page is one program operation (R179). -/
theorem programsOf_in_page {a : Nat} {bytes : List Byte} (h : bytes ≠ []) (hroom : bytes.length ≤ 256 - a % 256) :
    programsOf a bytes = [.program a bytes] := by
  cases bytes with
  | nil => exact absurd rfl h
  | cons b rest =>
    show FlashOp.program a ((b :: rest).take (256 - a % 256)) ::
      pageSplit (rest.length + 1) (a + (256 - a % 256)) ((b :: rest).drop (256 - a % 256)) = _
    rw [List.take_of_length_le hroom, List.drop_eq_nil_of_le hroom]
    rfl

/-- The save awaits the first operation of a record issued, and the rest of them follow; the operation timer restarts (R179, R180). -/
theorem issueRecord_eq (s : State) (v : Save) (a : Nat) {bytes : List Byte} (h : bytes ≠ []) :
    ∃ op later, op :: later = programsOf a bytes ∧ issueRecord s v a bytes =
      { s with image := { s.image with timer := 0, save := some { v with op := op, later := later } } } := by
  cases hops : programsOf a bytes with
  | nil => exact absurd hops (programsOf_ne_nil a h)
  | cons op later => exact ⟨op, later, rfl, by rw [issueRecord, hops]; rfl⟩

theorem length_headerBytes (n length : Nat) : (headerBytes n length).length = 16 := rfl

/-- The header lies in one page, so it is one operation (Table 11-1). -/
theorem programsOf_header (n length : Nat) : programsOf 0 (headerBytes n length) = [.program 0 (headerBytes n length)] :=
  programsOf_in_page (withCrc_ne_nil _) (by rw [length_headerBytes]; decide)

/-! ## The profile record formed next -/

theorem Profile.saved_iff (p : Profile) : p.saved = true ↔ p.state = .active ∨ p.state = .stale := by simp [Profile.saved]

/-- In a table of ascending IDs the first record that passes a test is the passing one of the least ID. -/
theorem find?_least {ok : Profile → Bool} {p : Profile} : ∀ {t : List Profile}, idsAscend t → p ∈ t → ok p = true →
    (∀ q ∈ t, ok q = true → p.id ≤ q.id) → t.find? ok = some p
  | x :: t, hasc, hp, hok, hleast => by
    by_cases hx : ok x = true
    · rw [List.find?_cons_of_pos hx]
      rcases List.mem_cons.1 hp with rfl | hp
      · rfl
      · have hbefore := List.rel_of_pairwise_cons hasc hp
        have hle := hleast x List.mem_cons_self hx
        omega
    · rw [List.find?_cons_of_neg hx]
      have hpt : p ∈ t := (List.mem_cons.1 hp).resolve_left fun h => hx (h ▸ hok)
      exact find?_least hasc.of_cons hpt hok fun q hq => hleast q (List.mem_cons_of_mem _ hq)

section Formed

variable {s : State} {v : Save}

/-- The next profile record is that of the least ID above the latest one's (step 2 of R179). -/
theorem formProfile_next {p : Profile} {c : Calibration} (hasc : idsAscend s.profiles) (hp : p ∈ s.profiles)
    (hsaved : v.lastId < p.id ∧ (p.state = .active ∨ p.state = .stale))
    (hleast : ∀ q ∈ s.profiles, v.lastId < q.id ∧ (q.state = .active ∨ q.state = .stale) → p.id ≤ q.id) (hc : p.activeCal = some c) :
    formProfile s v = issueRecord s { v with
      step := .profile, lastId := p.id, offset := v.offset + (profileRecord p c).length, count := v.count + 1 } v.offset
      (profileRecord p c) := by
  have hfind : (s.profiles.find? fun q => decide (v.lastId < q.id) && q.saved) = some p :=
    find?_least hasc hp (by simpa [Profile.saved_iff] using hsaved) fun q hq hok =>
      hleast q hq (by simpa [Profile.saved_iff] using hok)
  simp only [formProfile, hfind, hc, Option.getD_some]

/-- After the last profile record the optics record is formed (step 3 of R179). -/
theorem formProfile_last (h : ∀ p ∈ s.profiles, ¬(v.lastId < p.id ∧ (p.state = .active ∨ p.state = .stale))) :
    formProfile s v = formOptics s v := by
  have hfind : (s.profiles.find? fun q => decide (v.lastId < q.id) && q.saved) = none :=
    List.find?_eq_none.2 fun p hp hok => h p hp (by simpa [Profile.saved_iff] using hok)
  simp only [formProfile, hfind]

theorem formHeader_eq (s : State) (v : Save) : formHeader s v =
    { s with image := { s.image with timer := 0, save := some { v with
      step := .header, op := .program 0 (headerBytes v.count (v.offset - 16)), later := [] } } } := by
  have hops : programsOf 0 (headerBytes v.count (v.offset - recordsAt)) = _ := programsOf_header _ _
  rw [formHeader, issueRecord, hops]
  rfl

/-- What forming the next record of a save leaves alone: all but the save and its timer. -/
theorem formProfile_eq (s : State) (v : Save) : ∃ w, formProfile s v =
    { s with image := { s.image with timer := 0, save := some w } } := by
  have hform : ∀ (v : Save) (a : Nat) (bytes : List Byte), ∃ w, issueRecord s v a (withCrc bytes) =
      { s with image := { s.image with timer := 0, save := some w } } := fun v a bytes => by
    obtain ⟨op, later, -, h⟩ := issueRecord_eq s v a (withCrc_ne_nil bytes)
    exact ⟨_, h⟩
  unfold formProfile
  split
  · exact hform _ _ _
  · exact hform _ _ _

end Formed

/-! ## An operation done, and one past its limit -/

section Operation

variable {s : State} {v : Save} (h : s.image.save = some v)

include h

theorem exec_flashOperationDone_more {op : FlashOp} {later : List FlashOp} (hlater : v.later = op :: later) :
    exec .flashOperationDone s = .next { s with
      flash := s.flash.carryOut v.op
      image := { s.image with timer := 0, save := some { v with op := op, later := later } } } := by
  show execFlashOperationDone s = _
  simp only [execFlashOperationDone, h, hlater]
  rfl

/-- The last operation of a record done: the flash has carried it out and the save goes on (R179). -/
theorem exec_flashOperationDone_last (hlater : v.later = []) :
    exec .flashOperationDone s = .next (saveNext { s with flash := s.flash.carryOut v.op } v) := by
  show execFlashOperationDone s = _
  simp only [execFlashOperationDone, h, hlater]

theorem exec_imageOperationTimeout : exec .imageOperationTimeout s =
    .next (State.raise { failFlash s v with
      image := { s.image with state := .idle, last := .fault, failed := some v.step.failed, save := none } } .imageFault) := by
  show Host.Outcome.next (failSave s) = _
  simp only [failSave, h]
  rw [failFlash_eq]
  rfl

end Operation

/-- The state in which the record after a done one is formed: records written has risen, but not after the erase (R179). -/
def afterRecord (s : State) (v : Save) : State :=
  { s with
    flash := s.flash.carryOut v.op
    image := { s.image with written := if v.step = .erase then s.image.written else s.image.written + 1 } }

theorem saveNext_profiles (s : State) {v : Save} (h : v.step = .erase ∨ v.step = .profile) :
    saveNext { s with flash := s.flash.carryOut v.op } v = formProfile (afterRecord s v) v := by
  rcases h with h | h <;> simp only [saveNext, afterRecord, h] <;> rfl

/-- What a program that failed leaves: a record's is carried out all the same, the header's is not (R175, R180). -/
theorem failFlash_program (s : State) {v : Save} {a : Nat} {bytes : List Byte} (h : v.op = .program a bytes) :
    (failFlash s v).flash = if v.step = .header then s.flash else s.flash.carryOut v.op := by
  rw [failFlash, h]
  cases v.step <;> rfl

/-- Settles O57: each operation's done report by the save's step, the record formed next, and the operation limit. -/
theorem saveRunsOnItsOperations : Obligations.SaveRunsOnItsOperations := by
  intro s
  refine ⟨fun hbusy => if_pos ((State.imageBusy_iff s).2 hbusy),
    fun hidle => if_neg (Bool.eq_false_iff.1 ((State.imageBusy_false s).2 hidle)), fun hnone => ⟨?_, ?_⟩, fun v hv => ?_⟩
  · show execFlashOperationDone s = _
    simp only [execFlashOperationDone, hnone]
  · show Host.Outcome.next (failSave s) = _
    simp only [failSave, hnone]
  refine ⟨fun op later => exec_flashOperationDone_more hv, fun hs hstep hlater => ?profile, fun hstep hlater => ?header,
    fun hstep hlater => ?channel, fun hstep hlater => ?optics, _, exec_imageOperationTimeout hv, ?image, ?events, ?profiles,
    fun a bytes => failFlash_program s⟩
  case profile =>
    refine ⟨_, exec_flashOperationDone_last hv hlater, ?_⟩
    rw [saveNext_profiles s hstep]
    obtain ⟨w, hform⟩ := formProfile_eq (afterRecord s v) v
    refine ⟨by rw [hform]; rfl, by rw [hform], by rw [hform]; rfl, fun p c hp hsaved hleast hc => ?_, fun hnone => ?_⟩
    · rw [formProfile_next (s := afterRecord s v) hs.table.ascend hp hsaved hleast hc]
      obtain ⟨op, later, hops, hissue⟩ := issueRecord_eq (afterRecord s v) _ v.offset (withCrc_ne_nil _)
      rw [profileRecord, hissue]
      exact ⟨_, rfl, rfl, rfl, rfl, rfl, hops⟩
    · rw [formProfile_last (s := afterRecord s v) hnone]
      obtain ⟨op, later, hops, hissue⟩ := issueRecord_eq (afterRecord s v) _ v.offset (withCrc_ne_nil _)
      rw [formOptics, opticsRecord, hissue]
      exact ⟨_, rfl, rfl, rfl, rfl, hops⟩
  case header =>
    rw [exec_flashOperationDone_last hv hlater]
    simp only [saveNext, hstep]
    rfl
  case channel =>
    refine ⟨_, exec_flashOperationDone_last hv hlater, ?_⟩
    simp only [saveNext, hstep, formHeader_eq]
    exact ⟨rfl, rfl, _, rfl, rfl, rfl, rfl⟩
  case optics =>
    refine ⟨_, exec_flashOperationDone_last hv hlater, ?_⟩
    obtain ⟨op, later, hops, hissue⟩ := issueRecord_eq (recordWritten { s with flash := s.flash.carryOut v.op }) _ v.offset (withCrc_ne_nil _)
    simp only [saveNext, hstep, formChannels, channelRecord]
    rw [hissue]
    exact ⟨rfl, _, rfl, rfl, rfl, hops⟩
  case image => cases v.step <;> rfl
  case events | profiles => rw [failFlash_eq]; rfl

end Sys2Proof.Machine
end

section
/-! The load (O59): IMAGE_LOAD's checks, and the profile records and the optics record read. -/

namespace Sys2Proof.Machine

-- one theorem after another, as in the tests: a checker's memory limit leaves no room for many threads at once
set_option Elab.async false

open Sys2Proof

/-! ## IMAGE_LOAD (R181) -/

section Checks

variable {s : State}

theorem exec_imageLoad_busy (h : s.image.state ≠ .idle) : exec .imageLoad s = .next (s.answer .imageLoad .busy) :=
  if_pos ((State.imageBusy_iff s).2 h)

theorem exec_imageLoad_state (himage : s.image.state = .idle) (h : s.profiles ≠ [] ∨ s.optics.staging = true ∨ s.inFlight = true) :
    exec .imageLoad s = .next (s.answer .imageLoad .state) := by
  have hcheck : (!s.profiles.isEmpty || s.optics.staging || s.inFlight) = true := by simpa [or_assoc] using h
  exact (if_neg (Bool.eq_false_iff.1 ((State.imageBusy_false s).2 himage))).trans (if_pos hcheck)

variable (himage : s.image.state = .idle) (hnil : s.profiles = []) (hstaging : s.optics.staging = false) (hflight : s.inFlight = false)

include himage hnil hstaging hflight

/-- Neither refusal of IMAGE_LOAD applies. -/
theorem imageLoad_admitted : ¬s.imageBusy = true ∧ ¬(!s.profiles.isEmpty || s.optics.staging || s.inFlight) = true :=
  ⟨Bool.eq_false_iff.1 ((State.imageBusy_false s).2 himage), by simp [hnil, hstaging, hflight]⟩

theorem exec_imageLoad_noImage (h : s.flash.header = none) : exec .imageLoad s = .next (State.answer
    { s with image := { s.image.clearCounts with state := .idle, last := .noImage, failed := none } } .imageLoad .noImage) := by
  obtain ⟨hbusy, hstate⟩ := imageLoad_admitted himage hnil hstaging hflight
  refine (if_neg hbusy).trans ((if_neg hstate).trans ?_)
  simp only [beginLoad, h]
  rfl

theorem exec_imageLoad_begins {n length : Nat} (h : s.flash.header = some (n, length)) : exec .imageLoad s = .next (State.answer
    { s with image := { s.image.clearCounts with
      state := .loading
      load := some ⟨if n = 0 then .optics else .profile, n, 16, 16 + length - 238, ⟨[], none, none⟩⟩ } } .imageLoad .ok
    [BitVec.ofNat 8 n]) := by
  obtain ⟨hbusy, hstate⟩ := imageLoad_admitted himage hnil hstaging hflight
  refine (if_neg hbusy).trans ((if_neg hstate).trans ?_)
  simp only [beginLoad, h]
  rfl

end Checks

/-! ## IMAGE_RECORD_READ (R182) -/

theorem endsProfiles_iff (l : Load) (length : Nat) :
    endsProfiles l length = true ↔ length < 65 ∨ 437 < length ∨ l.opticsAt < l.offset + length := by
  simp [endsProfiles, or_assoc]

theorem goodProfile_eq_some {set : LoadSet} {record : List Byte} {p : Profile} (h : readProfile record = some p)
    (hnew : ∀ q ∈ set.profiles, q.id ≠ p.id) : goodProfile set record = some p :=
  Option.filter_eq_some_iff.2 ⟨h, List.all_eq_true.2 fun q hq => bne_iff_ne.2 (hnew q hq)⟩

theorem goodProfile_eq_none {set : LoadSet} {record : List Byte}
    (h : ∀ p, readProfile record = some p → ∃ q ∈ set.profiles, q.id = p.id) : goodProfile set record = none := by
  refine Option.filter_eq_none_iff.2 fun p hp hall => ?_
  obtain ⟨q, hq, hid⟩ := h p hp
  exact bne_iff_ne.1 (List.all_eq_true.1 hall q hq) hid

section Read

variable {s : State} {l : Load}

theorem exec_imageRecordRead_none (h : s.image.load = none) : exec .imageRecordRead s = .next s := by
  show execImageRecordRead s = _
  simp only [execImageRecordRead, h]

variable (h : s.image.load = some l)

include h

theorem exec_imageRecordRead_profile (hstep : l.step = .profile) : exec .imageRecordRead s = .next (readProfileRecord s l) := by
  show execImageRecordRead s = _
  simp only [execImageRecordRead, h, hstep]

theorem exec_imageRecordRead_optics (hstep : l.step = .optics) : exec .imageRecordRead s = .next (readOpticsRecord s l) := by
  show execImageRecordRead s = _
  simp only [execImageRecordRead, h, hstep]

end Read

/-- A load after a profile record that is passed over by its length (R182). -/
def Load.passed (l : Load) (length : Nat) : Load :=
  { l with step := if l.left ≤ 1 then .optics else .profile, left := l.left - 1, offset := l.offset + length }

section Profile

variable {s : State} {l : Load}

/-- A record whose length ends the reading of profile records: all those not yet read are skipped (R182). -/
theorem readProfileRecord_ends (h : endsProfiles l (s.flash.lengthAt l.offset) = true) : readProfileRecord s l =
    { s with image := { s.image with skipped := s.image.skipped + l.left, load := some { l with step := .optics, left := 0 } } } :=
  if_pos h

variable (h : ¬endsProfiles l (s.flash.lengthAt l.offset) = true)

include h

theorem readProfileRecord_good {p : Profile} (hgood : goodProfile l.set (s.flash.bytes l.offset (s.flash.lengthAt l.offset)) = some p) :
    readProfileRecord s l = { s with image := { s.image with
      loaded := s.image.loaded + 1
      load := some { l.passed (s.flash.lengthAt l.offset) with set := { l.set with profiles := l.set.profiles ++ [p] } } } } := by
  refine (if_neg h).trans ?_
  simp only [hgood]
  rfl

theorem readProfileRecord_skipped (hbad : goodProfile l.set (s.flash.bytes l.offset (s.flash.lengthAt l.offset)) = none) :
    readProfileRecord s l = { s with image := { s.image with
      skipped := s.image.skipped + 1, load := some (l.passed (s.flash.lengthAt l.offset)) } } := by
  refine (if_neg h).trans ?_
  simp only [hbad]
  rfl

end Profile

/-- Settles O59: the checks in their order, and the record read by the load's step. -/
theorem loadReadsItsRecords : Obligations.LoadReadsItsRecords := by
  intro s
  refine ⟨exec_imageLoad_busy, exec_imageLoad_state, fun himage hnil hstaging hflight =>
    ⟨exec_imageLoad_noImage himage hnil hstaging hflight, fun n length => exec_imageLoad_begins himage hnil hstaging hflight⟩,
    exec_imageRecordRead_none, fun l hl => ⟨fun hstep => ?_, exec_imageRecordRead_optics hl⟩⟩
  rw [exec_imageRecordRead_profile hl hstep]
  refine ⟨fun hends => congrArg _ (readProfileRecord_ends ((endsProfiles_iff _ _).2 hends)), fun hlow hhigh hfits => ?_⟩
  have hgoes : ¬endsProfiles l (s.flash.lengthAt l.offset) = true := by rw [endsProfiles_iff]; omega
  exact ⟨fun p hread hnew => congrArg _ (readProfileRecord_good hgoes (goodProfile_eq_some hread hnew)),
    fun hbad => congrArg _ (readProfileRecord_skipped hgoes (goodProfile_eq_none hbad))⟩

end Sys2Proof.Machine
end

section
/-! The image region read back (O58): bytes written, the operations of a record carried out, and the pages they keep to. -/

namespace Sys2Proof.Machine

-- one theorem after another, as in the tests: a checker's memory limit leaves no room for many threads at once
set_option Elab.async false

open Sys2Proof

/-! ## Bytes written and read -/

/-- A read after bytes are written from an address on: theirs within the run, every other byte as before. -/
theorem readCell_writeCells {m : List Host.Cell} (h : cellsWf m = true) (a : Nat) (bytes : List Byte) (b : Nat) :
    readCell (writeCells m a bytes) b = if a ≤ b ∧ b < a + bytes.length then bytes.getD (b - a) 0 else readCell m b := by
  induction bytes generalizing m a with
  | nil => exact (if_neg fun hin => Nat.lt_irrefl a (Nat.lt_of_le_of_lt hin.1 hin.2)).symm
  | cons v rest ih =>
    rw [writeCells, ih (writeCell_wf a v h), readCell_writeCell h, List.length_cons]
    rcases Nat.lt_trichotomy b a with hlt | rfl | hlt
    · rw [if_neg (by omega), if_neg (by omega), if_neg (by omega)]
    · rw [if_neg (by omega), if_pos rfl, if_pos (by omega), Nat.sub_self, List.getD_cons_zero]
    · have hnext : b - a = (b - (a + 1)) + 1 := by omega
      by_cases hin : b < a + (rest.length + 1)
      · rw [if_pos (by omega), if_pos (by omega), hnext, List.getD_cons_succ]
      · rw [if_neg (by omega), if_neg (by omega), if_neg (by omega)]

/-- A run of bytes may be written in two parts. -/
theorem writeCells_split (n : Nat) (m : List Host.Cell) (a : Nat) (bytes : List Byte) :
    writeCells (writeCells m a (bytes.take n)) (a + n) (bytes.drop n) = writeCells m a bytes := by
  induction n generalizing m a bytes with
  | zero => rfl
  | succ n ih =>
    cases bytes with
    | nil => rfl
    | cons v rest =>
      rw [List.take_succ_cons, List.drop_succ_cons, writeCells, writeCells, Nat.add_comm n, ← Nat.add_assoc, ih]

/-! ## The operations of a record -/

theorem carryOut_split (n : Nat) (f : Flash) (a : Nat) (bytes : List Byte) :
    (f.carryOut (.program a (bytes.take n))).carryOut (.program (a + n) (bytes.drop n)) = f.carryOut (.program a bytes) :=
  congrArg (fun m => { f with cells := m }) (writeCells_split n f.cells a bytes)

/-- The page operations carried out one after another write what one program of all the bytes would. -/
theorem foldl_pageSplit {fuel : Nat} {f : Flash} {a : Nat} {bytes : List Byte} (h : bytes.length < fuel) :
    (pageSplit fuel a bytes).foldl Flash.carryOut f = f.carryOut (.program a bytes) := by
  induction fuel generalizing f a bytes with
  | zero => exact absurd h (Nat.not_lt_zero _)
  | succ fuel ih =>
    cases bytes with
    | nil => rfl
    | cons v rest =>
      have hroom : 0 < Config.flashPage - a % Config.flashPage := Nat.sub_pos_of_lt (Nat.mod_lt a (by decide))
      have hshort : ((v :: rest).drop (Config.flashPage - a % Config.flashPage)).length < fuel := by
        rw [List.length_drop]
        exact Nat.lt_of_lt_of_le (Nat.sub_lt (Nat.succ_pos _) hroom) (Nat.le_of_lt_succ h)
      rw [pageSplit, List.foldl_cons, ih hshort, carryOut_split]
      exact List.cons_ne_nil v rest

theorem foldl_programsOf (f : Flash) (a : Nat) (bytes : List Byte) :
    (programsOf a bytes).foldl Flash.carryOut f = f.carryOut (.program a bytes) :=
  foldl_pageSplit (Nat.lt_succ_self _)

/-- A program that writes at least one byte and lies in one page (R175). -/
def FlashOp.inPage (op : FlashOp) : Prop :=
  ∃ a part, op = .program a part ∧ 1 ≤ part.length ∧ a / 256 = (a + part.length - 1) / 256

theorem pageSplit_inPage (fuel a : Nat) (bytes : List Byte) : ∀ op ∈ pageSplit fuel a bytes, op.inPage := by
  induction fuel generalizing a bytes with
  | zero => exact List.forall_mem_nil _
  | succ fuel ih =>
    cases bytes with
    | nil => exact List.forall_mem_nil _
    | cons v rest =>
      refine List.forall_mem_cons.2 ⟨⟨a, (v :: rest).take (256 - a % 256), rfl, ?_⟩, ih _ _⟩
      rw [List.length_take, List.length_cons]
      omega

theorem read_programsOf {f : Flash} (hwf : f.wf = true) (hleft : f.left = none) (a : Nat) (bytes : List Byte) (b : Nat) :
    ((programsOf a bytes).foldl Flash.carryOut f).read b =
      if a ≤ b ∧ b < a + bytes.length then bytes.getD (b - a) 0 else f.read b := by
  have hread (cells : List Host.Cell) : ({ f with cells := cells } : Flash).read b = readCell cells b := by
    simp only [Flash.read, hleft]
  rw [foldl_programsOf, Flash.carryOut, hread, readCell_writeCells hwf, ← hread f.cells]

end Sys2Proof.Machine
end

section
/-! Decode of encode for the image's records (O58): the check value, the figures, and each kind of record read back. -/

namespace Sys2Proof.Machine

-- one theorem after another, as in the tests: a checker's memory limit leaves no room for many threads at once
set_option Elab.async false

open Sys2Proof

/-! ## The check value and the figures -/

theorem crcHolds_withCrc (bytes : List Byte) : crcHolds (withCrc bytes) = true := by
  have hcount : (withCrc bytes).length - 2 = bytes.length := by simp [withCrc, be16]
  rw [crcHolds, hcount, withCrc, List.drop_left, List.take_left]
  exact beq_self_eq_true _

theorem length_withCrc (bytes : List Byte) : (withCrc bytes).length = bytes.length + 2 := List.length_append

theorem length_u16 (n : Nat) : (u16 n).length = 2 := rfl

/-- A figure that two bytes can hold is read from them as it is. -/
theorem toNat_figure {n : Nat} (h : n ≤ 65535) : (BitVec.ofNat 16 n).toNat = n := Nat.mod_eq_of_lt (Nat.lt_succ_of_le h)

theorem toInt_figure {x : Int} (h : -32768 ≤ x ∧ x ≤ 32767) : (BitVec.ofInt 16 x).toInt = x :=
  BitVec.toInt_ofInt_eq_self (by decide) h.1 (Int.lt_add_one_of_le h.2)

theorem toInt_byte {x : Int} (h : -128 ≤ x ∧ x ≤ 127) : (BitVec.ofInt 8 x).toInt = x :=
  BitVec.toInt_ofInt_eq_self (by decide) h.1 (Int.lt_add_one_of_le h.2)

theorem map_toInt_bytes {l : List Int} (h : ∀ x ∈ l, -128 ≤ x ∧ x ≤ 127) : (l.map (BitVec.ofInt 8)).map BitVec.toInt = l := by
  rw [List.map_map]
  exact (List.map_congr_left fun x hx => toInt_byte (h x hx)).trans (List.map_id l)

/-- Three figures that are read from their bytes as they are, and are in range as written, are in range as read. -/
theorem Rgb.read_back {α β : Type} {x : Rgb α} {f : α → β} {g : β → α} {ok : α → Bool} (hread : ∀ c, g (f (x.get c)) = x.get c)
    (hok : ∀ c, ok (x.get c) = true) : (x.map f).map g = x ∧ ((x.map f).all fun y => ok (g y)) = true :=
  ⟨Rgb.ext_get fun c => by rw [Rgb.get_map, Rgb.get_map, hread],
    (Rgb.all_iff _ _).2 fun c => by rw [Rgb.get_map, hread, hok]⟩

theorem darks_bytes (x : Rgb Nat) : x.toList.flatMap u16 = rgb16Bytes (x.map (BitVec.ofNat 16)) := rfl

theorem trims_bytes (x : Rgb Int) : x.toList.flatMap i16 = rgb16Bytes (x.map (BitVec.ofInt 16)) := rfl

theorem length_rgb16Bytes (x : Rgb (BitVec 16)) : (rgb16Bytes x).length = 6 := rfl

/-! ## The header and the channel record -/

theorem readHeader_bytes {n length : Nat} (hn : n ≤ 24) (hlow : 238 ≤ length) (hhigh : length ≤ 65520) :
    readHeader (headerBytes n length) = some (n, length) := by
  have hcrc : crcHolds (headerBytes n length) = true := crcHolds_withCrc _
  have hlen : (headerBytes n length).length = 16 := length_headerBytes n length
  obtain ⟨t, hread⟩ : ∃ t, headerBytes n length = be32 imageMarker ++ (u8 1 ++ (u8 n ++ (u16 length ++ t))) := ⟨_, rfl⟩
  generalize headerBytes n length = r at *
  have hmarker : rd32 r = some _ := hread ▸ rd32_be32 _ imageMarker
  have hcount : (BitVec.ofNat 8 n).toNat = n := toNat_count (by omega)
  have hlength : (BitVec.ofNat 16 length).toNat = length := toNat_figure (by omega)
  simp only [readHeader, ↓read_bind _ hmarker, u8, u16, List.cons_append, List.nil_append, ↓rd8_bind, ↓rd16_bind, hcount, hlength]
  exact if_pos ⟨trivial, rfl, hlen, hcrc, hn, hlow, hhigh⟩

theorem length_channelRecord (x : Rgb Nat) : (channelRecord x).length = 11 := rfl

theorem readChannels_record {x : Rgb Nat} (h : ∀ c, 1 ≤ x.get c ∧ x.get c ≤ 4095) : readChannels (channelRecord x) = some x := by
  have hcrc : crcHolds (channelRecord x) = true := crcHolds_withCrc _
  have hlen : (channelRecord x).length = channelLength := length_channelRecord x
  obtain ⟨t, hread⟩ : ∃ t, channelRecord x = 3#8 :: (be16 11 ++ (rgb16Bytes (x.map (BitVec.ofNat 16)) ++ t)) := ⟨_, rfl⟩
  generalize channelRecord x = r at *
  obtain ⟨hrefs, hrange⟩ := Rgb.read_back (x := x) (f := BitVec.ofNat 16) (g := BitVec.toNat) (ok := refInRange)
    (fun c => toNat_figure ((h c).2.trans (by decide))) fun c => by simp [refInRange, h]
  have hkind : rd8 r = some (3, _) := congrArg rd8 hread
  simp only [readChannels, ↓read_bind _ hkind, ↓rd16_bind, ↓rdRgb16_bind, hrefs]
  exact if_pos ⟨trivial, rfl, hlen, hcrc, hrange⟩

/-! ## The optics record -/

theorem padded_eq {n : Nat} {x : List Int} (h : x.length ≤ n) :
    padded n x = x.map (BitVec.ofInt 8) ++ List.replicate (n - x.length) 0 := by
  rw [padded, List.take_append, List.take_of_length_le h, List.take_replicate, Nat.min_eq_left (Nat.sub_le _ _), flatMap_i8,
    List.map_append, List.map_replicate]
  rfl

theorem length_padded {n : Nat} {x : List Int} (h : x.length ≤ n) : (padded n x).length = n := by
  rw [padded_eq h, List.length_append, List.length_map, List.length_replicate]
  omega

/-- The figures of a padded list are read back, and zeros lie beyond them (R182). -/
theorem padded_parts {n : Nat} {x : List Int} (h : x.length ≤ n) :
    (padded n x).take x.length = x.map (BitVec.ofInt 8) ∧ ((padded n x).drop x.length).all (· == 0) = true := by
  have hlen : (x.map (BitVec.ofInt 8)).length = x.length := List.length_map _
  rw [padded_eq h, ← hlen, List.take_left, List.drop_left, hlen]
  exact ⟨rfl, List.all_eq_true.2 fun b hb => beq_iff_eq.2 (List.eq_of_mem_replicate hb)⟩

theorem rdMap_bytes (t : List Byte) {v : Vector Int 65} (h : ∀ x ∈ v.toList, -128 ≤ x ∧ x ≤ 127) :
    rdMap (v.toList.map (BitVec.ofInt 8) ++ t) = some (v, t) := by
  have hlen : (v.toList.map (BitVec.ofInt 8)).length = 65 := by simp
  rw [rdMap, read_bind t (rdN_append t hlen)]
  simp only [hlen, dite_true, map_toInt_bytes h]
  rfl

theorem length_opticsRecord {c : Corrections} (h : CorrectionsSound c) : (opticsRecord c).length = 227 := by
  have hmax := h.facets.2
  obtain ⟨hgains, hdelays⟩ := h.lengths
  simp only [opticsRecord, length_withCrc, List.length_append, length_padded (n := 12) (x := c.gains) (by omega),
    length_padded (n := 12) (x := c.delays) (by omega), flatMap_i8, List.length_map, Vector.length_toList, length_u16, u8,
    List.length_singleton]

theorem readOptics_record {c : Corrections} {n : Nat} (h : CorrectionsSound c) (hrev : c.revision = some n) (hn : n ≤ 65535) :
    readOptics (opticsRecord c) = some c := by
  obtain ⟨hmin, hmax⟩ := h.facets
  obtain ⟨hgains, hdelays⟩ := h.lengths
  have hcrc : crcHolds (opticsRecord c) = true := crcHolds_withCrc _
  have hlen : (opticsRecord c).length = opticsLength := length_opticsRecord h
  obtain ⟨t, hread⟩ : ∃ t, opticsRecord c = 2#8 :: (be16 227 ++ (be16 (BitVec.ofNat 16 n) ++ (BitVec.ofNat 8 c.facets :: (padded 12 c.gains ++
      (padded 12 c.delays ++ ((c.shading.get .red).toList.map (BitVec.ofInt 8) ++ ((c.shading.get .grn).toList.map (BitVec.ofInt 8) ++
        ((c.shading.get .blu).toList.map (BitVec.ofInt 8) ++ t)))))))) :=
    ⟨_, by simp only [opticsRecord, withCrc, hrev, flatMap_i8, List.map_append, List.append_assoc]; rfl⟩
  generalize opticsRecord c = r at *
  have hkind : rd8 r = some (2, _) := congrArg rd8 hread
  have hg : c.gains.length ≤ 12 := by omega
  have hd : c.delays.length ≤ 12 := by omega
  have hcount : (BitVec.ofNat 8 c.facets).toNat = c.facets := toNat_count (by omega)
  simp only [readOptics, ↓read_bind _ hkind, ↓rd16_bind, ↓rd8_bind, ↓read_bind _ (rdN_append _ (length_padded hg)),
    ↓read_bind _ (rdN_append _ (length_padded hd)), ↓read_bind _ (rdMap_bytes _ (h.shading .red)),
    ↓read_bind _ (rdMap_bytes _ (h.shading .grn)), ↓read_bind _ (rdMap_bytes _ (h.shading .blu)), hcount]
  obtain ⟨hgtake, hgdrop⟩ := padded_parts hg
  obtain ⟨hdtake, hddrop⟩ := padded_parts hd
  rw [hgains] at hgtake hgdrop
  rw [hdelays] at hdtake hddrop
  have hgrange : ∀ g ∈ c.gains, -128 ≤ g ∧ g ≤ 127 := fun g hg => by have := h.gains g hg; omega
  have hgood : ((c.gains.map (BitVec.ofInt 8)).all fun g => gainInRange g.toInt) = true := by
    rw [List.all_map, List.all_eq_true]
    intro g hg
    simp [gainInRange, toInt_byte (hgrange g hg), h.gains g hg]
  rw [hgtake, hdtake, map_toInt_bytes hgrange, map_toInt_bytes h.delays, toNat_figure hn, ← hrev]
  exact if_pos ⟨trivial, rfl, hlen, hcrc, by simp [facetsInRange, hmin, hmax], hgood, hgdrop, hddrop⟩

/-! ## The profile record -/

theorem rdCurve_bytes (t : List Byte) {k : Curve} (h : validCurve k = true) : rdCurve (curveBytes k ++ t) = some (k, t) := by
  obtain ⟨-, hmax, -, -, -, hrange⟩ := (validCurve_iff k).1 h
  let knots := k.map fun x => (BitVec.ofNat 16 x.code, BitVec.ofNat 16 x.exposure)
  have hbytes : knotBytes k = knots.flatMap fun x => be16 x.1 ++ be16 x.2 := by
    rw [List.flatMap_map]
    rfl
  have hcount : (BitVec.ofNat 8 k.length).toNat = knots.length := (toNat_count (by omega)).trans (List.length_map _).symm
  have hcurve : curveOf knots = k := by
    rw [curveOf, List.map_map]
    refine (List.map_congr_left fun x hx => ?_).trans (List.map_id k)
    have hx := hrange x hx
    exact congrArg₂ Knot.mk (toNat_figure (by omega)) (toNat_figure (by omega))
  simp only [curveBytes, hbytes, u8, List.cons_append, List.nil_append, rdCurve, ↓rd8_bind, hcount, ↓read_bind t (rdKnots_bytes t knots),
    hcurve]

theorem length_curveBytes (k : Curve) : (curveBytes k).length = 1 + 4 * k.length := by
  simp [curveBytes, knotBytes, u8, length_u16, Nat.mul_comm, Nat.add_comm]

/-- The label's field: 12 characters, zero beyond the label. -/
theorem length_labelField {label : List Byte} (h : label.length ≤ 12) : (label ++ List.replicate (12 - label.length) 0).length = 12 := by
  rw [List.length_append, List.length_replicate]
  omega

/-- The length of a profile record from its knots (R177). -/
theorem length_profileRecord {p : Profile} (h : p.label.length ≤ 12) (c : Calibration) :
    (profileRecord p c).length = 41 + 4 * ((c.curve .red).length + (c.curve .grn).length + (c.curve .blu).length) := by
  simp only [profileRecord, length_withCrc, List.length_append, length_labelField h, length_curveBytes, darks_bytes, trims_bytes,
    length_rgb16Bytes, length_u16, u8, List.length_singleton]
  omega

/-- A profile record whose curves are valid is at most 437 bytes long (R177). -/
theorem length_profileRecord_le {p : Profile} (h : p.label.length ≤ 12) {c : Calibration}
    (hc : ∀ ch, validCurve (c.curve ch) = true) : (profileRecord p c).length ≤ 437 := by
  have hknots (ch : Chan) : (c.curve ch).length ≤ 33 := by
    obtain ⟨-, hmax, -⟩ := (validCurve_iff _).1 (hc ch)
    exact hmax
  have hr := hknots .red
  have hg := hknots .grn
  have hb := hknots .blu
  rw [length_profileRecord h]
  omega

/-- The bytes of a profile record, field after field (Table 11-1). -/
theorem profileRecord_fields (p : Profile) (c : Calibration) : ∃ crc : BitVec 16, profileRecord p c =
    1#8 :: (be16 (BitVec.ofNat 16 ((profileRecord p c).length)) ++ (be16 (BitVec.ofNat 16 p.id) ++ (BitVec.ofNat 8 p.label.length ::
      ((p.label ++ List.replicate (12 - p.label.length) 0) ++ (be16 (BitVec.ofNat 16 (c.revision.getD 0)) ++
        (be16 (BitVec.ofNat 16 p.frames) ++ (be16 (BitVec.ofNat 16 c.life) ++ (rgb16Bytes (c.trims.map (BitVec.ofInt 16)) ++
          (rgb16Bytes (c.darks.map (BitVec.ofNat 16)) ++ (curveBytes (c.curve .red) ++ (curveBytes (c.curve .grn) ++
            (curveBytes (c.curve .blu) ++ be16 crc)))))))))))) := by
  have hlen {content : List Byte} : (withCrc (u8 1 ++ u16 (content.length + 5) ++ content)).length = content.length + 5 := by
    simp only [length_withCrc, List.length_append, length_u16, u8, List.length_singleton]
    omega
  exact ⟨_, by
    rw [profileRecord, hlen]
    simp only [withCrc, List.append_assoc, darks_bytes, trims_bytes]
    rfl⟩

/-- A calibration that frames can use is its revision, its three curves and its terms (R3). -/
theorem Calibration.complete_eq {c : Calibration} (h : c.complete) : c =
    ⟨some (c.revision.getD 0), ⟨some (c.curve .red), some (c.curve .grn), some (c.curve .blu)⟩, c.trims, c.darks, c.life⟩ := by
  obtain ⟨⟨r, hr, -⟩, hcurves⟩ := h
  have hcurve (ch : Chan) : c.curves.get ch = some (c.curve ch) := by
    obtain ⟨k, hk, -⟩ := hcurves ch
    rw [Calibration.curve, hk, Option.getD_some]
  have hrev : c.revision = some (c.revision.getD 0) := by rw [hr, Option.getD_some]
  have hall : c.curves = ⟨some (c.curve .red), some (c.curve .grn), some (c.curve .blu)⟩ :=
    Rgb.ext_get fun ch => by cases ch <;> exact hcurve _
  rw [← hrev, ← hall]

/-- The curves of a complete calibration are valid. -/
theorem Calibration.complete_curve {c : Calibration} (h : c.complete) (ch : Chan) : validCurve (c.curve ch) = true := by
  obtain ⟨k, hk, hvalid⟩ := h.2 ch
  rw [Calibration.curve, hk, Option.getD_some]
  exact hvalid

theorem readProfile_record {p : Profile} {c : Calibration} (hid : idInRange p.id = true) (hlabel : labelInRange p.label = true)
    (hc : c.complete) (hframes : p.frames ≤ 65535) (hlife : c.life ≤ 65535)
    (htrims : ∀ ch, -1024 ≤ c.trims.get ch ∧ c.trims.get ch ≤ 1023) (hdarks : ∀ ch, c.darks.get ch ≤ 4095) :
    readProfile (profileRecord p c) =
      some ⟨p.id, p.label, agedState c.life p.frames, some .a, none, some c, none, p.frames, 0, none⟩ := by
  obtain ⟨hcharsle, hprint⟩ := Bool.and_eq_true_iff.1 hlabel
  have hchars : p.label.length ≤ 12 := of_decide_eq_true hcharsle
  obtain ⟨-, hidmax⟩ := (idInRange_iff _).1 hid
  obtain ⟨rev, hrev, hrevmin, hrevmax⟩ := hc.1
  have hvalid := Calibration.complete_curve hc
  have hcrc : crcHolds (profileRecord p c) = true := crcHolds_withCrc _
  have hlength : (BitVec.ofNat 16 (profileRecord p c).length).toNat = (profileRecord p c).length :=
    toNat_figure ((length_profileRecord_le hchars hvalid).trans (by decide))
  obtain ⟨crc, hread⟩ := profileRecord_fields p c
  generalize profileRecord p c = r at *
  have hkind : rd8 r = some (1, _) := congrArg rd8 hread
  have hcount : (BitVec.ofNat 8 p.label.length).toNat = p.label.length := toNat_count (by omega)
  have hidread : (BitVec.ofNat 16 p.id).toNat = p.id := toNat_figure (by omega)
  have hrevread : (BitVec.ofNat 16 rev).toNat = rev := toNat_figure hrevmax
  have hrevne : BitVec.ofNat 16 rev ≠ 0 := fun hzero => by
    rw [hzero] at hrevread
    exact absurd hrevmin (hrevread ▸ by decide)
  obtain ⟨htrimsread, htrimsgood⟩ := Rgb.read_back (x := c.trims) (f := BitVec.ofInt 16) (g := BitVec.toInt) (ok := trimInRange)
    (fun ch => toInt_figure (by have := htrims ch; omega)) fun ch => by simp [trimInRange, htrims]
  obtain ⟨hdarksread, hdarksgood⟩ := Rgb.read_back (x := c.darks) (f := BitVec.ofNat 16) (g := BitVec.toNat) (ok := codeInRange)
    (fun ch => toNat_figure ((hdarks ch).trans (by decide))) fun ch => by simp [codeInRange, hdarks]
  simp only [readProfile, ↓read_bind _ hkind, ↓rd16_bind, ↓rd8_bind, ↓read_bind _ (rdN_append _ (length_labelField hchars)), ↓rdRgb16_bind,
    ↓read_bind _ (rdCurve_bytes _ (hvalid .red)), ↓read_bind _ (rdCurve_bytes _ (hvalid .grn)),
    ↓read_bind _ (rdCurve_bytes _ (hvalid .blu)), hlength, hidread, hcount, List.take_left, toNat_figure hframes, toNat_figure hlife,
    htrimsread, hdarksread, hrev, Option.getD_some, hrevread]
  have hcal := Calibration.complete_eq hc
  rw [hrev, Option.getD_some] at hcal
  rw [← hcal]
  exact if_pos ⟨trivial, trivial, length_be16 crc, hcrc, hid, hchars, hprint, hrevne, hvalid .red, hvalid .grn, hvalid .blu,
    htrimsgood, hdarksgood⟩

/-- Settles O58: the bytes programmed are read back, each operation in its page, and each kind of record is read whole. -/
theorem savedRecordsLoadBack : Obligations.SavedRecordsLoadBack := by
  refine ⟨fun f a bytes b hwf hleft => read_programsOf hwf hleft a bytes b, fun a bytes => pageSplit_inPage _ a bytes, fun f b => ⟨rfl,
    fun p c hid hlabel _ hc hframes hlife htrims hdarks =>
      ⟨readProfile_record hid hlabel hc hframes hlife htrims hdarks, length_profileRecord ?_ c⟩,
    fun c n h hrev hn => ⟨readOptics_record h hrev hn, length_opticsRecord h⟩,
    fun x h => ⟨readChannels_record h, length_channelRecord x⟩,
    fun n length hn hlow hhigh => ⟨readHeader_bytes hn hlow hhigh, length_headerBytes n length⟩⟩⟩
  exact ((labelInRange_iff p.label).1 hlabel).1

end Sys2Proof.Machine
end

section
/-! The step with a command at the front of the queue (O1), beside the steps of an empty queue (`step_idle`, `step_processing`). -/

namespace Sys2Proof.Machine

open Sys2Proof

/-- Settles O1: of the step's three cases the queue's own comes first, before the link's command and the REFCLK period. -/
theorem stepRunsTheFrontCommand : Obligations.StepRunsTheFrontCommand := by
  intro s c rest hqueue
  rw [step, hqueue]

end Sys2Proof.Machine
end
